-- ==== Sys2Proof/Word.lean ====
section
/-! DEFINITION. The plainest words of the VWL-512X: a byte of the hold, a register value, an instant. -/

namespace Sys2Proof

/-- One byte of an addressed memory. -/
abbrev Byte := BitVec 8

/-- The contents of a register or of a field of one, as the natural number its bits spell (R8: bit 0 is the least
significant bit). Every write truncates to the field's width, so a stored value is always within it. -/
abbrev Reg := Nat

/-- An instant of module time in whole nanoseconds since the zero of module time (R7, R139). -/
abbrev Ns := Nat

end Sys2Proof
end

