-- ==== Sys2Proof/Payload.lean ====
section
/-! DEFINITION. The records that commands carry: who accesses, and what the device reads from host memory or receives. -/

namespace Sys2Proof

/-- Who makes a register access (R499): a PCIe function, or a master of the internal matrix (R397). -/
inductive Requester where
  | fn (f : Fin 64)
  | master (m : Fin 10)
  deriving DecidableEq, Repr

/-- A submission entry as it lies in host memory (R217): its 64 bytes, little-endian; the words of its item list and of nothing
beyond, as the device finds them at admission (R218), and whether they were read without error (R366, R369). -/
structure RawEntry where
  raw    : BitVec 512
  words  : List Nat
  listOk : Bool
  deriving DecidableEq, Repr

/-- A submission entry as its fields (R217). -/
structure Entry where
  opcode : Nat
  asap   : Bool
  notify : Bool
  fence  : Bool
  items  : Nat
  user   : Nat
  stamp  : Nat
  arg    : Nat
  list   : Nat
  arg20  : Nat
  /-- A reserved bit of the entry is not 0. -/
  resv   : Bool
  /-- The item words of the list at LIST, when ITEMS is 2 or more. -/
  words  : List Nat
  /-- The list was read without error (R366, R369). -/
  listOk : Bool
  deriving DecidableEq, Repr

/-- A file as the device reads it from host memory, a table source, a calibration file, a manifest or a proposal (R118, R187, R236,
R259): whether it was read without error, and its bytes. -/
structure HostFile where
  readOk : Bool
  bytes  : List (BitVec 8)
  deriving DecidableEq, Repr

/-- A unit lost (R97): a cell whose driver failed, a middle block taken out of service, a reach without its clock. -/
inductive LostUnit where
  | cell (i : Fin 13824)
  | middle (m : Fin 32)
  | clock (n : Fin 12)
  deriving DecidableEq, Repr

/-- The toll register of a place that a write changes (R232). -/
inductive TollReg where
  | rate | depth | debt | weight
  deriving DecidableEq, Repr

/-- The operation that a read of host memory was for (R369): the next entry of a ring group; an item list or a table source,
by tag; the manifest, calibration file or proposal being read; a DMA channel with the bytes it has not written, the failing
address and the bytes of its source that had arrived. -/
inductive ReadOp where
  | entry (g : Fin 65)
  | list (tag : Nat)
  | table (tag : Nat)
  | manifest
  | calibration
  | proposal
  | dma (c : Fin 64) (left addr : Nat) (data : List (BitVec 8))
  deriving DecidableEq, Repr

/-- What a host reads in a function's configuration space (R357, R359): Device ID, class code, TotalVFs, InitialVFs, First VF Offset, VF Stride,
NumVFs, VF Enable, the capability word of the CXL DVSEC. -/
inductive ConfReg where
  | deviceId | classCode | totalVfs | initialVfs | firstVf | vfStride | numVfs | vfEnable | cxlCap
  deriving DecidableEq, Repr

/-- What a host configuration request asks of a function (R356, R359, R457): a read or a write that the spec gives no effect of
its own, a read of a value the spec gives, or a write of NumVFs, of VF Enable, of the enable of CXL.cache, or of the MSI-X enable and function mask. -/
inductive ConfReq where
  | other
  | read (reg : ConfReg)
  | numVfs (n : Nat)
  | vfEnable (on : Bool)
  | cacheEnable (on : Bool)
  | msix (on mask : Bool)
  deriving DecidableEq, Repr

/-- A frame as it arrives: its 32-bit words from offset 0 on, and whether the codeword it starts in carries WIN (R327, R333); on the
management port the words of the Ethernet payload (R372). -/
structure RawFrame where
  words : List Nat
  win   : Bool
  deriving DecidableEq, Repr

/-- A frame of the ferry lanes read (R333): header fields, the 32-bit words of its payload from 0x10, whether its CRC agrees,
and whether the codeword it starts in carries WIN. -/
structure Frame where
  typ    : Nat
  cls    : Nat
  bcast  : Bool
  length : Nat
  hops   : Nat
  src    : Nat
  dst    : Nat
  lseq   : Nat
  words  : List Nat
  crcOk  : Bool
  win    : Bool
  deriving DecidableEq, Repr

/-- What the expander behind the hold port turns out to be once its setup ends (R377): none, one of another type, or a
Type 3 device with a capacity in GiB, its rate (1: 32 GT/s, 2: 64 GT/s) and its lanes. -/
inductive Expander where
  | absent
  | notType3
  | type3 (capacity rate width : Nat)
  deriving DecidableEq, Repr

/-- Who read the hold and got poison or a media error (R384): step streaming or compilation, the addition to a cell's
wear counter, a DMA channel with the bytes it has not written and the failing address. -/
inductive HoldUser where
  | table
  | wear (i : Fin 13824)
  | dma (c : Fin 64) (left addr : Nat)
  deriving DecidableEq, Repr

/-- A fault as a detecting unit raises it (R287, R304, R305): class, unit kind and index, sub-code, and what the unit
itself gives the snapshot (failing address, syndrome, replays, failing word; or its status word). -/
structure FaultIn where
  cls    : Nat
  unit   : Nat
  index  : Nat
  sub    : Nat
  detail : List Nat
  deriving DecidableEq, Repr

/-- What a reach run sampled at a cell it swept (R195): whether its lamp circuit lit the upper line, and the raw codes of the upper and
lower probes at the 16 steps, in each state swept. -/
structure Sweep where
  cell  : Nat
  upper : Bool
  bar   : List (Int × Int)
  cross : List (Int × Int)
  deriving DecidableEq, Repr

end Sys2Proof
end

