-- ==== Sys2Proof/Syntax.lean ====
section
/-! DEFINITION. The commands the block takes: one constructor per row of spec/opcode_table.json. -/

namespace Sys2Proof

/-- A command, named after its row; the rule that governs it stands in parentheses. Indices of units are bounded by their type; other operands are what the outside world brings (values, times, records read or received). -/
inductive Instr where
  /-- REGISTER_WRITE (R10). -/
  | registerWrite (r : Requester) (off : Nat) (wide : Bool) (v : Nat)
  /-- READ_64_LOW (R8). -/
  | read64Low (r : Requester) (off : Nat)
  /-- WRITE_64_HIGH (R8). -/
  | write64High (r : Requester) (off : Nat) (v : Nat)
  /-- READ_CLEAR (R11). -/
  | readClear (r : Requester) (off : Nat) (wide : Bool)
  /-- ACCESS_BAD_WIDTH (R9). -/
  | accessBadWidth (r : Requester) (off : Nat) (bytes : Nat) (hdr : List Nat) (fatal : Bool)
  /-- BACKBONE_WORD (R32). -/
  | backboneWord (l : Fin 66) (w : Nat) (bad : Nat)
  /-- BACKBONE_NAK (R33). -/
  | backboneNak (l : Fin 66)
  /-- REACH_CLOCK_LOSS (R37). -/
  | reachClockLoss (n : Fin 12)
  /-- CAPSTAN_FAIL (R38). -/
  | capstanFail (b : Fin 96) (conv : Option (Fin 8))
  /-- ADOPTION_START (R177). -/
  | adoptionStart (b : Fin 96)
  /-- LAMP_GRANT (R27). -/
  | lampGrant
  /-- LAMP_LEAK (R59). -/
  | lampLeak (b : Fin 32) (power : Int)
  /-- FLIP (R115). -/
  | flip (x : Nat)
  /-- BERTH_RELOAD (R115). -/
  | berthReload (b : Fin 96)
  /-- BLK_RELOAD_OVERRUN (R116). -/
  | blkReloadOverrun (b : Fin 96)
  /-- HELDBACK_PART_EXECUTE (R116). -/
  | heldbackPartExecute (x : Nat) (b : Fin 96)
  /-- VOA_PREDARK (R60). -/
  | voaPredark (x : Nat)
  /-- PRT_OVERPOWER (R62). -/
  | prtOverpower (p : Fin 512)
  /-- PRT_VOA_RB (R17). -/
  | prtVoaRb (o : Fin 512) (rb : Nat)
  /-- PARK (R66). -/
  | park (blocks : List (Fin 96))
  /-- PARK_SWITCH (R66). -/
  | parkSwitch
  /-- WEAR_ADD (R75). -/
  | wearAdd (k : Fin 13824)
  /-- WEAR_RESTORE (R77). -/
  | wearRestore (r : Requester) (k : Fin 13824) (count : Nat)
  /-- CROSSING (R219). -/
  | crossing (tag : Nat)
  /-- CANCEL (R111). -/
  | cancel (g : Fin 65) (entry : RawEntry)
  /-- TKT_PRIO (R219). -/
  | tktPrio (tag : Nat)
  /-- TID_LOAD (R120). -/
  | tidLoad (tag : Nat) (src : HostFile)
  /-- TABLE_COMPILE_DONE (R120). -/
  | tableCompileDone (n : Fin 1024)
  /-- TID_START (R123). -/
  | tidStart (tag : Nat)
  /-- TID_STOP (R128). -/
  | tidStop (tag : Nat)
  /-- TID_UNLOAD (R128). -/
  | tidUnload (tag : Nat)
  /-- SYS_PART (R131). -/
  | sysPart (tag : Nat)
  /-- SYS_PROPOSE (R131). -/
  | sysPropose (tag : Nat)
  /-- NOP (R219). -/
  | nop (tag : Nat)
  /-- SCHEDULER_DECISION (R227). -/
  | schedulerDecision
  /-- SOLVE (R94). -/
  | solve
  /-- COMPUTE_DONE (R231). -/
  | computeDone (x : Nat)
  /-- BLOCK_READY (R108). -/
  | blockReady (x : Nat) (b : Fin 96)
  /-- UNIT_LOST (R97). -/
  | unitLost (unit : LostUnit)
  /-- RESTORE_SOLVE (R98). -/
  | restoreSolve
  /-- LONG_OPEN (R92). -/
  | longOpen (k : Fin 13824)
  /-- TICKET_TELEMETRY (R82). -/
  | ticketTelemetry (ins : List (Nat × Int)) (outs : List (Nat × Int)) (drains : List (Nat × Int)) (lamps : List (Nat × Int))
  /-- TABLE_STEP_COMMIT (R124). -/
  | tableStepCommit (n : Fin 1024)
  /-- STEP_STREAM (R122). -/
  | stepStream (n : Fin 1024)
  /-- TABLE_RECOMPILE (R127). -/
  | tableRecompile (n : Fin 1024)
  /-- TABLE_STOP (R128). -/
  | tableStop (n : Fin 1024)
  /-- PROPOSAL (R131). -/
  | proposal (k : Fin 8) (f : RawFrame)
  /-- VOTE (R132). -/
  | vote (k : Fin 8) (f : RawFrame)
  /-- DECISION (R133). -/
  | decision (k : Fin 8) (f : RawFrame)
  /-- DECISION_REPORT (R134). -/
  | decisionReport (k : Fin 8) (f : RawFrame)
  /-- VOTE_DEADLINE (R132). -/
  | voteDeadline (id : Nat)
  /-- DECISION_CHECK (R133). -/
  | decisionCheck (id : Nat)
  /-- TIME_SNAPSHOT (R142). -/
  | timeSnapshot (r : Requester)
  /-- OFFSET_SAMPLE (R144). -/
  | offsetSample
  /-- TIM_LOSS_TIMEOUT (R146). -/
  | timLossTimeout
  /-- TIME_SOURCE_SELECT (R146). -/
  | timeSourceSelect (r : Requester) (src : Fin 4) (port : Fin 8)
  /-- FORCE (R149). -/
  | force (r : Requester)
  /-- SUSPEND (R150). -/
  | suspend (r : Requester) (on : Bool)
  /-- REPLICA_CHECK (R152). -/
  | replicaCheck (offs : List (Nat × Int))
  /-- TCXO_LOSS (R152). -/
  | tcxoLoss
  /-- PPS_IN_EDGE (R143). -/
  | ppsInEdge
  /-- PTP_SYNC (R143). -/
  | ptpSync (udp : Bool) (domain : Nat) (port : Nat) (theta : Int)
  /-- PTP_ANNOUNCE (R146). -/
  | ptpAnnounce (udp : Bool) (domain : Nat) (gm : Nat) (port : Nat)
  /-- CELL_LOOP_UPDATE (R159). -/
  | cellLoopUpdate (k : Fin 13824) (rawU : Int) (rawL : Int)
  /-- CAP_RECLOSE (R170). -/
  | capReclose (r : Requester) (b : Fin 96) (c : Fin 256)
  /-- PORT_GROUP_UPDATE (R171). -/
  | portGroupUpdate (o : Fin 512) (raw : Int)
  /-- FB_LOST_CLEAR (R176). -/
  | fbLostClear (r : Requester) (o : Fin 512)
  /-- PRIV_CLAIM_LAPSE (R163). -/
  | privClaimLapse (k : Fin 13824)
  /-- CAL_LOAD (R189). -/
  | calLoad (r : Requester)
  /-- CAL_LOAD_COMPLETE (R189). -/
  | calLoadComplete (f : HostFile)
  /-- DUMP (R191). -/
  | dump (r : Requester)
  /-- DUMP_COMPLETE (R191). -/
  | dumpComplete
  /-- ADC_SELF (R192). -/
  | adcSelf (r : Requester)
  /-- ADC_SELF_COMPLETE (R192). -/
  | adcSelfComplete (results : List (Int × Nat))
  /-- CAL_REACH_REQ (R193). -/
  | calReachReq (r : Requester) (mask : Nat)
  /-- REACH_RUN_START (R194). -/
  | reachRunStart (n : Fin 12) (circuits : List (Fin 32 × Fin 512))
  /-- REACH_RUN_END (R198). -/
  | reachRunEnd (n : Fin 12) (sweeps : List Sweep)
  /-- CAL_SWITCH (R198). -/
  | calSwitch (n : Fin 12)
  /-- CAL_ACC_WRITE (R200). -/
  | calAccWrite (r : Requester) (v : Nat)
  /-- HOUSEKEEPING_ROUND (R205). -/
  | housekeepingRound (refs : List (Fin 24 × List Nat))
  /-- HOUSEKEEPING_REPORT (R205). -/
  | housekeepingReport (raws : List (Option Int)) (rails : List Int) (lamp : Int)
  /-- DOORBELL (R366). -/
  | doorbell (r : Requester) (g : Fin 65) (tail : Nat)
  /-- ENTRY_FETCH (R366). -/
  | entryFetch (g : Fin 65) (entry : Option RawEntry)
  /-- CQ_HEAD_WRITE (R222). -/
  | cqHeadWrite (r : Requester) (g : Fin 65) (index : Nat)
  /-- EQ_HEAD_WRITE (R222). -/
  | eqHeadWrite (r : Requester) (g : Fin 65) (index : Nat)
  /-- MSIX_MESSAGE (R363). -/
  | msixMessage (g : Fin 64) (eq : Bool)
  /-- TOLL_CHANGE (R232). -/
  | tollChange (r : Requester) (p : Fin 64) (which : TollReg) (v : Nat)
  /-- FLR (R234). -/
  | flr (f : Fin 64)
  /-- MAN_LOAD (R245). -/
  | manLoad (r : Requester)
  /-- MAN_LOAD_COMPLETE (R248). -/
  | manLoadComplete (f : HostFile)
  /-- MAN_COMMIT (R250). -/
  | manCommit (r : Requester)
  /-- COMMIT_INSTANT (R250). -/
  | commitInstant
  /-- DISCARD (R251). -/
  | discard (r : Requester)
  /-- FIELD_WRITE (R249). -/
  | fieldWrite (r : Requester) (v : Nat)
  /-- BLOCK_OUT (R242). -/
  | blockOut (r : Requester) (b : Fin 96) (isIn : Bool) (force : Bool)
  /-- MIDDLE_BLOCK_PARK (R242). -/
  | middleBlockPark (b : Fin 96)
  /-- BLOCK_IN (R241). -/
  | blockIn (r : Requester) (b : Fin 96)
  /-- BLOCK_ENTER_SERVICE (R241). -/
  | blockEnterService (b : Fin 96)
  /-- SEAL_CLOSE (R257). -/
  | sealClose (r : Requester)
  /-- PROPOSE (R260). -/
  | propose (r : Requester)
  /-- PROPOSAL_STAGE (R260). -/
  | proposalStage (f : HostFile)
  /-- WITHDRAW (R261). -/
  | withdraw (r : Requester)
  /-- APPROVE_A (R262). -/
  | approveA (r : Requester)
  /-- APPROVAL (R262). -/
  | approval (k : Option (Fin 8)) (mac : Nat) (f : RawFrame)
  /-- PROPOSAL_EXPIRY (R262). -/
  | proposalExpiry
  /-- SEAL_APPLY (R263). -/
  | sealApply
  /-- KEY_LOAD (R256). -/
  | keyLoad (k : Option (Fin 8)) (mac : Nat) (f : RawFrame)
  /-- STATUS_REQ (R350). -/
  | statusReq (k : Option (Fin 8)) (mac : Nat) (f : RawFrame)
  /-- TIME_WORD (R268). -/
  | timeWord (read : Bool)
  /-- COMMIT_POINT_CLOSE (R269). -/
  | commitPointClose (words : List (Fin 99 × Nat))
  /-- CPN_REPLY (R269). -/
  | cpnReply (isMatch : Bool)
  /-- COMPARE_TIMEOUT (R270). -/
  | compareTimeout
  /-- KNOWN_ANSWER_DONE (R271). -/
  | knownAnswerDone (act : Bool) (stb : Bool)
  /-- OUTPUT_STAGE_WORD (R272). -/
  | outputStageWord (k : Fin 99) (w : Fin 2) (claim : Nat) (cpn : Nat) (fin : Bool)
  /-- CLAIM_RAISE (R273). -/
  | claimRaise (w : Fin 2)
  /-- TOKEN_REQUEST (R275). -/
  | tokenRequest (w : Fin 2)
  /-- LEASE_RENEW (R275). -/
  | leaseRenew
  /-- LEASE_LAPSE (R275). -/
  | leaseLapse
  /-- HEARTBEAT (R276). -/
  | heartbeat (w : Fin 2) (bb : Bool) (wire : Bool)
  /-- HEARTBEAT_LOSS (R277). -/
  | heartbeatLoss (w : Fin 2) (bb : Bool) (wire : Bool)
  /-- FATAL (R276). -/
  | fatal (w : Fin 2)
  /-- SWAP (R285). -/
  | swap (r : Requester)
  /-- FAIL (R285). -/
  | fail (r : Requester) (w : Fin 2)
  /-- RESYNC (R281). -/
  | resync (r : Requester) (w : Fin 2)
  /-- BOOT_COMPLETE (R284). -/
  | bootComplete (w : Fin 2) (ok : Bool)
  /-- BOOT_TIMEOUT (R284). -/
  | bootTimeout (w : Fin 2)
  /-- RESYNC_COMPLETE (R281). -/
  | resyncComplete (w : Fin 2) (slice : Fin 10) (bist : Bool) (kat : Bool) (inj : Bool)
  /-- HEALTH_REPORT (R283). -/
  | healthReport (w : Fin 2) (slice : Fin 10) (bist : Bool) (kat : Bool) (inj : Bool)
  /-- FAULT (R287). -/
  | fault (faults : List FaultIn)
  /-- SAFE_TICKETS_STRANDED (R297). -/
  | safeTicketsStranded
  /-- L4_RESET (R299). -/
  | l4Reset
  /-- CLASS_TIMER_EXPIRY (R289). -/
  | classTimerExpiry (c : Fin 128)
  /-- ACKNOWLEDGE (R291). -/
  | acknowledge (r : Requester) (c : Fin 128)
  /-- UNFREEZE (R303). -/
  | unfreeze (r : Requester)
  /-- CONTACT_EDGE (R309). -/
  | contactEdge (k : Fin 8) (a closed : Bool)
  /-- CONTACT_ACCEPT (R309). -/
  | contactAccept (k : Fin 8) (a : Bool) (closed : Bool)
  /-- DARK_CONFIRM (R314). -/
  | darkConfirm
  /-- DISCREPANCY (R312). -/
  | discrepancy (k : Fin 8)
  /-- DISC_CLEAR (R312). -/
  | discClear (r : Requester) (mask : Nat)
  /-- SLOT_RESTART (R316). -/
  | slotRestart (r : Requester) (mask : Nat)
  /-- SAFE_OK_READBACK (R318). -/
  | safeOkReadback
  /-- ILK_WATCHDOG (R319). -/
  | ilkWatchdog
  /-- TEST_DARKENING (R320). -/
  | testDarkening (fails : List (Bool × Nat))
  /-- SAFETY_STATE_SEND (R321). -/
  | safetyStateSend (e : Fin 16)
  /-- SAFETY (R322). -/
  | safety (k : Option (Fin 8)) (f : RawFrame)
  /-- SAFETY_ACK (R321). -/
  | safetyAck (k : Option (Fin 8)) (f : RawFrame)
  /-- SAFETY_COPY_TIMEOUT (R322). -/
  | safetyCopyTimeout (k : Fin 32) (which : Fin 3)
  /-- FRAME_FORWARD (R331). -/
  | frameForward (k : Fin 8) (f : RawFrame)
  /-- FERRY_PORT_ENABLE (R332). -/
  | ferryPortEnable (r : Requester) (k : Fin 8) (on : Bool)
  /-- HELLO (R332). -/
  | hello (k : Fin 8) (f : RawFrame)
  /-- HELLO_SEND (R332). -/
  | helloSend (k : Fin 8)
  /-- PORT_UP (R332). -/
  | portUp (k : Fin 8) (skew0 : Nat) (skew1 : Nat)
  /-- SAILING_WINDOW (R336). -/
  | sailingWindow (k : Fin 8) (codewords : Nat)
  /-- NAK (R340). -/
  | nak (k : Fin 8) (f : RawFrame)
  /-- REPLAY_TIMEOUT (R340). -/
  | replayTimeout (k : Fin 8)
  /-- VIOLATION_SECOND (R343). -/
  | violationSecond (k : Fin 8)
  /-- LOCK_LOSS (R343). -/
  | lockLoss (lane : Fin 16)
  /-- LOCK_RETRAIN (R344). -/
  | lockRetrain (k : Fin 8)
  /-- EXCHANGE_START (R346). -/
  | exchangeStart (k : Fin 8)
  /-- SYNC (R346). -/
  | sync (k : Fin 8) (f : RawFrame)
  /-- DELAY_REQ (R346). -/
  | delayReq (k : Fin 8) (f : RawFrame)
  /-- DELAY_RESP (R346). -/
  | delayResp (k : Fin 8) (f : RawFrame)
  /-- EXCHANGE_ABANDON (R346). -/
  | exchangeAbandon (k : Fin 8)
  /-- TELEMETRY_SEND (R351). -/
  | telemetrySend
  /-- TELEMETRY (R351). -/
  | telemetry (k : Fin 8) (f : RawFrame)
  /-- TRIGGER (R439). -/
  | trigger (k : Fin 8) (f : RawFrame)
  /-- ARP_REQUEST (R372). -/
  | arpRequest (ip sip mac : Nat)
  /-- MGMT_FRAME_DROP (R372). -/
  | mgmtFrameDrop (fcs : Bool)
  /-- HOST_SNOOP (R357). -/
  | hostSnoop
  /-- HOST_REQUEST_TIMEOUT (R368). -/
  | hostRequestTimeout (f : Fin 64) (hdr : List Nat) (fatal : Bool)
  /-- POISON_WRITE (R368). -/
  | poisonWrite (f : Fin 64) (hdr : List Nat) (fatal : Bool)
  /-- READ_FAIL (R369). -/
  | readFail (kind : Nat) (hdr : List Nat) (fatal : Bool) (op : ReadOp)
  /-- UNEXPECTED_CPL (R369). -/
  | unexpectedCpl (f : Fin 64) (hdr : List Nat) (fatal : Bool)
  /-- LINK_DOWN (R370). -/
  | linkDown (hot : Bool)
  /-- PERST_N_ASSERT (R457). -/
  | perstNAssert
  /-- PERST_N_RELEASE (R457). -/
  | perstNRelease
  /-- POWER_STATE_CHANGE (R371). -/
  | powerStateChange (f : Fin 64) (d3 : Bool) (noSoft : Bool)
  /-- I2C_POINTER_WRITE (R374). -/
  | i2cPointerWrite (hi : Byte) (lo : Byte)
  /-- I2C_READ (R374). -/
  | i2cRead (n : Nat)
  /-- HOLD_UP (R377). -/
  | holdUp (e : Expander)
  /-- HOLD_LOSS (R383). -/
  | holdLoss (left : List (Nat × Nat))
  /-- HOLD_POISON (R384). -/
  | holdPoison (u : HoldUser)
  /-- WEAR_FLUSH (R380). -/
  | wearFlush (r : Requester)
  /-- WEAR_FLUSH_DONE (R380). -/
  | wearFlushDone
  /-- HISTORY_RECORD (R382). -/
  | historyRecord
  /-- HOLD_ENABLE (R386). -/
  | holdEnable (r : Requester) (on : Bool)
  /-- DMA_START (R388). -/
  | dmaStart (r : Requester) (c : Fin 64)
  /-- DMA_ARM (R389). -/
  | dmaArm (r : Requester) (c : Fin 64)
  /-- DMA_DISABLE (R392). -/
  | dmaDisable (r : Requester) (c : Fin 64) (on : Bool) (done : List (Nat × Byte))
  /-- DMA_DRAINED (R392). -/
  | dmaDrained (c : Fin 64)
  /-- DMA_COMPLETE (R394). -/
  | dmaComplete (c : Fin 64) (err : Nat) (left : Nat) (addr : Nat) (data : List Byte)
  /-- MATRIX_ACCESS (R399). -/
  | matrixAccess (r : Requester) (addr : Nat) (wr : Option Nat) (wide : Bool) (wait : Bool)
  /-- REQUEST_AGEING (R399). -/
  | requestAgeing (t : Fin 20) (k : Fin 10)
  /-- HANG_RELEASE (R406). -/
  | hangRelease (r : Requester) (mask : Nat)
  /-- MASTER_RESET (R407). -/
  | masterReset (k : Fin 10)
  /-- SVY_REQ (R417). -/
  | svyReq (r : Requester) (c : Fin 24) (w : Nat)
  /-- CONVERSION_DONE (R416). -/
  | conversionDone (c : Fin 24) (samples : List Nat)
  /-- SVY_RES_POP (R418). -/
  | svyResPop (r : Requester) (c : Fin 24)
  /-- INJECTION_TRIGGER (R419). -/
  | injectionTrigger (c : Fin 24)
  /-- OPEN_WIRE_STEP (R425). -/
  | openWireStep (c : Fin 24) (raw1 : Nat) (raw2 : Nat)
  /-- REC_ARM (R435). -/
  | recArm (r : Requester) (n : Fin 12)
  /-- REC_ARM_TIME_REACHED (R435). -/
  | recArmTimeReached (n : Fin 12)
  /-- DISARM (R439). -/
  | disarm (r : Requester) (n : Fin 12)
  /-- REC_FORCE (R439). -/
  | recForce (r : Requester) (n : Fin 12)
  /-- REC_MARK (R432). -/
  | recMark (r : Requester) (n : Fin 12) (v : Nat)
  /-- PRE_FILLED (R434). -/
  | preFilled (n : Fin 12)
  /-- SEQUENCER_BRANCH (R438). -/
  | sequencerBranch (n : Fin 12)
  /-- SEQUENCER_TIMER (R437). -/
  | sequencerTimer (n : Fin 12) (t : Fin 2)
  /-- FIRE_INSTANT (R440). -/
  | fireInstant (n : Fin 12)
  /-- CAPTURE_DONE (R441). -/
  | captureDone (n : Fin 12)
  /-- COLD_RESET (R446). -/
  | coldReset
  /-- COLD_RESET_RELEASE (R456). -/
  | coldResetRelease
  /-- BOOT_DONE (R456). -/
  | bootDone
  /-- RST_N_LOW (R448). -/
  | rstNLow
  /-- MOOR_END (R449). -/
  | moorEnd
  /-- ISLAND_RESET (R449). -/
  | islandReset
  /-- MODULE_RESET_RELEASE (R449). -/
  | moduleResetRelease
  /-- RST_MODULE (R452). -/
  | rstModule (r : Requester) (v : Nat)
  /-- RST_HELM (R452). -/
  | rstHelm (r : Requester) (v : Nat)
  /-- SETTLEMENT (R462). -/
  | settlement
  /-- LEASE_GO (R460). -/
  | leaseGo (r : Requester)
  /-- RAIL_LOSS (R479). -/
  | railLoss (k : Fin 9) (left : List (Nat × Nat))
  /-- FL_CLEAR (R468). -/
  | flClear (r : Requester) (l : Fin 16)
  /-- FL_INJECT (R469). -/
  | flInject (r : Requester) (l : Fin 16) (n : Nat)
  /-- BB_INJECT (R472). -/
  | bbInject (r : Requester) (p : Fin 18) (n : Nat)
  /-- BB_CLEAR (R471). -/
  | bbClear (r : Requester) (p : Fin 18)
  /-- GANGWAY_GO (R473). -/
  | gangwayGo (r : Requester)
  /-- GANGWAY_TEST_DONE (R474). -/
  | gangwayTestDone
  /-- HOLD_TEST_MODE (R476). -/
  | holdTestMode (r : Requester) (mode : Nat)
  /-- ENTER_COMPLIANCE (R475). -/
  | enterCompliance
  /-- CODEWORD (R328). -/
  | codeword (k : Fin 8) (h : Nat) (uncorr : Bool) (corr0 : Bool) (corr1 : Bool)
  /-- PPS_OUT (R153). -/
  | ppsOut
  /-- BELL_TOGGLE (R300). -/
  | bellToggle
  /-- REACH_CLOCK_RETURN (R97). -/
  | reachClockReturn (n : Fin 12)
  /-- CORRECTED_MEDIA_ERROR (R384). -/
  | correctedMediaError
  /-- CXL_TRAINING_END (R356). -/
  | cxlTrainingEnd (rate : Nat) (width : Nat) (cxl : Bool)
  /-- CONFIGURATION_REQUEST (R457). -/
  | configurationRequest (f : Fin 64) (c : ConfReq)
  /-- UR_OTHER (R368). -/
  | urOther (f : Fin 64) (hdr : List Nat) (fatal : Bool)
  /-- MALFORMED_TLP (R368). -/
  | malformedTlp (cache : Bool) (f : Fin 64) (hdr : List Nat) (fatal : Bool)
  /-- RAIL_RETURN (R479). -/
  | railReturn (k : Fin 9)
  /-- PRBS_CHECKER_LOCK (R468). -/
  | prbsCheckerLock (k : Fin 34) (rx : List Bool) (par : Nat)
  /-- SAFETY_ACK_TIMEOUT (R321). -/
  | safetyAckTimeout (e : Fin 16) (netA : Bool)
  /-- REMOTE_ARM_INSTANT (R439). -/
  | remoteArmInstant (g : Fin 256)
  /-- DARK_CONFIRM_TIMEOUT (R317). -/
  | darkConfirmTimeout (o : Fin 512)
  deriving DecidableEq, Repr

end Sys2Proof
end

