-- ==== Sys2Proof/Machine/Hash.lean ====
section
/-! DEFINITION. The two codes over bytes that the spec names: CRC-32C, and SHA-256 with the HMAC over it. -/

namespace Sys2Proof.Machine

/-! ## CRC-32C -/

/-- One byte into a reflected CRC-32C. -/
def crcByte (c b : Nat) : Nat :=
  (List.range 8).foldl (fun c _ => if c % 2 = 1 then Nat.xor (c / 2) 0x82F63B78 else c / 2) (Nat.xor c b)

/-- The CRC-32C of bytes. (Log entry 37 PRESUMED.) -/
def crcOf (l : List Byte) : Nat := Nat.xor (l.foldl (fun c b => crcByte c b.toNat) 0xFFFFFFFF) 0xFFFFFFFF

/-- The bytes of 32-bit words, little-endian. -/
def wordBytes (ws : List Nat) : List Byte :=
  ws.flatMap (fun w => (List.range 4).map (fun k => BitVec.ofNat 8 (w / 2 ^ (8 * k))))

/-- The CRC-32C of 32-bit words, little-endian. -/
def crc32c (ws : List Nat) : Nat := crcOf (wordBytes ws)

/-! ## CRC-64 of ECMA-182 -/

/-- One byte into a CRC-64 of ECMA-182: polynomial 0x42F0E1EBA9EA3693, highest bit first. -/
def crc64Byte (c b : Nat) : Nat :=
  (List.range 8).foldl (fun c _ =>
    if 2 ^ 63 ≤ c then Nat.xor (c * 2 % 2 ^ 64) 0x42F0E1EBA9EA3693 else c * 2) (Nat.xor c (b * 2 ^ 56))

/-- The CRC-64 (ECMA-182) of bytes. (Log entry 37 PRESUMED.) -/
def crc64 (l : List Byte) : Nat := l.foldl (fun c b => crc64Byte c b.toNat) 0

/-! ## SHA-256 -/

/-- The round constants of SHA-256. -/
def shaK : List Nat :=
  [
    0x428a2f98, 0x71374491, 0xb5c0fbcf, 0xe9b5dba5, 0x3956c25b, 0x59f111f1, 0x923f82a4, 0xab1c5ed5,
    0xd807aa98, 0x12835b01, 0x243185be, 0x550c7dc3, 0x72be5d74, 0x80deb1fe, 0x9bdc06a7, 0xc19bf174,
    0xe49b69c1, 0xefbe4786, 0x0fc19dc6, 0x240ca1cc, 0x2de92c6f, 0x4a7484aa, 0x5cb0a9dc, 0x76f988da,
    0x983e5152, 0xa831c66d, 0xb00327c8, 0xbf597fc7, 0xc6e00bf3, 0xd5a79147, 0x06ca6351, 0x14292967,
    0x27b70a85, 0x2e1b2138, 0x4d2c6dfc, 0x53380d13, 0x650a7354, 0x766a0abb, 0x81c2c92e, 0x92722c85,
    0xa2bfe8a1, 0xa81a664b, 0xc24b8b70, 0xc76c51a3, 0xd192e819, 0xd6990624, 0xf40e3585, 0x106aa070,
    0x19a4c116, 0x1e376c08, 0x2748774c, 0x34b0bcb5, 0x391c0cb3, 0x4ed8aa4a, 0x5b9cca4f, 0x682e6ff3,
    0x748f82ee, 0x78a5636f, 0x84c87814, 0x8cc70208, 0x90befffa, 0xa4506ceb, 0xbef9a3f7, 0xc67178f2]

/-- The initial hash value of SHA-256. -/
def shaInit : List Nat :=
  [
    0x6a09e667, 0xbb67ae85, 0x3c6ef372, 0xa54ff53a, 0x510e527f, 0x9b05688c, 0x1f83d9ab, 0x5be0cd19]

/-- A 32-bit word rotated right by n, and its complement. -/
def rotr (x n : Nat) : Nat := x / 2 ^ n + x % 2 ^ n * 2 ^ (32 - n)
def not32 (x : Nat) : Nat := 0xFFFFFFFF - x % 2 ^ 32

/-- The message schedule from its last sixteen words, newest first: n further words in front. -/
def shaSchedule : Nat → List Nat → List Nat
  | 0, w => w
  | n + 1, w =>
    let a := w.getD 14 0
    let b := w.getD 1 0
    let s0 := Nat.xor (Nat.xor (rotr a 7) (rotr a 18)) (a / 2 ^ 3)
    let s1 := Nat.xor (Nat.xor (rotr b 17) (rotr b 19)) (b / 2 ^ 10)
    shaSchedule n ((w.getD 15 0 + s0 + w.getD 6 0 + s1) % 2 ^ 32 :: w)

/-- One round: the working variables a to h, a word of the schedule and a constant. -/
def shaRound (v : List Nat) (w k : Nat) : List Nat :=
  match v with
  | [a, b, c, d, e, f, g, h] =>
    let s1 := Nat.xor (Nat.xor (rotr e 6) (rotr e 11)) (rotr e 25)
    let ch := Nat.xor (Nat.land e f) (Nat.land (not32 e) g)
    let t1 := h + s1 + ch + k + w
    let s0 := Nat.xor (Nat.xor (rotr a 2) (rotr a 13)) (rotr a 22)
    let mj := Nat.xor (Nat.xor (Nat.land a b) (Nat.land a c)) (Nat.land b c)
    [(t1 + s0 + mj) % 2 ^ 32, a, b, c, (d + t1) % 2 ^ 32, e, f, g]
  | _ => v

/-- One block of sixteen words into the hash value. -/
def shaBlock (h block : List Nat) : List Nat :=
  let ws := (shaSchedule 48 block.reverse).reverse
  let v := (ws.zip shaK).foldl (fun v x => shaRound v x.1 x.2) h
  (h.zip v).map (fun x => (x.1 + x.2) % 2 ^ 32)

/-- Big-endian words of bytes; n words. -/
def beWords : Nat → List Byte → List Nat
  | 0, _ => []
  | n + 1, l => (l.take 4).foldl (fun a b => a * 256 + b.toNat) 0 :: beWords n (l.drop 4)

/-- The bytes of a 32-bit word, highest first. -/
def beBytes (w : Nat) : List Byte := (List.range 4).map (fun k => BitVec.ofNat 8 (w / 2 ^ (8 * (3 - k))))

/-- A message padded to whole blocks: a 1 bit, zeros, and its length in bits. -/
def shaPad (l : List Byte) : List Byte :=
  l ++ [0x80] ++ List.replicate ((119 - l.length % 64) % 64) 0 ++ beBytes (l.length * 8 / 2 ^ 32) ++ beBytes (l.length * 8 % 2 ^ 32)

/-- Blocks of sixteen words, n of them, into the hash value. -/
def shaBlocks : Nat → List Nat → List Byte → List Nat
  | 0, h, _ => h
  | n + 1, h, l => shaBlocks n (shaBlock h (beWords 16 (l.take 64))) (l.drop 64)

/-- The SHA-256 of bytes, 32 bytes. (Log entry 37 PRESUMED.) -/
def sha256 (l : List Byte) : List Byte :=
  let p := shaPad l
  (shaBlocks (p.length / 64) shaInit p).flatMap beBytes

/-- The HMAC-SHA-256 of bytes under a key of at most 64 bytes, 32 bytes. (Log entry 37 PRESUMED.) -/
def hmac256 (key l : List Byte) : List Byte :=
  let k := key ++ List.replicate (64 - key.length) 0
  sha256 (k.map (fun b => b ^^^ 0x5C) ++ sha256 (k.map (fun b => b ^^^ 0x36) ++ l))

/-! ## Little-endian fields of bytes -/

/-- The little-endian number of n bytes from offset o on. -/
def leAt (l : List Byte) (o n : Nat) : Nat := ((l.drop o).take n).reverse.foldl (fun a b => a * 256 + b.toNat) 0

/-- The 32-bit little-endian words of bytes; n words. -/
def leWords : Nat → List Byte → List Nat
  | 0, _ => []
  | n + 1, l => leAt l 0 4 :: leWords n (l.drop 4)

/-- Every byte from offset o on, n of them, is 0. -/
def zeroAt (l : List Byte) (o n : Nat) : Bool := ((l.drop o).take n).all (· == 0)

end Sys2Proof.Machine
end

