-- ==== Sys2Proof/Config.lean ====
section
/-! DEFINITION. What one module fixes for good (its identity), and the values the spec leaves open: each a constant without a body, so that nothing can be proved of a particular value. -/

namespace Sys2Proof.Config

/-- The optical variant of the module: false O-band, true C-band (R1). (Log entry 40 DESIGN CHOICE.) -/
opaque cBand : Bool

/-- GBL_IDENT.BAND: 0x01 O-band, 0x02 C-band (R1, R3). -/
def band : Nat := if cBand then 2 else 1

/-- GBL_IDENT.STEP, the silicon stepping, per silicon (R3). (Log entry 40 DESIGN CHOICE.) -/
opaque step : Nat

/-- Word q of the die identity CAL_DIE_ID0-7, fused per die (R201). (Log entry 40 DESIGN CHOICE.) -/
opaque dieId : Nat → Nat

/-- HST_MGMT_MAC after reset: a unique fused value (R375). (Log entry 40 DESIGN CHOICE.) -/
opaque fusedMac : Nat

/-- A value the spec leaves open, a natural number: applied to the counter that the model reads and advances
(State field fresh). (Log entry 4 DESIGN CHOICE.) -/
opaque freeNat : Nat → Nat

/-- A value the spec leaves open, signed. (Log entry 4 DESIGN CHOICE.) -/
opaque freeInt : Nat → Int

/-- How a quotient that lies halfway between two codes is rounded to the nearest (R184, R186 name no rule for it):
up or down, a function of the dividend. (Log entry 25 DESIGN CHOICE.) -/
opaque tieUp : Int → Bool

/-- The power in 0.01 dBm that is full scale of a capstan's linear power (R185 names none). (Log entry 25 DESIGN CHOICE.) -/
opaque fullScale : Int

/-- Whether the linear power of a reading, which R185 gives to within 2^-16 of full scale, is the multiple of that above the true
value or the one below it. (Log entry 25 DESIGN CHOICE.) -/
opaque linearUp : Int → Bool

/-- A byte of the HOST region of the hold that a loss has left undefined (R385): which loss, and the address. -/
opaque freeByte : Nat → Nat → Byte

/-- The bytes of one output word for a stage, as a commit point's digest runs over them (R269 gives no layout of an output word). (Log entry 43 DESIGN CHOICE.) -/
opaque outBytes : Nat × Nat → List Byte

/-- The thermal term of the increment in 2^-32 ns for the mean of the WH-A and WH-B temperatures, in 0.01 degC (R144,
R210): its coefficients are fused per die. The argument is twice the mean. (Log entry 39 DESIGN CHOICE.) -/
opaque clockTerm : Int → Int

/-- The size of the step cache in bytes: an address beyond it is refused (R403). (Log entry 61 DESIGN CHOICE.) -/
opaque stepCacheBytes : Nat

end Sys2Proof.Config
end

