-- ==== Sys2Proof/Machine/Regs.lean ====
section
/-! DEFINITION. The register fields of PF0 BAR0 that have an offset of their own, one constant (or function of the unit's index) each: offset, lowest bit, width and value after reset, as the register tables of the spec give them. A field's name is its register's and its own. -/

namespace Sys2Proof.Machine

/-- One field of one register: the register's PF0 BAR0 offset, the field's lowest bit, its width, and what it reads
after a cold reset (the After reset column of its table). -/
structure Fld where
  off : Nat
  lo  : Nat
  w   : Nat
  rst : Nat
  deriving DecidableEq, Repr

/-- The key of a field in the register file: its place in PF0 BAR0, bit by bit (a register is at most 64 bits). -/
def Fld.key (f : Fld) : Nat := f.off * 64 + f.lo

/-- FAB_IN_POWER.POWER: Power, signed, 0.01 dBm per LSB; 0x8000 while FLOOR is 1. -/
def FAB_IN_POWER_POWER (p : Nat) : Fld := ⟨0x300000 + p * 0x400, 0, 16, 0x8000⟩
/-- FAB_IN_POWER.FLOOR: Power below −40 dBm. -/
def FAB_IN_POWER_FLOOR (p : Nat) : Fld := ⟨0x300000 + p * 0x400, 16, 1, 1⟩
/-- FAB_IN_POWER.STALE: Reading older than 100 µs, or stale under R35 or under the reach-calibration rules in Calibration. -/
def FAB_IN_POWER_STALE (p : Nat) : Fld := ⟨0x300000 + p * 0x400, 17, 1, 1⟩
/-- FAB_IN_POWER.OVER: Power above +20.5 dBm. -/
def FAB_IN_POWER_OVER (p : Nat) : Fld := ⟨0x300000 + p * 0x400, 18, 1, 0⟩
/-- FAB_OUT_POWER.POWER: Power, signed, 0.01 dBm per LSB; 0x8000 while FLOOR is 1. -/
def FAB_OUT_POWER_POWER (o : Nat) : Fld := ⟨0x380000 + o * 0x400, 0, 16, 0x8000⟩
/-- FAB_OUT_POWER.FLOOR: Power below −40 dBm. -/
def FAB_OUT_POWER_FLOOR (o : Nat) : Fld := ⟨0x380000 + o * 0x400, 16, 1, 1⟩
/-- FAB_OUT_POWER.STALE: Reading older than 100 µs, or stale under R35 or under the reach-calibration rules in Calibration. -/
def FAB_OUT_POWER_STALE (o : Nat) : Fld := ⟨0x380000 + o * 0x400, 17, 1, 1⟩
/-- FAB_OUT_POWER.OVER: Power above +20.5 dBm. -/
def FAB_OUT_POWER_OVER (o : Nat) : Fld := ⟨0x380000 + o * 0x400, 18, 1, 0⟩
/-- FAB_DRAIN_POWER.POWER: Power, signed, 0.01 dBm per LSB; 0x8000 while FLOOR is 1. -/
def FAB_DRAIN_POWER_POWER (o : Nat) : Fld := ⟨0x380004 + o * 0x400, 0, 16, 0x8000⟩
/-- FAB_DRAIN_POWER.FLOOR: Power below −40 dBm. -/
def FAB_DRAIN_POWER_FLOOR (o : Nat) : Fld := ⟨0x380004 + o * 0x400, 16, 1, 1⟩
/-- FAB_DRAIN_POWER.STALE: Reading older than 100 µs, or stale under R35 or under the reach-calibration rules in Calibration. -/
def FAB_DRAIN_POWER_STALE (o : Nat) : Fld := ⟨0x380004 + o * 0x400, 17, 1, 1⟩
/-- FAB_DRAIN_POWER.OVER: Power above +20.5 dBm. -/
def FAB_DRAIN_POWER_OVER (o : Nat) : Fld := ⟨0x380004 + o * 0x400, 18, 1, 0⟩
/-- FAB_LAMP_MON.POWER: Power, signed, 0.01 dBm per LSB; 0x8000 while FLOOR is 1. -/
def FAB_LAMP_MON_POWER (b : Nat) : Fld := ⟨0x201204 + b * 0x2000, 0, 16, 0x8000⟩
/-- FAB_LAMP_MON.FLOOR: Power below −40 dBm. -/
def FAB_LAMP_MON_FLOOR (b : Nat) : Fld := ⟨0x201204 + b * 0x2000, 16, 1, 1⟩
/-- FAB_LAMP_MON.STALE: Reading older than 100 µs, or stale under R35 or under the reach-calibration rules in Calibration. -/
def FAB_LAMP_MON_STALE (b : Nat) : Fld := ⟨0x201204 + b * 0x2000, 17, 1, 1⟩
/-- FAB_LAMP_MON.OVER: Power above +20.5 dBm. -/
def FAB_LAMP_MON_OVER (b : Nat) : Fld := ⟨0x201204 + b * 0x2000, 18, 1, 0⟩
/-- FAB_VOA_STATUS.ATTEN: Read-back attenuation above minimum loss, 0.01 dB per LSB; 0xFFFF at DARK. -/
def FAB_VOA_STATUS_ATTEN (o : Nat) : Fld := ⟨0x380008 + o * 0x400, 0, 16, 0xFFFF⟩
/-- FAB_VOA_STATUS.DARK: VOA is DARK. -/
def FAB_VOA_STATUS_DARK (o : Nat) : Fld := ⟨0x380008 + o * 0x400, 16, 1, 1⟩
/-- FAB_VOA_STATUS.RB_ERR: Read-back differs from the commanded value by more than 0.5 dB after settling (R17). -/
def FAB_VOA_STATUS_RB_ERR (o : Nat) : Fld := ⟨0x380008 + o * 0x400, 17, 1, 0⟩
/-- FAB_VOA_STATUS.LIT: A circuit is in place on this output. -/
def FAB_VOA_STATUS_LIT (o : Nat) : Fld := ⟨0x380008 + o * 0x400, 18, 1, 0⟩
/-- FAB_BLK_STATUS.IN_SERVICE: Block is in service. -/
def FAB_BLK_STATUS_IN_SERVICE (b : Nat) : Fld := ⟨0x201200 + b * 0x2000, 0, 1, 0⟩
/-- FAB_BLK_STATUS.MOORED: Block berths moored. -/
def FAB_BLK_STATUS_MOORED (b : Nat) : Fld := ⟨0x201200 + b * 0x2000, 1, 1, 0⟩
/-- FAB_BLK_STATUS.PARKED: Block in its park state. -/
def FAB_BLK_STATUS_PARKED (b : Nat) : Fld := ⟨0x201200 + b * 0x2000, 2, 1, 1⟩
/-- FAB_BLK_STATUS.ISOLATED: Reach link failed (R35). -/
def FAB_BLK_STATUS_ISOLATED (b : Nat) : Fld := ⟨0x201200 + b * 0x2000, 3, 1, 0⟩
/-- FAB_BLK_STATUS.WEAR_ADV_CELLS: Cells with WEAR_ADV set, 0–144. -/
def FAB_BLK_STATUS_WEAR_ADV_CELLS (b : Nat) : Fld := ⟨0x201200 + b * 0x2000, 4, 8, 0⟩
/-- FAB_BLK_STATUS.WORN_CELLS: Cells with WORN set, 0–144. -/
def FAB_BLK_STATUS_WORN_CELLS (b : Nat) : Fld := ⟨0x201200 + b * 0x2000, 12, 8, 0⟩
/-- FAB_BLK_STATUS.WEAR_LOST: Some flips were not counted, as laid down in Endurance and wear. -/
def FAB_BLK_STATUS_WEAR_LOST (b : Nat) : Fld := ⟨0x201200 + b * 0x2000, 20, 1, 0⟩
/-- XNG_CFG.HOLDOVER_VOTE: 0: vote NO with HOLDOVER while in holdover; 1: vote normally. -/
def XNG_CFG_HOLDOVER_VOTE : Fld := ⟨0x40000, 0, 1, 0⟩
/-- XNG_SYS_LEAD.LEAD_US: Minimum lead of a system crossing, 30–10,000 µs. -/
def XNG_SYS_LEAD : Fld := ⟨0x40004, 0, 14, 100⟩
/-- XNG_VOTE_GAP.GAP_US: Vote deadline before the instant, 10–5,000 µs. -/
def XNG_VOTE_GAP : Fld := ⟨0x40008, 0, 13, 20⟩
/-- XNG_STATUS.OUTSTANDING: Operations outstanding under R117, 0–16,384. -/
def XNG_STATUS_OUTSTANDING : Fld := ⟨0x40010, 0, 15, 0⟩
/-- XNG_STATUS.FETCH_STOP: 1 while fetching is stopped under R117. -/
def XNG_STATUS_FETCH_STOP : Fld := ⟨0x40010, 15, 1, 0⟩
/-- XNG_STATUS.COMMITTED_MAX: Most committed parts held by any one berth sequencer, 0–64. -/
def XNG_STATUS_COMMITTED_MAX : Fld := ⟨0x40010, 16, 8, 0⟩
/-- XNG_CNT_DONE.COUNT: Crossings executed, DONE or PARTIAL. -/
def XNG_CNT_DONE : Fld := ⟨0x40020, 0, 64, 0⟩
/-- XNG_CNT_LATE.COUNT: Refusals with LATE. -/
def XNG_CNT_LATE : Fld := ⟨0x40028, 0, 32, 0⟩
/-- XNG_CNT_ASAP.COUNT: Crossings whose instant in force differs from their stamp after R109 or R112. A stamp of 0 with ASAP 1 always counts; a stamp kept unchanged never does. -/
def XNG_CNT_ASAP : Fld := ⟨0x4002c, 0, 32, 0⟩
/-- XNG_CNT_MISSED.COUNT: Missed sailings. -/
def XNG_CNT_MISSED : Fld := ⟨0x40030, 0, 32, 0⟩
/-- XNG_CNT_DECISION_LOST.COUNT: Withdrawals under R133 without a decision. -/
def XNG_CNT_DECISION_LOST : Fld := ⟨0x40034, 0, 32, 0⟩
/-- XNG_CNT_HELDBACK.COUNT: Block parts held back under R116. -/
def XNG_CNT_HELDBACK : Fld := ⟨0x40038, 0, 32, 0⟩
/-- XNG_MISS_ID.ID: ID of the last missed sailing. -/
def XNG_MISS_ID : Fld := ⟨0x40040, 0, 64, 0⟩
/-- XNG_MISS_INFO.MODULE: Module ID named in the report. -/
def XNG_MISS_INFO_MODULE : Fld := ⟨0x40048, 0, 12, 0⟩
/-- XNG_MISS_INFO.REASON: 0 NO_VOTE, 1 VOTE_NO, 2 DECISION_LOST. -/
def XNG_MISS_INFO_REASON : Fld := ⟨0x40048, 12, 2, 0⟩
/-- TID_TBL_STATUS.STATE: 0 EMPTY, 1 LOADING, 2 COMPILING, 3 READY, 4 RUNNING, 5 HELD, 6 FAILED. 7 is reserved. -/
def TID_TBL_STATUS_STATE (n : Nat) : Fld := ⟨0x44000 + n * 0x4, 0, 3, 0⟩
/-- TID_TBL_STATUS.ERR: 0 NONE, 1 FORMAT, 2 DWELL, 3 PORTS, 4 NO_PATH, 5 NO_PATH_STEADY, 6 HOLD, 7 TICKETS, 8 TOLL_RATE, 9 STEP_LOST. Other codes are reserved. -/
def TID_TBL_STATUS_ERR (n : Nat) : Fld := ⟨0x44000 + n * 0x4, 4, 4, 0⟩
/-- TID_TBL_STATUS.STEPS: Step count, 1–65,536. -/
def TID_TBL_STATUS_STEPS (n : Nat) : Fld := ⟨0x44000 + n * 0x4, 8, 17, 0⟩
/-- TID_TBL_STATUS.SLOT: Run slot while RUNNING or HELD. -/
def TID_TBL_STATUS_SLOT (n : Nat) : Fld := ⟨0x44000 + n * 0x4, 25, 2, 0⟩
/-- TID_RUN_STATUS.TABLE: Table number. -/
def TID_RUN_STATUS_TABLE (s : Nat) : Fld := ⟨0x45000 + s * 0x20, 0, 10, 0⟩
/-- TID_RUN_STATUS.STEP: Step in place, 0–65,535. -/
def TID_RUN_STATUS_STEP (s : Nat) : Fld := ⟨0x45000 + s * 0x20, 10, 16, 0⟩
/-- TID_RUN_STATUS.ACTIVE: Slot holds a running or held table. -/
def TID_RUN_STATUS_ACTIVE (s : Nat) : Fld := ⟨0x45000 + s * 0x20, 26, 1, 0⟩
/-- TID_RUN_STATUS.HELD: Table held under R127. -/
def TID_RUN_STATUS_HELD (s : Nat) : Fld := ⟨0x45000 + s * 0x20, 27, 1, 0⟩
/-- TID_RUN_STATUS.STREAMING: Table has more than 8,192 steps. -/
def TID_RUN_STATUS_STREAMING (s : Nat) : Fld := ⟨0x45000 + s * 0x20, 28, 1, 0⟩
/-- TID_RUN_NEXT.63:0: Next step instant, in the layout of TKT_MAKE. -/
def TID_RUN_NEXT (s : Nat) : Fld := ⟨0x45008 + s * 0x20, 0, 64, 0⟩
/-- TID_RUN_CYCLES.COUNT: Cycles completed since start. -/
def TID_RUN_CYCLES (s : Nat) : Fld := ⟨0x45010 + s * 0x20, 0, 64, 0⟩
/-- TID_RUN_MISSED.COUNT: Steps held back under R116. -/
def TID_RUN_MISSED (s : Nat) : Fld := ⟨0x45018 + s * 0x20, 0, 32, 0⟩
/-- TIM_CTL.SERVO_EN: Servo processes samples. -/
def TIM_CTL_SERVO_EN : Fld := ⟨0x50000, 0, 1, 0⟩
/-- TIM_CTL.SRC: Source, as in R143. -/
def TIM_CTL_SRC : Fld := ⟨0x50000, 1, 2, 0⟩
/-- TIM_CTL.FERRY_PORT: FP0–FP7 for SRC 1. -/
def TIM_CTL_FERRY_PORT : Fld := ⟨0x50000, 3, 3, 0⟩
/-- TIM_CTL.SUSPEND: Suspend crossings (R150). -/
def TIM_CTL_SUSPEND : Fld := ⟨0x50000, 6, 1, 0⟩
/-- TIM_CTL.FORCE: Apply TIM_FORCE_OFS (R149). -/
def TIM_CTL_FORCE : Fld := ⟨0x50000, 7, 1, 0⟩
/-- TIM_CTL.PTP_DOMAIN: Domain 0–127 for SRC 2. -/
def TIM_CTL_PTP_DOMAIN : Fld := ⟨0x50000, 8, 7, 0⟩
/-- TIM_CTL.PTP_UDP: 0 IEEE 802.3, 1 UDP/IPv4. -/
def TIM_CTL_PTP_UDP : Fld := ⟨0x50000, 15, 1, 0⟩
/-- TIM_CTL.PPS_OUT_EN: Drive PPS_OUT. -/
def TIM_CTL_PPS_OUT_EN : Fld := ⟨0x50000, 16, 1, 0⟩
/-- TIM_STATUS.STATE: 0 UNSET, 1 ACQUIRE, 2 LOCKED, 3 HOLDOVER. -/
def TIM_STATUS_STATE : Fld := ⟨0x50004, 0, 2, 0⟩
/-- TIM_STATUS.SUSPENDED: R150 conditions met. -/
def TIM_STATUS_SUSPENDED : Fld := ⟨0x50004, 2, 1, 0⟩
/-- TIM_STATUS.JUMP_REFUSED: A sample was refused. -/
def TIM_STATUS_JUMP_REFUSED : Fld := ⟨0x50004, 3, 1, 0⟩
/-- TIM_STATUS.MASTER_CHANGED: Source changed (R146). -/
def TIM_STATUS_MASTER_CHANGED : Fld := ⟨0x50004, 4, 1, 0⟩
/-- TIM_STATUS.FORCE_REFUSED: FORCE written while not SUSPENDED. -/
def TIM_STATUS_FORCE_REFUSED : Fld := ⟨0x50004, 5, 1, 0⟩
/-- TIM_STATUS.TCXO_OK: TCXO_IN present. -/
def TIM_STATUS_TCXO_OK : Fld := ⟨0x50004, 6, 1, 0⟩
/-- TIM_STATUS.REFUSED_RUN: Consecutive refused samples, saturating at 8; cleared to 0 by an accepted sample. -/
def TIM_STATUS_REFUSED_RUN : Fld := ⟨0x50004, 7, 4, 0⟩
/-- TIM_JUMP_MAX.NS: 1–1,000,000 ns. -/
def TIM_JUMP_MAX : Fld := ⟨0x50008, 0, 20, 1000⟩
/-- TIM_LOCK_THRESH.NS: 1–1,000 ns. -/
def TIM_LOCK_THRESH : Fld := ⟨0x5000c, 0, 10, 5⟩
/-- TIM_NOW_NS.NS: Nanoseconds; a read takes the snapshot (R142). -/
def TIM_NOW_NS : Fld := ⟨0x50010, 0, 30, 0⟩
/-- TIM_NOW_SEC.SEC: Seconds of the snapshot. -/
def TIM_NOW_SEC : Fld := ⟨0x50018, 0, 48, 0⟩
/-- TIM_INCR.INCR: Increment in force, 4.32 ns. -/
def TIM_INCR : Fld := ⟨0x50020, 0, 36, 0x100000000⟩
/-- TIM_KP.KP: Signed 16.16, ppb per ns. -/
def TIM_KP : Fld := ⟨0x50028, 0, 32, 0⟩
/-- TIM_KI.KI: Signed 16.16, ppb per ns·s. -/
def TIM_KI : Fld := ⟨0x5002c, 0, 32, 0⟩
/-- TIM_ADJ_MAX.PPM: 1–500 ppm. -/
def TIM_ADJ_MAX : Fld := ⟨0x50030, 0, 9, 100⟩
/-- TIM_OFFSET.NS: Last θ, signed, saturating. -/
def TIM_OFFSET : Fld := ⟨0x50034, 0, 32, 0⟩
/-- TIM_PPS_DELAY.NS: Signed cable compensation. -/
def TIM_PPS_DELAY : Fld := ⟨0x50038, 0, 16, 0⟩
/-- TIM_LOSS_TIMEOUT.MS: 1–10,000 ms. -/
def TIM_LOSS_TIMEOUT : Fld := ⟨0x5003c, 0, 14, 3000⟩
/-- TIM_FORCE_OFS.NS: Signed correction. -/
def TIM_FORCE_OFS : Fld := ⟨0x50040, 0, 64, 0⟩
/-- TIM_CNT_REFUSED.COUNT: Samples refused under R144. -/
def TIM_CNT_REFUSED : Fld := ⟨0x50048, 0, 32, 0⟩
/-- TIM_CAP_PPS.63:0: Last PPS_IN edge, layout of TKT_MAKE. -/
def TIM_CAP_PPS : Fld := ⟨0x50050, 0, 64, 0⟩
/-- CAP_BLK_CFG.AUTO_RECLOSE: Reclose automatically (R170). -/
def CAP_BLK_CFG_AUTO_RECLOSE (b : Nat) : Fld := ⟨0x201300 + b * 0x2000, 0, 1, 0⟩
/-- CAP_BLK_STATUS.ADOPTING: This capstan runs its sibling's loops. -/
def CAP_BLK_STATUS_ADOPTING (b : Nat) : Fld := ⟨0x201304 + b * 0x2000, 0, 1, 0⟩
/-- CAP_BLK_STATUS.ADOPTED: This block's loops run on its sibling. -/
def CAP_BLK_STATUS_ADOPTED (b : Nat) : Fld := ⟨0x201304 + b * 0x2000, 1, 1, 0⟩
/-- CAP_BLK_STATUS.FAILED: This block's capstan has failed. -/
def CAP_BLK_STATUS_FAILED (b : Nat) : Fld := ⟨0x201304 + b * 0x2000, 2, 1, 0⟩
/-- CAP_BLK_STATUS.PRIV: Cells in the privileged set, 0–32. -/
def CAP_BLK_STATUS_PRIV (b : Nat) : Fld := ⟨0x201304 + b * 0x2000, 3, 6, 0⟩
/-- CAP_BLK_STATUS.OPEN_CELLS: Cells in OPEN, 0–144. -/
def CAP_BLK_STATUS_OPEN_CELLS (b : Nat) : Fld := ⟨0x201304 + b * 0x2000, 9, 8, 0⟩
/-- CAP_BLK_STATUS.SHADOWED_CELLS: Cells in SHADOWED, 0–144. -/
def CAP_BLK_STATUS_SHADOWED_CELLS (b : Nat) : Fld := ⟨0x201304 + b * 0x2000, 17, 8, 0⟩
/-- CAP_PRIV_BUDGET.P: Budget from the manifest, 0–32. -/
def CAP_PRIV_BUDGET (b : Nat) : Fld := ⟨0x201308 + b * 0x2000, 0, 6, 32⟩
/-- CAP_KP_CELL.KP: Class gain, units of CAP_CELL_KP. -/
def CAP_KP_CELL (b : Nat) : Fld := ⟨0x201310 + b * 0x2000, 0, 32, 0⟩
/-- CAP_KI_CELL.KI: Class gain, units of CAP_CELL_KI. -/
def CAP_KI_CELL (b : Nat) : Fld := ⟨0x201314 + b * 0x2000, 0, 32, 0⟩
/-- CAP_TRIM_WIN.WIN: Trim window, 0–5,461 LSB. -/
def CAP_TRIM_WIN (b : Nat) : Fld := ⟨0x201318 + b * 0x2000, 0, 13, 0⟩
/-- CAP_KP_EQ.KP: Signed 16.16, dB per dB. Egress blocks only. -/
def CAP_KP_EQ (b : Nat) : Fld := ⟨0x20131c + b * 0x2000, 0, 32, 0⟩
/-- CAP_KI_EQ.KI: Signed 16.16, dB per dB per update. Egress blocks only. -/
def CAP_KI_EQ (b : Nat) : Fld := ⟨0x201320 + b * 0x2000, 0, 32, 0⟩
/-- CAP_RECLOSE.CELL: Cell index stage × 16 + row. -/
def CAP_RECLOSE_CELL (b : Nat) : Fld := ⟨0x201330 + b * 0x2000, 0, 8, 0⟩
/-- CAP_RECLOSE.GO: Reclose that cell under R170. -/
def CAP_RECLOSE_GO (b : Nat) : Fld := ⟨0x201330 + b * 0x2000, 8, 1, 0⟩
/-- CAP_CNT_OPEN.COUNT: Loop openings in this block. -/
def CAP_CNT_OPEN (b : Nat) : Fld := ⟨0x201334 + b * 0x2000, 0, 32, 0⟩
/-- CAP_PORT_TARGET.TARGET: Output target, signed 0.01 dBm; 0x8000 none. -/
def CAP_PORT_TARGET_TARGET (o : Nat) : Fld := ⟨0x380040 + o * 0x400, 0, 16, 0x8000⟩
/-- CAP_PORT_TARGET.RAMP: 1–255, in 0.1 dB/ms; 0 reserved. -/
def CAP_PORT_TARGET_RAMP (o : Nat) : Fld := ⟨0x380040 + o * 0x400, 16, 8, 255⟩
/-- CAP_PORT_LIMIT.CEIL: Ceiling, signed 0.01 dBm; +20.00 dBm. -/
def CAP_PORT_LIMIT_CEIL (o : Nat) : Fld := ⟨0x380044 + o * 0x400, 0, 16, 0x07D0⟩
/-- CAP_PORT_LIMIT.DERATE: 0–100, in 0.1 dB. -/
def CAP_PORT_LIMIT_DERATE (o : Nat) : Fld := ⟨0x380044 + o * 0x400, 16, 8, 30⟩
/-- CAP_PORT_STATUS.WINNER: 0 none, 1 equalisation, 2 ceiling, 3 thermal. -/
def CAP_PORT_STATUS_WINNER (o : Nat) : Fld := ⟨0x380048 + o * 0x400, 0, 2, 0⟩
/-- CAP_PORT_STATUS.RAMPING: S has not reached TARGET. -/
def CAP_PORT_STATUS_RAMPING (o : Nat) : Fld := ⟨0x380048 + o * 0x400, 2, 1, 0⟩
/-- CAP_PORT_STATUS.DERATING: Thermal request active. -/
def CAP_PORT_STATUS_DERATING (o : Nat) : Fld := ⟨0x380048 + o * 0x400, 3, 1, 0⟩
/-- CAP_PORT_STATUS.FB_LOST: Set under R176. A write of 1 clears it, and resumes the group, only under R176. -/
def CAP_PORT_STATUS_FB_LOST (o : Nat) : Fld := ⟨0x380048 + o * 0x400, 4, 1, 0⟩
/-- CAP_PORT_STATUS.SETPOINT: S, signed 0.01 dBm. -/
def CAP_PORT_STATUS_SETPOINT (o : Nat) : Fld := ⟨0x380048 + o * 0x400, 16, 16, 0x8000⟩
/-- CAP_PORT_CEIL.CEIL_ACT: CEIL in force, signed 0.01 dBm; the active view of CAP_PORT_LIMIT.CEIL (R14). -/
def CAP_PORT_CEIL (o : Nat) : Fld := ⟨0x38004c + o * 0x400, 0, 16, 0x07D0⟩
/-- CAL_CTL.LOAD: Load the file (R189). -/
def CAL_CTL_LOAD : Fld := ⟨0xd0000, 0, 1, 0⟩
/-- CAL_CTL.DUMP: Write a SAVED image (R191). -/
def CAL_CTL_DUMP : Fld := ⟨0xd0000, 1, 1, 0⟩
/-- CAL_CTL.ADC_SELF: Converter self-calibration (R192). -/
def CAL_CTL_ADC_SELF : Fld := ⟨0xd0000, 2, 1, 0⟩
/-- CAL_CTL.DELTA_T: Trigger threshold, 1–40, in 0.5 °C. -/
def CAL_CTL_DELTA_T : Fld := ⟨0xd0000, 8, 6, 8⟩
/-- CAL_STATUS.FACTORY: A FACTORY file has been accepted. -/
def CAL_STATUS_FACTORY : Fld := ⟨0xd0004, 0, 1, 0⟩
/-- CAL_STATUS.TABLES_VALID: Feed-forward entries valid. -/
def CAL_STATUS_TABLES_VALID : Fld := ⟨0xd0004, 1, 1, 0⟩
/-- CAL_STATUS.ADC_DONE: Self-calibration complete. -/
def CAL_STATUS_ADC_DONE : Fld := ⟨0xd0004, 2, 1, 0⟩
/-- CAL_STATUS.LOAD_BUSY: Load in progress. -/
def CAL_STATUS_LOAD_BUSY : Fld := ⟨0xd0004, 3, 1, 0⟩
/-- CAL_STATUS.DUMP_BUSY: Dump in progress. -/
def CAL_STATUS_DUMP_BUSY : Fld := ⟨0xd0004, 4, 1, 0⟩
/-- CAL_STATUS.ADC_BUSY: Self-calibration in progress. -/
def CAL_STATUS_ADC_BUSY : Fld := ⟨0xd0004, 5, 1, 0⟩
/-- CAL_STATUS.ERR: 0 NONE, 1 BUSY, 2 READ, 3 FORMAT, 4 BAND, 5 DIE_ID, 6 KIND, 7 CRC, 8 DIGEST, 9 RANGE; other codes reserved. Any write of 1 to bits 11:8 clears the field to 0. -/
def CAL_STATUS_ERR : Fld := ⟨0xd0004, 8, 4, 0⟩
/-- CAL_STATUS.ADC_FAILS: Converters marked failed, 0–792. -/
def CAL_STATUS_ADC_FAILS : Fld := ⟨0xd0004, 12, 10, 0⟩
/-- CAL_AUTO_EN.REACH: Bit n enables the temperature trigger of reach n. -/
def CAL_AUTO_EN : Fld := ⟨0xd0008, 0, 12, 0⟩
/-- CAL_REACH_REQ.REACH: Request a run; reads 1 while the request is held. -/
def CAL_REACH_REQ : Fld := ⟨0xd000c, 0, 12, 0⟩
/-- CAL_REACH_STATE.STATE: Bits 2n+1:2n for reach n: 0 IDLE, 1 PENDING, 2 RUNNING, 3 SWITCHING. -/
def CAL_REACH_STATE : Fld := ⟨0xd0010, 0, 24, 0⟩
/-- CAL_FILE_ADDR.ADDR: Host address, 64-byte aligned; bits 5:0 reserved. -/
def CAL_FILE_ADDR : Fld := ⟨0xd0018, 6, 58, 0⟩
/-- CAL_FILE_LEN.BYTES: Length in bytes. -/
def CAL_FILE_LEN : Fld := ⟨0xd0020, 0, 24, 0⟩
/-- CAL_CELL_FLOOR.FLOOR: Cell-probe floor, signed 0.01 dBm, −50.00 to −30.00; default −45.00 dBm. -/
def CAL_CELL_FLOOR : Fld := ⟨0xd0024, 0, 16, 0xEE6C⟩
/-- CAL_ACCEPT.WIN: Sweep span, 64–5,461 LSB. -/
def CAL_ACCEPT : Fld := ⟨0xd0028, 0, 13, 1024⟩
/-- CAL_ACC_SEL.TABLE: 0 converters, 1 probes, 2 feed-forward, 3 blocks. -/
def CAL_ACC_SEL_TABLE : Fld := ⟨0xd0030, 0, 2, 0⟩
/-- CAL_ACC_SEL.INDEX: Entry index, as below. -/
def CAL_ACC_SEL_INDEX : Fld := ⟨0xd0030, 2, 15, 0⟩
/-- CAL_ACC_DATA.DATA: Selected entry, as below. -/
def CAL_ACC_DATA : Fld := ⟨0xd0038, 0, 64, 0⟩
/-- CAL_DIE_ID.ID: Die identity; CAL_DIE_ID0 holds bits 31:0. -/
def CAL_DIE_ID (q : Nat) : Fld := ⟨0xd0040 + q * 0x4, 0, 32, Config.dieId q % 2 ^ 32⟩
/-- CAL_RCH_CELLS.MEASURED: Cells measured in the last completed run, 0–1,152. -/
def CAL_RCH_CELLS_MEASURED (n : Nat) : Fld := ⟨0xd0100 + n * 0x20, 0, 11, 0⟩
/-- CAL_RCH_CELLS.REJECTED: Cells rejected in that run. -/
def CAL_RCH_CELLS_REJECTED (n : Nat) : Fld := ⟨0xd0100 + n * 0x20, 11, 11, 0⟩
/-- CAL_RCH_CELLS.ABORTED: A run has been aborted (R199). -/
def CAL_RCH_CELLS_ABORTED (n : Nat) : Fld := ⟨0xd0100 + n * 0x20, 22, 1, 0⟩
/-- CAL_RCH_CARRIED.CARRIED: Cells carried in that run. -/
def CAL_RCH_CARRIED (n : Nat) : Fld := ⟨0xd0104 + n * 0x20, 0, 11, 0⟩
/-- CAL_RCH_RUNS.COUNT: Runs completed since reset. -/
def CAL_RCH_RUNS (n : Nat) : Fld := ⟨0xd0108 + n * 0x20, 0, 32, 0⟩
/-- CAL_RCH_END.63:0: Switch instant of the last run, in the layout of TKT_MAKE. -/
def CAL_RCH_END (n : Nat) : Fld := ⟨0xd0110 + n * 0x20, 0, 64, 0⟩
/-- THM_CFG.WARN: Warning limit, signed 0.01 °C, 60.00–105.00; default 95.00 °C. -/
def THM_CFG_WARN : Fld := ⟨0xc0000, 0, 16, 0x251C⟩
/-- THM_STATUS.WARN_REACH: Bit n: reach n at warning. -/
def THM_STATUS_WARN_REACH : Fld := ⟨0xc0004, 0, 12, 0⟩
/-- THM_STATUS.WARN_WH: A wheelhouse sensor at warning. -/
def THM_STATUS_WARN_WH : Fld := ⟨0xc0004, 12, 1, 0⟩
/-- THM_STATUS.SHUTDOWN: Shutdown taken (R212). -/
def THM_STATUS_SHUTDOWN : Fld := ⟨0xc0004, 13, 1, 0⟩
/-- THM_STATUS.BROKEN: Broken sensors, 0–110. -/
def THM_STATUS_BROKEN : Fld := ⟨0xc0004, 14, 7, 0⟩
/-- THM_ROUNDS.COUNT: Rounds reported since reset. -/
def THM_ROUNDS : Fld := ⟨0xc0008, 0, 32, 0⟩
/-- THM_LAST.63:0: Report instant of the last round, layout of TKT_MAKE. -/
def THM_LAST : Fld := ⟨0xc0010, 0, 64, 0⟩
/-- THM_TEMP.REPORTED: Reported value, signed 0.01 °C. -/
def THM_TEMP_REPORTED (i : Nat) : Fld := ⟨0xc0100 + i * 0x4, 0, 16, 0x8000⟩
/-- THM_TEMP.BROKEN: Sensor broken (R207, R206). -/
def THM_TEMP_BROKEN (i : Nat) : Fld := ⟨0xc0100 + i * 0x4, 16, 1, 0⟩
/-- THM_TEMP.NOCOUNT: Oscillator out of range (R206). -/
def THM_TEMP_NOCOUNT (i : Nat) : Fld := ⟨0xc0100 + i * 0x4, 17, 1, 0⟩
/-- THM_RAW.RAW: Raw value, signed 0.01 °C; 0x8000 while NOCOUNT. -/
def THM_RAW (i : Nat) : Fld := ⟨0xc0300 + i * 0x4, 0, 16, 0x8000⟩
/-- THM_SUPPLY.MV: Rail k of R213, signed mV. -/
def THM_SUPPLY_MV (k : Nat) : Fld := ⟨0xc0500 + k * 0x4, 0, 16, 0⟩
/-- THM_SUPPLY.LOW: Below −5 % at the last round. -/
def THM_SUPPLY_LOW (k : Nat) : Fld := ⟨0xc0500 + k * 0x4, 16, 1, 0⟩
/-- THM_SUPPLY.HIGH: Above +5 % at the last round. -/
def THM_SUPPLY_HIGH (k : Nat) : Fld := ⟨0xc0500 + k * 0x4, 17, 1, 0⟩
/-- THM_LAMP.POWER: Lamp output, signed 0.01 dBm; 0x8000 while OFF. -/
def THM_LAMP_POWER : Fld := ⟨0xc0540, 0, 16, 0x8000⟩
/-- THM_LAMP.OFF: Lamp off. -/
def THM_LAMP_OFF : Fld := ⟨0xc0540, 16, 1, 1⟩
/-- CMD_STATUS.RESTORE_RUN: Restoration run in progress. -/
def CMD_STATUS_RESTORE_RUN : Fld := ⟨0x30000, 0, 1, 0⟩
/-- CMD_STATUS.TOLL_ON_CHANGE: Manifest value in force. -/
def CMD_STATUS_TOLL_ON_CHANGE : Fld := ⟨0x30000, 1, 1, 0⟩
/-- CMD_STATUS.REARRANGE_MOVABLE: Manifest value in force. -/
def CMD_STATUS_REARRANGE_MOVABLE : Fld := ⟨0x30000, 2, 1, 0⟩
/-- CMD_CNT_ADMITTED.COUNT: Operations admitted. -/
def CMD_CNT_ADMITTED : Fld := ⟨0x30008, 0, 64, 0⟩
/-- CMD_CNT_REFUSED.COUNT: Operations refused. -/
def CMD_CNT_REFUSED : Fld := ⟨0x30010, 0, 32, 0⟩
/-- CMD_FN_QUOTA.QUOTA: 16–16,384. -/
def CMD_FN_QUOTA (f : Nat) : Fld := ⟨0x31000 + f * 0x4, 0, 15, 256⟩
/-- RING_CFG.SQ_EN: Fetch from the SQ. -/
def RING_CFG_SQ_EN (g : Nat) : Fld := ⟨0x32000 + g * 0x40, 0, 1, 0⟩
/-- RING_CFG.SQ_COH: SQ and lists read over CXL.cache. -/
def RING_CFG_SQ_COH (g : Nat) : Fld := ⟨0x32000 + g * 0x40, 1, 1, 0⟩
/-- RING_CFG.CQ_EN: CQ enabled. -/
def RING_CFG_CQ_EN (g : Nat) : Fld := ⟨0x32000 + g * 0x40, 2, 1, 0⟩
/-- RING_CFG.EQ_EN: EQ enabled. -/
def RING_CFG_EQ_EN (g : Nat) : Fld := ⟨0x32000 + g * 0x40, 3, 1, 0⟩
/-- RING_CFG.SQ_SIZE: 2^(n+6) entries, n 0–10. -/
def RING_CFG_SQ_SIZE (g : Nat) : Fld := ⟨0x32000 + g * 0x40, 4, 4, 0⟩
/-- RING_CFG.CQ_SIZE: As SQ_SIZE. -/
def RING_CFG_CQ_SIZE (g : Nat) : Fld := ⟨0x32000 + g * 0x40, 8, 4, 0⟩
/-- RING_CFG.EQ_SIZE: As SQ_SIZE. -/
def RING_CFG_EQ_SIZE (g : Nat) : Fld := ⟨0x32000 + g * 0x40, 12, 4, 0⟩
/-- SQ_BASE.ADDR: 64-byte aligned. -/
def SQ_BASE (g : Nat) : Fld := ⟨0x32008 + g * 0x40, 6, 58, 0⟩
/-- CQ_BASE.ADDR: 64-byte aligned. -/
def CQ_BASE (g : Nat) : Fld := ⟨0x32010 + g * 0x40, 6, 58, 0⟩
/-- EQ_BASE.ADDR: 64-byte aligned. -/
def EQ_BASE (g : Nat) : Fld := ⟨0x32018 + g * 0x40, 6, 58, 0⟩
/-- SQ_TAIL.INDEX: Doorbell. -/
def SQ_TAIL (g : Nat) : Fld := ⟨0x32020 + g * 0x40, 0, 16, 0⟩
/-- SQ_HEAD.INDEX: Next entry to fetch. -/
def SQ_HEAD (g : Nat) : Fld := ⟨0x32024 + g * 0x40, 0, 16, 0⟩
/-- CQ_HEAD.INDEX: Next entry the host will consume. An index at or above the ring's size is a reserved encoding under R12. -/
def CQ_HEAD (g : Nat) : Fld := ⟨0x32028 + g * 0x40, 0, 16, 0⟩
/-- EQ_HEAD.INDEX: As CQ_HEAD. -/
def EQ_HEAD (g : Nat) : Fld := ⟨0x3202c + g * 0x40, 0, 16, 0⟩
/-- RING_VEC.CQ_VEC: MSI-X vector for the CQ. -/
def RING_VEC_CQ_VEC (g : Nat) : Fld := ⟨0x32030 + g * 0x40, 0, 11, 0⟩
/-- RING_VEC.EQ_VEC: MSI-X vector for the EQ. -/
def RING_VEC_EQ_VEC (g : Nat) : Fld := ⟨0x32030 + g * 0x40, 16, 11, 0⟩
/-- RING_STATUS.SQ_ERR: R222. -/
def RING_STATUS_SQ_ERR (g : Nat) : Fld := ⟨0x32034 + g * 0x40, 0, 1, 0⟩
/-- RING_STATUS.CQ_FULL: R222. -/
def RING_STATUS_CQ_FULL (g : Nat) : Fld := ⟨0x32034 + g * 0x40, 1, 1, 0⟩
/-- RING_STATUS.QUOTA_STOP: R223. -/
def RING_STATUS_QUOTA_STOP (g : Nat) : Fld := ⟨0x32034 + g * 0x40, 2, 1, 0⟩
/-- RING_STATUS.OUTSTANDING: 0–16,384. -/
def RING_STATUS_OUTSTANDING (g : Nat) : Fld := ⟨0x32034 + g * 0x40, 16, 15, 0⟩
/-- RING_LOST.COUNT: Events dropped. -/
def RING_LOST (g : Nat) : Fld := ⟨0x32038 + g * 0x40, 0, 32, 0⟩
/-- TOL_RATE.REFILL: 1/256 credit per µs. -/
def TOL_RATE (f : Nat) : Fld := ⟨0x34000 + f * 0x20, 0, 24, 0⟩
/-- TOL_DEPTH.DEPTH: 1–65,535 credits; 0 until the manifest loads. -/
def TOL_DEPTH (f : Nat) : Fld := ⟨0x34004 + f * 0x20, 0, 16, 0⟩
/-- TOL_DEBT.DEBT: 0–65,535 credits. -/
def TOL_DEBT (f : Nat) : Fld := ⟨0x34008 + f * 0x20, 0, 16, 0⟩
/-- TOL_WEIGHT.WEIGHT: R228. -/
def TOL_WEIGHT (f : Nat) : Fld := ⟨0x3400c + f * 0x20, 0, 8, 0⟩
/-- TOL_CREDIT.CREDIT: Signed 24.8 credits. -/
def TOL_CREDIT (f : Nat) : Fld := ⟨0x34010 + f * 0x20, 0, 32, 0⟩
/-- TOL_DEFICIT.DEFICIT: Credits. -/
def TOL_DEFICIT (f : Nat) : Fld := ⟨0x34014 + f * 0x20, 0, 32, 0⟩
/-- TOL_CNT_WAIT.COUNT: µs the head has waited at the gate. -/
def TOL_CNT_WAIT (f : Nat) : Fld := ⟨0x34018 + f * 0x20, 0, 32, 0⟩
/-- MAN_CTL.LOAD: Load (R245). -/
def MAN_CTL_LOAD : Fld := ⟨0x10000, 0, 1, 0⟩
/-- MAN_CTL.COMMIT: Commit (R250). -/
def MAN_CTL_COMMIT : Fld := ⟨0x10000, 1, 1, 0⟩
/-- MAN_CTL.DISCARD: Discard staged values (R251). -/
def MAN_CTL_DISCARD : Fld := ⟨0x10000, 2, 1, 0⟩
/-- MAN_STATUS.LOADED: A FULL manifest has been accepted since reset. -/
def MAN_STATUS_LOADED : Fld := ⟨0x10004, 0, 1, 0⟩
/-- MAN_STATUS.LOAD_BUSY: Load in progress. -/
def MAN_STATUS_LOAD_BUSY : Fld := ⟨0x10004, 1, 1, 0⟩
/-- MAN_STATUS.COMMIT_BUSY: Commit in progress. -/
def MAN_STATUS_COMMIT_BUSY : Fld := ⟨0x10004, 2, 1, 0⟩
/-- MAN_STATUS.PENDING: Some shadow value differs from its value in force. -/
def MAN_STATUS_PENDING : Fld := ⟨0x10004, 3, 1, 0⟩
/-- MAN_STATUS.PART_APPLIED: A load was applied in part (R248). -/
def MAN_STATUS_PART_APPLIED : Fld := ⟨0x10004, 4, 1, 0⟩
/-- MAN_STATUS.ERR: 0 NONE, 1 BUSY, 2 READ, 3 FORMAT, 4 BAND, 5 KIND, 6 CRC, 7 DIGEST, 8 RANGE, 9 RULES. Any write of 1 to bits 11:8 clears the field. -/
def MAN_STATUS_ERR : Fld := ⟨0x10004, 8, 4, 0⟩
/-- MAN_STATUS.COMMIT_ERR: 0 NONE, 1 BUSY, 9 RULES. Any write of 1 to bits 15:12 clears the field. -/
def MAN_STATUS_COMMIT_ERR : Fld := ⟨0x10004, 12, 4, 0⟩
/-- MAN_STATUS.SECTION: TYPE of the section that failed; 0 if none. -/
def MAN_STATUS_SECTION : Fld := ⟨0x10004, 16, 8, 0⟩
/-- MAN_ADDR.ADDR: Host address, 64-byte aligned; bits 5:0 reserved. -/
def MAN_ADDR : Fld := ⟨0x10008, 6, 58, 0⟩
/-- MAN_LEN.BYTES: Length in bytes. -/
def MAN_LEN : Fld := ⟨0x10010, 0, 24, 0⟩
/-- MAN_COMMITS.COUNT: Commits completed since reset. -/
def MAN_COMMITS : Fld := ⟨0x10014, 0, 32, 0⟩
/-- MAN_SERIAL.SERIAL: SERIAL of the last accepted manifest. -/
def MAN_SERIAL : Fld := ⟨0x10018, 0, 64, 0⟩
/-- MAN_DIGEST.DIGEST: Trailer of the last accepted manifest; MAN_DIGEST0 holds bytes 0–3. -/
def MAN_DIGEST (q : Nat) : Fld := ⟨0x10020 + q * 0x4, 0, 32, 0⟩
/-- MAN_FLD_SEL.SECTION: Section TYPE, 1–13. -/
def MAN_FLD_SEL_SECTION : Fld := ⟨0x10040, 0, 4, 0⟩
/-- MAN_FLD_SEL.VIEW: 0 shadow, 1 value in force (R249). -/
def MAN_FLD_SEL_VIEW : Fld := ⟨0x10040, 4, 1, 0⟩
/-- MAN_FLD_SEL.INDEX: Body word w; beyond the body is a reserved encoding. -/
def MAN_FLD_SEL_INDEX : Fld := ⟨0x10040, 12, 16, 0⟩
/-- MAN_FLD_DATA.DATA: Selected word (R249). -/
def MAN_FLD_DATA : Fld := ⟨0x10044, 0, 32, 0⟩
/-- MAN_FROZEN_CNT.COUNT: FROZEN writes refused. -/
def MAN_FROZEN_CNT : Fld := ⟨0x10048, 0, 32, 0⟩
/-- MAN_FROZEN_LAST.SECTION: Section of the last refused FROZEN write. -/
def MAN_FROZEN_LAST_SECTION : Fld := ⟨0x1004c, 0, 4, 0⟩
/-- MAN_FROZEN_LAST.INDEX: Word of that write. -/
def MAN_FROZEN_LAST_INDEX : Fld := ⟨0x1004c, 12, 16, 0⟩
/-- MAN_BLK_CTL.OUT: Take block b out of service (R242). -/
def MAN_BLK_CTL_OUT (b : Nat) : Fld := ⟨0x10100 + b * 0x4, 0, 1, 0⟩
/-- MAN_BLK_CTL.IN: Return block b to service (R241). -/
def MAN_BLK_CTL_IN (b : Nat) : Fld := ⟨0x10100 + b * 0x4, 1, 1, 0⟩
/-- MAN_BLK_CTL.FORCE: With OUT: R242 even with tickets on ingress or egress ports. -/
def MAN_BLK_CTL_FORCE (b : Nat) : Fld := ⟨0x10100 + b * 0x4, 2, 1, 0⟩
/-- MAN_BLK_CTL.SPARE_HELD: Block is a held spare (R243). -/
def MAN_BLK_CTL_SPARE_HELD (b : Nat) : Fld := ⟨0x10100 + b * 0x4, 8, 1, 0⟩
/-- MAN_BLK_CTL.SPARE_RELEASED: Block was released from spare. -/
def MAN_BLK_CTL_SPARE_RELEASED (b : Nat) : Fld := ⟨0x10100 + b * 0x4, 9, 1, 0⟩
/-- MAN_BLK_CTL.RETURN_HELD: A return waits for the conditions of R241. -/
def MAN_BLK_CTL_RETURN_HELD (b : Nat) : Fld := ⟨0x10100 + b * 0x4, 10, 1, 0⟩
/-- MAN_BLK_CTL.RESULT: Last request: 0 OK, 1 BUSY, 2 NOT_READY, 3 CAPSTAN_FAILED. -/
def MAN_BLK_CTL_RESULT (b : Nat) : Fld := ⟨0x10100 + b * 0x4, 12, 2, 0⟩
/-- SEAL_CTL.CLOSE: Close the seal (R257). -/
def SEAL_CTL_CLOSE : Fld := ⟨0x18000, 0, 1, 0⟩
/-- SEAL_CTL.PROPOSE: Stage a proposal (R260). -/
def SEAL_CTL_PROPOSE : Fld := ⟨0x18000, 1, 1, 0⟩
/-- SEAL_CTL.WITHDRAW: Discard the staged proposal (R261). -/
def SEAL_CTL_WITHDRAW : Fld := ⟨0x18000, 2, 1, 0⟩
/-- SEAL_CTL.APPROVE_A: Submit party A's approval (R262). -/
def SEAL_CTL_APPROVE_A : Fld := ⟨0x18000, 3, 1, 0⟩
/-- SEAL_STATUS.CLOSED: Seal closed. -/
def SEAL_STATUS_CLOSED : Fld := ⟨0x18004, 0, 1, 0⟩
/-- SEAL_STATUS.KEY_A: Key A loaded. -/
def SEAL_STATUS_KEY_A : Fld := ⟨0x18004, 1, 1, 0⟩
/-- SEAL_STATUS.KEY_B: Key B loaded. -/
def SEAL_STATUS_KEY_B : Fld := ⟨0x18004, 2, 1, 0⟩
/-- SEAL_STATUS.STAGED: A proposal is staged. -/
def SEAL_STATUS_STAGED : Fld := ⟨0x18004, 4, 1, 0⟩
/-- SEAL_STATUS.HAVE_A: Valid approval from party A recorded. -/
def SEAL_STATUS_HAVE_A : Fld := ⟨0x18004, 5, 1, 0⟩
/-- SEAL_STATUS.HAVE_B: Valid approval from party B recorded. -/
def SEAL_STATUS_HAVE_B : Fld := ⟨0x18004, 6, 1, 0⟩
/-- SEAL_STATUS.COMMITTING: R263 in progress. -/
def SEAL_STATUS_COMMITTING : Fld := ⟨0x18004, 7, 1, 0⟩
/-- SEAL_STATUS.BAD_MACS: Wrong MACs for the staged proposal, 0–2. -/
def SEAL_STATUS_BAD_MACS : Fld := ⟨0x18004, 8, 2, 0⟩
/-- SEAL_WINDOW.S: Window, 1–600 s; applies from the next staging. -/
def SEAL_WINDOW : Fld := ⟨0x18008, 0, 10, 60⟩
/-- SEAL_PROP_ADDR.ADDR: Host address, 64-byte aligned; bits 5:0 reserved. -/
def SEAL_PROP_ADDR : Fld := ⟨0x18010, 6, 58, 0⟩
/-- SEAL_PROP_LEN.BYTES: Length in bytes. -/
def SEAL_PROP_LEN : Fld := ⟨0x18018, 0, 24, 0⟩
/-- SEAL_PROP_SEQ.SEQ: SEQ of the staged proposal. -/
def SEAL_PROP_SEQ : Fld := ⟨0x18020, 0, 64, 0⟩
/-- SEAL_SEQ_HIGH.SEQ: Highest SEQ ever staged since reset. -/
def SEAL_SEQ_HIGH : Fld := ⟨0x18028, 0, 64, 0⟩
/-- SEAL_PROP_EXPIRY.63:0: Expiry, in the layout of TKT_MAKE. -/
def SEAL_PROP_EXPIRY : Fld := ⟨0x18030, 0, 64, 0⟩
/-- SEAL_PROP_DIGEST.D: Digest D; SEAL_PROP_DIGEST0 holds bytes 0–3. -/
def SEAL_PROP_DIGEST (q : Nat) : Fld := ⟨0x18040 + q * 0x4, 0, 32, 0⟩
/-- SEAL_APPR_SEQ.SEQ: SEQ of party A's approval. -/
def SEAL_APPR_SEQ : Fld := ⟨0x18060, 0, 64, 0⟩
/-- SEAL_APPR_MAC.MAC: Party A's MAC; SEAL_APPR_MAC0 holds bytes 0–3. -/
def SEAL_APPR_MAC (q : Nat) : Fld := ⟨0x18068 + q * 0x4, 0, 32, 0⟩
/-- SEAL_KEY_A.KEY: Key A; SEAL_KEY_A0 holds bits 31:0. -/
def SEAL_KEY_A (q : Nat) : Fld := ⟨0x18080 + q * 0x4, 0, 32, 0⟩
/-- SEAL_KEY_B.KEY: Key B, as key A. -/
def SEAL_KEY_B (q : Nat) : Fld := ⟨0x180a0 + q * 0x4, 0, 32, 0⟩
/-- SEAL_CNT_REFUSED.COUNT: Seal refusals. -/
def SEAL_CNT_REFUSED : Fld := ⟨0x180c0, 0, 32, 0⟩
/-- SEAL_LAST_INFO.REASON: Last reason code, as below. -/
def SEAL_LAST_INFO_REASON : Fld := ⟨0x180c4, 0, 5, 0⟩
/-- SEAL_LAST_INFO.PARTY: 0 A or PF0 write, 1 B path. -/
def SEAL_LAST_INFO_PARTY : Fld := ⟨0x180c4, 8, 1, 0⟩
/-- SEAL_LAST_TIME.63:0: Time of the last refusal, layout of TKT_MAKE. -/
def SEAL_LAST_TIME : Fld := ⟨0x180c8, 0, 64, 0⟩
/-- SEAL_CNT_APPLIED.COUNT: Proposals applied since reset. -/
def SEAL_CNT_APPLIED : Fld := ⟨0x180d0, 0, 32, 0⟩
/-- WHL_STATUS.ACTIVE: 0 none, 1 WH-A, 2 WH-B; 3 reserved. -/
def WHL_STATUS_ACTIVE : Fld := ⟨0x20000, 0, 2, 0⟩
/-- WHL_STATUS.MODE: 0 LEASE, 1 WATCH. -/
def WHL_STATUS_MODE : Fld := ⟨0x20000, 2, 1, 0⟩
/-- WHL_STATUS.TOKEN: 0 keeper, 1 WH-A, 2 WH-B. -/
def WHL_STATUS_TOKEN : Fld := ⟨0x20000, 3, 2, 0⟩
/-- WHL_STATUS.REVOKED: Output stages revoked. -/
def WHL_STATUS_REVOKED : Fld := ⟨0x20000, 5, 1, 1⟩
/-- WHL_STATUS.SWAP_REFUSED: A SWAP was refused (R285). -/
def WHL_STATUS_SWAP_REFUSED : Fld := ⟨0x20000, 6, 1, 0⟩
/-- WHL_STATUS.STATE_A: 0 RESET, 1 BOOT, 2 RESYNC, 3 STANDBY, 4 ACTIVE, 5 STALE, 6 FAILED; 7 reserved. -/
def WHL_STATUS_STATE_A : Fld := ⟨0x20000, 8, 3, 0⟩
/-- WHL_STATUS.STATE_B: As STATE_A. -/
def WHL_STATUS_STATE_B : Fld := ⟨0x20000, 12, 3, 0⟩
/-- WHL_CTL.SWAP: Planned switchover. -/
def WHL_CTL_SWAP : Fld := ⟨0x20004, 0, 1, 0⟩
/-- WHL_CTL.RESYNC_A: Return WH-A (R281). -/
def WHL_CTL_RESYNC_A : Fld := ⟨0x20004, 1, 1, 0⟩
/-- WHL_CTL.RESYNC_B: Return WH-B. -/
def WHL_CTL_RESYNC_B : Fld := ⟨0x20004, 2, 1, 0⟩
/-- WHL_CTL.FAIL_A: Fail WH-A. -/
def WHL_CTL_FAIL_A : Fld := ⟨0x20004, 3, 1, 0⟩
/-- WHL_CTL.FAIL_B: Fail WH-B. -/
def WHL_CTL_FAIL_B : Fld := ⟨0x20004, 4, 1, 0⟩
/-- WHL_CLAIM.CLAIM: Claim in force. -/
def WHL_CLAIM : Fld := ⟨0x20008, 0, 32, 0⟩
/-- WHL_CPN.CPN: Last commit point released. -/
def WHL_CPN : Fld := ⟨0x20010, 0, 48, 0⟩
/-- WHL_LEASE.REMAIN_US: Lease remaining, 0–10,000 µs; 0 in WATCH mode. -/
def WHL_LEASE : Fld := ⟨0x20018, 0, 14, 0⟩
/-- WHL_HEALTH_A.OK: Last report passed. -/
def WHL_HEALTH_A_OK : Fld := ⟨0x20020, 0, 1, 0⟩
/-- WHL_HEALTH_A.BIST_FAIL: Memory slice failed. -/
def WHL_HEALTH_A_BIST_FAIL : Fld := ⟨0x20020, 1, 1, 0⟩
/-- WHL_HEALTH_A.KAT_FAIL: Known-answer set failed. -/
def WHL_HEALTH_A_KAT_FAIL : Fld := ⟨0x20020, 2, 1, 0⟩
/-- WHL_HEALTH_A.INJ_FAIL: Comparator injection failed. -/
def WHL_HEALTH_A_INJ_FAIL : Fld := ⟨0x20020, 3, 1, 0⟩
/-- WHL_HEALTH_A.SLICE: Slice last tested, 0–9. -/
def WHL_HEALTH_A_SLICE : Fld := ⟨0x20020, 4, 4, 0⟩
/-- WHL_HEALTH_A.AGE_MS: Age of the report, saturating at 255 ms. -/
def WHL_HEALTH_A_AGE_MS : Fld := ⟨0x20020, 8, 8, 255⟩
/-- WHL_HEALTH_B.OK: Last report passed. -/
def WHL_HEALTH_B_OK : Fld := ⟨0x20024, 0, 1, 0⟩
/-- WHL_HEALTH_B.BIST_FAIL: Memory slice failed. -/
def WHL_HEALTH_B_BIST_FAIL : Fld := ⟨0x20024, 1, 1, 0⟩
/-- WHL_HEALTH_B.KAT_FAIL: Known-answer set failed. -/
def WHL_HEALTH_B_KAT_FAIL : Fld := ⟨0x20024, 2, 1, 0⟩
/-- WHL_HEALTH_B.INJ_FAIL: Comparator injection failed. -/
def WHL_HEALTH_B_INJ_FAIL : Fld := ⟨0x20024, 3, 1, 0⟩
/-- WHL_HEALTH_B.SLICE: Slice last tested, 0–9. -/
def WHL_HEALTH_B_SLICE : Fld := ⟨0x20024, 4, 4, 0⟩
/-- WHL_HEALTH_B.AGE_MS: Age of the report, saturating at 255 ms. -/
def WHL_HEALTH_B_AGE_MS : Fld := ⟨0x20024, 8, 8, 255⟩
/-- WHL_WATCH.BB_A: Backbone heartbeat from WH-A within 4 µs. -/
def WHL_WATCH_BB_A : Fld := ⟨0x20030, 0, 1, 0⟩
/-- WHL_WATCH.WIRE_A: Watch-wire heartbeat from WH-A within 4 µs. -/
def WHL_WATCH_WIRE_A : Fld := ⟨0x20030, 1, 1, 0⟩
/-- WHL_WATCH.BB_B: As BB_A, from WH-B. -/
def WHL_WATCH_BB_B : Fld := ⟨0x20030, 2, 1, 0⟩
/-- WHL_WATCH.WIRE_B: As WIRE_A, from WH-B. -/
def WHL_WATCH_WIRE_B : Fld := ⟨0x20030, 3, 1, 0⟩
/-- WHL_CNT_SWITCH.COUNT: Token grants since reset, SWAP included. -/
def WHL_CNT_SWITCH : Fld := ⟨0x20040, 0, 32, 0⟩
/-- WHL_CNT_DIVERGE.COUNT: WHL_DIVERGE raised. -/
def WHL_CNT_DIVERGE : Fld := ⟨0x20044, 0, 32, 0⟩
/-- WHL_CNT_STALE.COUNT: Words ignored under R272 and R280. -/
def WHL_CNT_STALE : Fld := ⟨0x20048, 0, 32, 0⟩
/-- WHL_LAST_CAUSE.CAUSE: 0 none, 1 HEARTBEAT, 2 FATAL, 3 DIVERGE, 4 SWAP, 5 FAIL_CMD, 6 LEASE. -/
def WHL_LAST_CAUSE_CAUSE : Fld := ⟨0x2004c, 0, 4, 0⟩
/-- WHL_LAST_CAUSE.FROM: Wheelhouse replaced: 1 WH-A, 2 WH-B. -/
def WHL_LAST_CAUSE_FROM : Fld := ⟨0x2004c, 4, 2, 0⟩
/-- WHL_LAST_SWITCH.63:0: Grant instant of the last switch, layout of TKT_MAKE. -/
def WHL_LAST_SWITCH : Fld := ⟨0x20050, 0, 64, 0⟩
/-- WHL_INLET_SEQ.SEQ: Last sequence number issued by the inlet. -/
def WHL_INLET_SEQ : Fld := ⟨0x20058, 0, 48, 0⟩
/-- FLT_STATUS.SAFE: L3 or L4 holds. -/
def FLT_STATUS_SAFE : Fld := ⟨0x60000, 0, 1, 0⟩
/-- FLT_STATUS.FROZEN: Logbook frozen. -/
def FLT_STATUS_FROZEN : Fld := ⟨0x60000, 1, 1, 0⟩
/-- FLT_STATUS.FAULT_N: 1 while FAULT_N is asserted. -/
def FLT_STATUS_FAULT_N : Fld := ⟨0x60000, 2, 1, 0⟩
/-- FLT_STATUS.BELL_RUN: BELL toggling. -/
def FLT_STATUS_BELL_RUN : Fld := ⟨0x60000, 3, 1, 0⟩
/-- FLT_STATUS.OPEN: Open occurrences, 0–61. -/
def FLT_STATUS_OPEN : Fld := ⟨0x60000, 8, 8, 0⟩
/-- FLT_STATUS.MAX_LEVEL: Highest open level. -/
def FLT_STATUS_MAX_LEVEL : Fld := ⟨0x60000, 16, 3, 0⟩
/-- FLT_CTL.UNFREEZE: R303. -/
def FLT_CTL : Fld := ⟨0x60004, 0, 1, 0⟩
/-- FLT_VEC.VEC: PF0 MSI-X vector, 0–2,047. -/
def FLT_VEC : Fld := ⟨0x60008, 0, 11, 0⟩
/-- FLT_ACK.CLASS: Class to acknowledge. -/
def FLT_ACK_CLASS : Fld := ⟨0x6000c, 0, 7, 0⟩
/-- FLT_ACK.GO: Acknowledge (R291). -/
def FLT_ACK_GO : Fld := ⟨0x6000c, 8, 1, 0⟩
/-- FLT_CNT_UNLOGGED.COUNT: Events not logged while frozen. -/
def FLT_CNT_UNLOGGED : Fld := ⟨0x60010, 0, 32, 0⟩
/-- FLT_SAFE_CAUSE.CLASS: Class that caused L3 or L4. -/
def FLT_SAFE_CAUSE_CLASS : Fld := ⟨0x60014, 0, 7, 0⟩
/-- FLT_SAFE_CAUSE.LEVEL: 3 or 4. -/
def FLT_SAFE_CAUSE_LEVEL : Fld := ⟨0x60014, 8, 3, 0⟩
/-- FLT_SAFE_CAUSE.VALID: Fields valid. -/
def FLT_SAFE_CAUSE_VALID : Fld := ⟨0x60014, 11, 1, 0⟩
/-- FLT_SAFE_TIME.63:0: Decision instant, layout of TKT_MAKE. -/
def FLT_SAFE_TIME : Fld := ⟨0x60018, 0, 64, 0⟩
/-- FLT_LOG_HEAD.NEXT: Entry to be written next. -/
def FLT_LOG_HEAD_NEXT : Fld := ⟨0x60020, 0, 6, 0⟩
/-- FLT_LOG_HEAD.WRAPPED: Store has wrapped. -/
def FLT_LOG_HEAD_WRAPPED : Fld := ⟨0x60020, 6, 1, 0⟩
/-- FLT_OPEN.OPEN: Bit c mod 32 of FLT_OPEN(c div 32): class c open. -/
def FLT_OPEN (q : Nat) : Fld := ⟨0x60030 + q * 0x4, 0, 32, 0⟩
/-- FLT_CLS_STATUS.OPEN: Occurrence open. -/
def FLT_CLS_STATUS_OPEN (c : Nat) : Fld := ⟨0x60100 + c * 0x10, 0, 1, 0⟩
/-- FLT_CLS_STATUS.LEVEL_CFG: LEVEL in force. -/
def FLT_CLS_STATUS_LEVEL_CFG (c : Nat) : Fld := ⟨0x60100 + c * 0x10, 1, 3, 0⟩
/-- FLT_CLS_STATUS.LEVEL_NOW: Level of the open occurrence. -/
def FLT_CLS_STATUS_LEVEL_NOW (c : Nat) : Fld := ⟨0x60100 + c * 0x10, 4, 3, 0⟩
/-- FLT_CLS_STATUS.TIMER_RUN: Timer running. -/
def FLT_CLS_STATUS_TIMER_RUN (c : Nat) : Fld := ⟨0x60100 + c * 0x10, 7, 1, 0⟩
/-- FLT_CLS_STATUS.REMAIN_US: Timer remaining, 0–1,000,000 µs. -/
def FLT_CLS_STATUS_REMAIN_US (c : Nat) : Fld := ⟨0x60100 + c * 0x10, 8, 20, 0⟩
/-- FLT_CLS_COUNT.COUNT: Faults of the class. -/
def FLT_CLS_COUNT (c : Nat) : Fld := ⟨0x60104 + c * 0x10, 0, 32, 0⟩
/-- FLT_CLS_LAST.63:0: Time of the last fault, layout of TKT_MAKE. -/
def FLT_CLS_LAST (c : Nat) : Fld := ⟨0x60108 + c * 0x10, 0, 64, 0⟩
/-- ILK_STATUS.STATE: Bits 2i+1:2i for slot i: 0 CLOSED, 1 OPEN, 2 READY; 3 reserved. -/
def ILK_STATUS_STATE : Fld := ⟨0x68000, 0, 16, 0x5555⟩
/-- ILK_STATUS.SAFE_OK: SAFE_OK asserted (R317). -/
def ILK_STATUS_SAFE_OK : Fld := ⟨0x68000, 16, 1, 0⟩
/-- ILK_STATUS.WD_OK: Watchdog serviced (R319). -/
def ILK_STATUS_WD_OK : Fld := ⟨0x68000, 17, 1, 0⟩
/-- ILK_CTL.RESET: Bit i: restart slot i (R316). -/
def ILK_CTL_RESET : Fld := ⟨0x68004, 0, 8, 0⟩
/-- ILK_DISC.DISC: Bit i: discrepancy latched (R312). -/
def ILK_DISC : Fld := ⟨0x68008, 0, 8, 0⟩
/-- ILK_CONTACTS.A: Bit i: ILKiA accepted closed. -/
def ILK_CONTACTS_A : Fld := ⟨0x6800c, 0, 8, 0⟩
/-- ILK_CONTACTS.B: Bit i: ILKiB accepted closed. -/
def ILK_CONTACTS_B : Fld := ⟨0x6800c, 8, 8, 0⟩
/-- ILK_CONTACTS.REMOTE: Bit i: slot i opened by a remote source. -/
def ILK_CONTACTS_REMOTE : Fld := ⟨0x6800c, 16, 8, 0⟩
/-- ILK_LOCAL_EN.EN: Bit i: slot i uses its contacts. -/
def ILK_LOCAL_EN : Fld := ⟨0x68010, 0, 8, 0xFF⟩
/-- ILK_TEST_STATUS.FAIL: A test has failed (R320). -/
def ILK_TEST_STATUS_FAIL : Fld := ⟨0x68014, 0, 1, 0⟩
/-- ILK_TEST_STATUS.UNTESTED: Outputs untested in the last period, 0–512. -/
def ILK_TEST_STATUS_UNTESTED : Fld := ⟨0x68014, 1, 10, 0⟩
/-- ILK_TEST_STATUS.LAST_PORT: Port window index of the last failure. -/
def ILK_TEST_STATUS_LAST_PORT : Fld := ⟨0x68014, 16, 10, 0⟩
/-- ILK_TEST_STATUS.LAST_BLOCK: Last failure was a block test channel; LAST_PORT then holds the block number, 64–95. -/
def ILK_TEST_STATUS_LAST_BLOCK : Fld := ⟨0x68014, 26, 1, 0⟩
/-- ILK_TEST_LAST.63:0: End of the last test period, layout of TKT_MAKE. -/
def ILK_TEST_LAST : Fld := ⟨0x68018, 0, 64, 0⟩
/-- ILK_CNT_MISMATCH.COUNT: Mismatched or missing copies. -/
def ILK_CNT_MISMATCH : Fld := ⟨0x68020, 0, 32, 0⟩
/-- ILK_CNT_BADCRC.COUNT: Messages discarded for CRC. -/
def ILK_CNT_BADCRC : Fld := ⟨0x68024, 0, 32, 0⟩
/-- ILK_EDGE_A.63:0: Last raw edge of ILKiA. -/
def ILK_EDGE_A (i : Nat) : Fld := ⟨0x68100 + i * 0x20, 0, 64, 0⟩
/-- ILK_EDGE_B.63:0: Last raw edge of ILKiB. -/
def ILK_EDGE_B (i : Nat) : Fld := ⟨0x68108 + i * 0x20, 0, 64, 0⟩
/-- ILK_OPENED.63:0: Last time slot i left CLOSED. -/
def ILK_OPENED (i : Nat) : Fld := ⟨0x68110 + i * 0x20, 0, 64, 0⟩
/-- ILK_CNT_OPEN.COUNT: Times slot i left CLOSED. -/
def ILK_CNT_OPEN (i : Nat) : Fld := ⟨0x68118 + i * 0x20, 0, 32, 0⟩
/-- ILK_FWD.EN: Entry e (0–15) enabled. -/
def ILK_FWD_EN (e : Nat) : Fld := ⟨0x68200 + e * 0x4, 0, 1, 0⟩
/-- ILK_FWD.SLOT: Local slot forwarded. -/
def ILK_FWD_SLOT (e : Nat) : Fld := ⟨0x68200 + e * 0x4, 1, 3, 0⟩
/-- ILK_FWD.MODULE: Destination module ID. -/
def ILK_FWD_MODULE (e : Nat) : Fld := ⟨0x68200 + e * 0x4, 4, 12, 0⟩
/-- ILK_FWD.ACK_A: ACK on network A within 2 ms. -/
def ILK_FWD_ACK_A (e : Nat) : Fld := ⟨0x68200 + e * 0x4, 24, 1, 0⟩
/-- ILK_FWD.ACK_B: ACK on network B within 2 ms. -/
def ILK_FWD_ACK_B (e : Nat) : Fld := ⟨0x68200 + e * 0x4, 25, 1, 0⟩
/-- ILK_SRC.EN: Source j (0–3) of slot r enabled. -/
def ILK_SRC_EN (r j : Nat) : Fld := ⟨0x68300 + r * 0x10 + j * 0x4, 0, 1, 0⟩
/-- ILK_SRC.INTERLOCK: Sender's slot. -/
def ILK_SRC_INTERLOCK (r j : Nat) : Fld := ⟨0x68300 + r * 0x10 + j * 0x4, 1, 3, 0⟩
/-- ILK_SRC.MODULE: Sender's module ID. -/
def ILK_SRC_MODULE (r j : Nat) : Fld := ⟨0x68300 + r * 0x10 + j * 0x4, 4, 12, 0⟩
/-- ILK_SRC.OK_A: Valid copy on network A within 3 ms. -/
def ILK_SRC_OK_A (r j : Nat) : Fld := ⟨0x68300 + r * 0x10 + j * 0x4, 24, 1, 0⟩
/-- ILK_SRC.OK_B: Valid copy on network B within 3 ms. -/
def ILK_SRC_OK_B (r j : Nat) : Fld := ⟨0x68300 + r * 0x10 + j * 0x4, 25, 1, 0⟩
/-- ILK_HELD.HELD: Bit k: port window index 32w + k (R61) is in a dark set; w 0–31. -/
def ILK_HELD (w : Nat) : Fld := ⟨0x68400 + w * 0x4, 0, 32, 0⟩
/-- FRY_CTL.TIME_INT: Exchange interval, 1–8,000, in 125 µs. -/
def FRY_CTL_TIME_INT : Fld := ⟨0x70000, 0, 13, 8⟩
/-- FRY_STATUS.PORT_UP: Bit k: FPk UP. -/
def FRY_STATUS_PORT_UP : Fld := ⟨0x70004, 0, 8, 0⟩
/-- FRY_STATUS.MODULE_ID: Module ID in force. -/
def FRY_STATUS_MODULE_ID : Fld := ⟨0x70004, 16, 12, 0⟩
/-- FRY_TEL_CFG.INT_MS: 1–1,000 ms. -/
def FRY_TEL_CFG_INT_MS : Fld := ⟨0x70008, 0, 10, 100⟩
/-- FRY_TEL_CFG.DST: Destination module. -/
def FRY_TEL_CFG_DST : Fld := ⟨0x70008, 16, 12, 0⟩
/-- FRY_TEL_CFG.EN: Send telemetry. -/
def FRY_TEL_CFG_EN : Fld := ⟨0x70008, 28, 1, 0⟩
/-- FRY_TEL_PORTS.PORTS: Port groups appended (R351). -/
def FRY_TEL_PORTS : Fld := ⟨0x7000c, 0, 8, 0⟩
/-- FRY_TEL_RING_BASE.ADDR: 1 KiB aligned; unit: the ring, out of service while EN is 0. -/
def FRY_TEL_RING_BASE : Fld := ⟨0x70010, 10, 54, 0⟩
/-- FRY_TEL_RING_CFG.EN: Ring enabled. -/
def FRY_TEL_RING_CFG_EN : Fld := ⟨0x70018, 0, 1, 0⟩
/-- FRY_TEL_RING_CFG.SIZE: 2^(n+4) slots, n 0–8. -/
def FRY_TEL_RING_CFG_SIZE : Fld := ⟨0x70018, 4, 4, 0⟩
/-- FRY_TEL_RING_CFG.VEC: PF0 MSI-X vector. -/
def FRY_TEL_RING_CFG_VEC : Fld := ⟨0x70018, 16, 11, 0⟩
/-- FRY_TEL_RING_TAIL.INDEX: Next slot the device writes. -/
def FRY_TEL_RING_TAIL : Fld := ⟨0x7001c, 0, 16, 0⟩
/-- FRY_TEL_RING_HEAD.INDEX: Next slot the host consumes. -/
def FRY_TEL_RING_HEAD : Fld := ⟨0x70020, 0, 16, 0⟩
/-- FRY_TEL_CNT_DROP.COUNT: Telemetry frames dropped, ring full. -/
def FRY_TEL_CNT_DROP : Fld := ⟨0x70024, 0, 32, 0⟩
/-- FRY_SEAL_SRC.MODULE: Party B's module (R350). -/
def FRY_SEAL_SRC_MODULE : Fld := ⟨0x70028, 0, 12, 0⟩
/-- FRY_SEAL_SRC.EN: Accept SEAL_B frames. -/
def FRY_SEAL_SRC_EN : Fld := ⟨0x70028, 12, 1, 0⟩
/-- FRY_CNT_NOROUTE.COUNT: Frames dropped under R331. -/
def FRY_CNT_NOROUTE : Fld := ⟨0x70030, 0, 32, 0⟩
/-- FRY_PORT_CTL.ENABLE: Port enabled (R332, R344). -/
def FRY_PORT_CTL_ENABLE (k : Nat) : Fld := ⟨0x70100 + k * 0x40, 0, 1, 0⟩
/-- FRY_PORT_CTL.FWD_BCAST: Forward broadcasts (R331). -/
def FRY_PORT_CTL_FWD_BCAST (k : Nat) : Fld := ⟨0x70100 + k * 0x40, 1, 1, 0⟩
/-- FRY_PORT_WIN.PERIOD: Window period, 200–65,535 ns. -/
def FRY_PORT_WIN_PERIOD (k : Nat) : Fld := ⟨0x70104 + k * 0x40, 0, 16, 1000⟩
/-- FRY_PORT_WIN.LEN: Window length, 100 ns to PERIOD / 2. -/
def FRY_PORT_WIN_LEN (k : Nat) : Fld := ⟨0x70104 + k * 0x40, 16, 16, 250⟩
/-- FRY_PORT_ASYM.PS: Signed forward minus return delay, ps (R346). -/
def FRY_PORT_ASYM (k : Nat) : Fld := ⟨0x70108 + k * 0x40, 0, 16, 0⟩
/-- FRY_PORT_STATUS.STATE: 0 DISABLED, 1 TRAINING, 2 UP, 3 DOWN. -/
def FRY_PORT_STATUS_STATE (k : Nat) : Fld := ⟨0x7010c + k * 0x40, 0, 2, 0⟩
/-- FRY_PORT_STATUS.CAUSE: 0 none, 1 LOCK, 2 VIOLATIONS, 3 REPLAY, 4 LOOP, 5 UNIT_OFF. -/
def FRY_PORT_STATUS_CAUSE (k : Nat) : Fld := ⟨0x7010c + k * 0x40, 2, 3, 0⟩
/-- FRY_PORT_STATUS.PEER: Partner's module ID from HELLO. -/
def FRY_PORT_STATUS_PEER (k : Nat) : Fld := ⟨0x7010c + k * 0x40, 16, 12, 0⟩
/-- FRY_PORT_STATUS.PEER_VALID: PEER valid. -/
def FRY_PORT_STATUS_PEER_VALID (k : Nat) : Fld := ⟨0x7010c + k * 0x40, 28, 1, 0⟩
/-- FRY_PORT_VIOL_RATE.COUNT: Violations in the last whole second. -/
def FRY_PORT_VIOL_RATE (k : Nat) : Fld := ⟨0x70110 + k * 0x40, 0, 16, 0⟩
/-- FRY_PORT_CNT_REPLAY.COUNT: Replays started. -/
def FRY_PORT_CNT_REPLAY (k : Nat) : Fld := ⟨0x70114 + k * 0x40, 0, 32, 0⟩
/-- FRY_PORT_CNT_QFULL.COUNT: Frames dropped, queue full. -/
def FRY_PORT_CNT_QFULL (k : Nat) : Fld := ⟨0x70118 + k * 0x40, 0, 32, 0⟩
/-- FRY_PORT_CNT_VIOL.COUNT: Frames dropped for reason r = 1–6 (R342). -/
def FRY_PORT_CNT_VIOL (k r : Nat) : Fld := ⟨0x70120 + k * 0x40 + r * 0x4, 0, 32, 0⟩
/-- FRY_PORT_CNT_NAKRX.COUNT: NAKs received from the partner. -/
def FRY_PORT_CNT_NAKRX (k : Nat) : Fld := ⟨0x70138 + k * 0x40, 0, 32, 0⟩
/-- FRY_LANE_STATUS.LOCK: Receiver locked. -/
def FRY_LANE_STATUS_LOCK (l : Nat) : Fld := ⟨0x70400 + l * 0x10, 0, 1, 0⟩
/-- FRY_LANE_STATUS.ALIGNED: Codeword alignment held. -/
def FRY_LANE_STATUS_ALIGNED (l : Nat) : Fld := ⟨0x70400 + l * 0x10, 1, 1, 0⟩
/-- FRY_LANE_STATUS.SKEW: Delay behind the port's other lane, 0.1 ns units; 0 on the later lane. -/
def FRY_LANE_STATUS_SKEW (l : Nat) : Fld := ⟨0x70400 + l * 0x10, 8, 8, 0⟩
/-- FRY_LANE_FEC_CORR.COUNT: Codewords corrected. -/
def FRY_LANE_FEC_CORR (l : Nat) : Fld := ⟨0x70404 + l * 0x10, 0, 32, 0⟩
/-- FRY_LANE_FEC_UNCORR.COUNT: Codewords uncorrectable. -/
def FRY_LANE_FEC_UNCORR (l : Nat) : Fld := ⟨0x70408 + l * 0x10, 0, 32, 0⟩
/-- FRY_ROUTE.PORT: Egress port. -/
def FRY_ROUTE_PORT (m : Nat) : Fld := ⟨0x74000 + m * 0x4, 0, 3, 0⟩
/-- FRY_ROUTE.VALID: PORT valid. -/
def FRY_ROUTE_VALID (m : Nat) : Fld := ⟨0x74000 + m * 0x4, 3, 1, 0⟩
/-- FRY_ROUTE.ALT: Egress port used while PORT is not UP. -/
def FRY_ROUTE_ALT (m : Nat) : Fld := ⟨0x74000 + m * 0x4, 4, 3, 0⟩
/-- FRY_ROUTE.ALT_VALID: ALT valid. -/
def FRY_ROUTE_ALT_VALID (m : Nat) : Fld := ⟨0x74000 + m * 0x4, 7, 1, 0⟩
/-- HST_STATUS.LINK_UP: Data Link Layer up. -/
def HST_STATUS_LINK_UP : Fld := ⟨0x8000, 0, 1, 0⟩
/-- HST_STATUS.CACHE_EN: CXL.cache enabled by the host. -/
def HST_STATUS_CACHE_EN : Fld := ⟨0x8000, 1, 1, 0⟩
/-- HST_STATUS.RATE: 0 down, 1 32 GT/s, 2 64 GT/s. -/
def HST_STATUS_RATE : Fld := ⟨0x8000, 2, 2, 0⟩
/-- HST_STATUS.WIDTH: 4, 8 or 16 lanes; 0 down. -/
def HST_STATUS_WIDTH : Fld := ⟨0x8000, 4, 5, 0⟩
/-- HST_STATUS.PCIE_ONLY: R356. -/
def HST_STATUS_PCIE_ONLY : Fld := ⟨0x8000, 9, 1, 0⟩
/-- HST_PF0_IRQ.MAN_LOAD: Manifest load complete (R245). -/
def HST_PF0_IRQ_MAN_LOAD : Fld := ⟨0x8004, 0, 1, 0⟩
/-- HST_PF0_IRQ.MAN_COMMIT: Commit complete (R250). -/
def HST_PF0_IRQ_MAN_COMMIT : Fld := ⟨0x8004, 1, 1, 0⟩
/-- HST_PF0_IRQ.CAL_LOAD: Calibration load complete (R189). -/
def HST_PF0_IRQ_CAL_LOAD : Fld := ⟨0x8004, 2, 1, 0⟩
/-- HST_PF0_IRQ.CAL_DUMP: Dump complete (R191). -/
def HST_PF0_IRQ_CAL_DUMP : Fld := ⟨0x8004, 3, 1, 0⟩
/-- HST_PF0_IRQ.CAL_ADC: Self-calibration complete (R192). -/
def HST_PF0_IRQ_CAL_ADC : Fld := ⟨0x8004, 4, 1, 0⟩
/-- HST_PF0_IRQ.SEAL: Proposal applied or discarded (R261, R263). -/
def HST_PF0_IRQ_SEAL : Fld := ⟨0x8004, 5, 1, 0⟩
/-- HST_PF0_IRQ.HOST_ERR: An event of R368 or R369. -/
def HST_PF0_IRQ_HOST_ERR : Fld := ⟨0x8004, 6, 1, 0⟩
/-- HST_PF0_VEC0.MAN_VEC: Vector for bits 0–1. -/
def HST_PF0_VEC0_MAN_VEC : Fld := ⟨0x8008, 0, 11, 0⟩
/-- HST_PF0_VEC0.CAL_VEC: Vector for bits 2–4. -/
def HST_PF0_VEC0_CAL_VEC : Fld := ⟨0x8008, 16, 11, 0⟩
/-- HST_PF0_VEC1.SEAL_VEC: Vector for bit 5. -/
def HST_PF0_VEC1_SEAL_VEC : Fld := ⟨0x800c, 0, 11, 0⟩
/-- HST_PF0_VEC1.ERR_VEC: Vector for bit 6. -/
def HST_PF0_VEC1_ERR_VEC : Fld := ⟨0x800c, 16, 11, 0⟩
/-- HST_ERR_INFO.KIND: 1 UR_WIDTH, 2 UR_OTHER, 3 CA_TIMEOUT, 4 POISON_WRITE, 5 CPL_UR, 6 CPL_CA, 7 CPL_POISON, 8 CPL_TIMEOUT, 9 UNEXPECTED_CPL, 10 MALFORMED, 11 CACHE_PROTOCOL, 12 WINDOW_MISS; others reserved. -/
def HST_ERR_INFO_KIND : Fld := ⟨0x8010, 0, 4, 0⟩
/-- HST_ERR_INFO.FUNC: Function concerned. -/
def HST_ERR_INFO_FUNC : Fld := ⟨0x8010, 4, 6, 0⟩
/-- HST_ERR_INFO.VALID: Capture held; clearing re-arms it. -/
def HST_ERR_INFO_VALID : Fld := ⟨0x8010, 10, 1, 0⟩
/-- HST_ERR_INFO.COUNT: Later events, saturating at 65,535; cleared with VALID. -/
def HST_ERR_INFO_COUNT : Fld := ⟨0x8010, 16, 16, 0⟩
/-- HST_ERR_TIME.63:0: Time of the capture, layout of TKT_MAKE. -/
def HST_ERR_TIME : Fld := ⟨0x8018, 0, 64, 0⟩
/-- HST_ERR_HDR.HDR: TLP header, first DW in HDR0. -/
def HST_ERR_HDR (q : Nat) : Fld := ⟨0x8020 + q * 0x4, 0, 32, 0⟩
/-- HST_CNT_UR.COUNT: Requests answered UR. -/
def HST_CNT_UR : Fld := ⟨0x8030, 0, 32, 0⟩
/-- HST_CNT_CA.COUNT: Requests answered CA. -/
def HST_CNT_CA : Fld := ⟨0x8034, 0, 32, 0⟩
/-- HST_CNT_POISON.COUNT: Poisoned writes and completions. -/
def HST_CNT_POISON : Fld := ⟨0x8038, 0, 32, 0⟩
/-- HST_CNT_READFAIL.COUNT: Device reads failed (R369). -/
def HST_CNT_READFAIL : Fld := ⟨0x803c, 0, 32, 0⟩
/-- HST_MGMT_CTL.EN: Management port enabled. -/
def HST_MGMT_CTL_EN : Fld := ⟨0x8040, 0, 1, 0⟩
/-- HST_MGMT_CTL.LINK: Block lock achieved. -/
def HST_MGMT_CTL_LINK : Fld := ⟨0x8040, 1, 1, 0⟩
/-- HST_MGMT_MAC.MAC: Port MAC address; a unique fused value after reset. -/
def HST_MGMT_MAC : Fld := ⟨0x8048, 0, 48, Config.fusedMac % 2 ^ 48⟩
/-- HST_MGMT_IPV4.ADDR: IPv4 address; 0 disables ARP and UDP. -/
def HST_MGMT_IPV4 : Fld := ⟨0x8050, 0, 32, 0⟩
/-- HST_MGMT_SEAL.MAC: Party B's MAC (R373). -/
def HST_MGMT_SEAL_MAC : Fld := ⟨0x8058, 0, 48, 0⟩
/-- HST_MGMT_SEAL.EN: Accept seal frames. -/
def HST_MGMT_SEAL_EN : Fld := ⟨0x8058, 48, 1, 0⟩
/-- HST_MGMT_CNT_RX.COUNT: Frames accepted. -/
def HST_MGMT_CNT_RX : Fld := ⟨0x8060, 0, 32, 0⟩
/-- HST_MGMT_CNT_DROP.COUNT: Frames discarded (R372, R373). -/
def HST_MGMT_CNT_DROP : Fld := ⟨0x8064, 0, 32, 0⟩
/-- HST_MGMT_CNT_FCS.COUNT: Frames with a bad FCS. -/
def HST_MGMT_CNT_FCS : Fld := ⟨0x8068, 0, 32, 0⟩
/-- HST_WIN_DEV.DEV_BASE: Function address of window n, 4 KiB aligned. -/
def HST_WIN_DEV (n : Nat) : Fld := ⟨0x8100 + n * 0x20, 12, 52, 0⟩
/-- HST_WIN_HPA.HPA_BASE: Host physical address, 4 KiB aligned. -/
def HST_WIN_HPA (n : Nat) : Fld := ⟨0x8108 + n * 0x20, 12, 52, 0⟩
/-- HST_WIN_SIZE.PAGES: Size in 4 KiB pages, 1–2^28 (4 KiB to 1 TiB); 0 and values above 2^28 are reserved. -/
def HST_WIN_SIZE (n : Nat) : Fld := ⟨0x8110 + n * 0x20, 0, 29, 0⟩
/-- HST_WIN_CTL.EN: Window enabled. -/
def HST_WIN_CTL_EN (n : Nat) : Fld := ⟨0x8114 + n * 0x20, 0, 1, 0⟩
/-- HST_WIN_CTL.FUNC: Function 0–63. -/
def HST_WIN_CTL_FUNC (n : Nat) : Fld := ⟨0x8114 + n * 0x20, 8, 6, 0⟩
/-- DMA_ENG_STATUS.MODE: DMA_MODE in force: 0 native, 1 compatibility. -/
def DMA_ENG_STATUS_MODE : Fld := ⟨0x80000, 0, 1, 0⟩
/-- DMA_ENG_STATUS.BUSY: Channels BUSY, 0–64. -/
def DMA_ENG_STATUS_BUSY : Fld := ⟨0x80000, 1, 7, 0⟩
/-- DMA_ENG_STATUS.READS: Reads outstanding, 0–256. -/
def DMA_ENG_STATUS_READS : Fld := ⟨0x80000, 16, 9, 0⟩
/-- DMA_DONE.DONE: Bit c: channel c has completed. -/
def DMA_DONE : Fld := ⟨0x80008, 0, 64, 0⟩
/-- DMA_SRC.ADDR: Source address. -/
def DMA_SRC (c : Nat) : Fld := ⟨0x80100 + c * 0x40, 0, 64, 0⟩
/-- DMA_DST.ADDR: Destination address. -/
def DMA_DST (c : Nat) : Fld := ⟨0x80108 + c * 0x40, 0, 64, 0⟩
/-- DMA_CNT.BYTES: Length in bytes. -/
def DMA_CNT (c : Nat) : Fld := ⟨0x80110 + c * 0x40, 0, 32, 0⟩
/-- DMA_CTL.START: Start (R388). -/
def DMA_CTL_START (c : Nat) : Fld := ⟨0x80114 + c * 0x40, 0, 1, 0⟩
/-- DMA_CTL.DIS: Channel disabled (R392). -/
def DMA_CTL_DIS (c : Nat) : Fld := ⟨0x80114 + c * 0x40, 1, 1, 1⟩
/-- DMA_CTL.SRC_SPACE: 0 host, 1 hold, 2 on-chip; 3 reserved. -/
def DMA_CTL_SRC_SPACE (c : Nat) : Fld := ⟨0x80114 + c * 0x40, 2, 2, 0⟩
/-- DMA_CTL.DST_SPACE: 0 host, 1 hold; 2 and 3 reserved. -/
def DMA_CTL_DST_SPACE (c : Nat) : Fld := ⟨0x80114 + c * 0x40, 4, 2, 0⟩
/-- DMA_CTL.SRC_COH: Coherent host reads (R387). -/
def DMA_CTL_SRC_COH (c : Nat) : Fld := ⟨0x80114 + c * 0x40, 6, 1, 0⟩
/-- DMA_CTL.IRQ_EN: Send VEC at completion. -/
def DMA_CTL_IRQ_EN (c : Nat) : Fld := ⟨0x80114 + c * 0x40, 7, 1, 0⟩
/-- DMA_CTL.VEC: PF0 MSI-X vector, 0–2,047. -/
def DMA_CTL_VEC (c : Nat) : Fld := ⟨0x80114 + c * 0x40, 16, 11, 0⟩
/-- DMA_STATUS.STATE: 0 DISABLED, 1 DRAINING, 2 IDLE, 3 BUSY; others reserved. -/
def DMA_STATUS_STATE (c : Nat) : Fld := ⟨0x80118 + c * 0x40, 0, 3, 0⟩
/-- DMA_STATUS.DONE: A transfer has completed. -/
def DMA_STATUS_DONE (c : Nat) : Fld := ⟨0x80118 + c * 0x40, 3, 1, 0⟩
/-- DMA_STATUS.ERR: R394; any write of 1 to bits 7:4 clears the field. -/
def DMA_STATUS_ERR (c : Nat) : Fld := ⟨0x80118 + c * 0x40, 4, 4, 0⟩
/-- DMA_STATUS.SH_LOST: Shadow set dropped (R389). -/
def DMA_STATUS_SH_LOST (c : Nat) : Fld := ⟨0x80118 + c * 0x40, 8, 1, 0⟩
/-- DMA_STATUS.SEQ: Completions, modulo 256. -/
def DMA_STATUS_SEQ (c : Nat) : Fld := ⟨0x80118 + c * 0x40, 16, 8, 0⟩
/-- DMA_REMAIN.BYTES: Destination bytes not yet written. -/
def DMA_REMAIN (c : Nat) : Fld := ⟨0x8011c + c * 0x40, 0, 32, 0⟩
/-- DMA_SH_SRC.ADDR: Shadow source. -/
def DMA_SH_SRC (c : Nat) : Fld := ⟨0x80120 + c * 0x40, 0, 64, 0⟩
/-- DMA_SH_DST.ADDR: Shadow destination. -/
def DMA_SH_DST (c : Nat) : Fld := ⟨0x80128 + c * 0x40, 0, 64, 0⟩
/-- DMA_SH_CNT.BYTES: Shadow length. -/
def DMA_SH_CNT (c : Nat) : Fld := ⟨0x80130 + c * 0x40, 0, 32, 0⟩
/-- DMA_SH_CTL.ARM: Shadow armed (R389). -/
def DMA_SH_CTL_ARM (c : Nat) : Fld := ⟨0x80134 + c * 0x40, 0, 1, 0⟩
/-- DMA_SH_CTL.SRC_SPACE: SRC_SPACE -/
def DMA_SH_CTL_SRC_SPACE (c : Nat) : Fld := ⟨0x80134 + c * 0x40, 2, 2, 0⟩
/-- DMA_SH_CTL.DST_SPACE: DST_SPACE -/
def DMA_SH_CTL_DST_SPACE (c : Nat) : Fld := ⟨0x80134 + c * 0x40, 4, 2, 0⟩
/-- DMA_SH_CTL.SRC_COH: SRC_COH -/
def DMA_SH_CTL_SRC_COH (c : Nat) : Fld := ⟨0x80134 + c * 0x40, 6, 1, 0⟩
/-- DMA_SH_CTL.IRQ_EN: IRQ_EN -/
def DMA_SH_CTL_IRQ_EN (c : Nat) : Fld := ⟨0x80134 + c * 0x40, 7, 1, 0⟩
/-- DMA_SH_CTL.VEC: As DMA_CTL.VEC. -/
def DMA_SH_CTL_VEC (c : Nat) : Fld := ⟨0x80134 + c * 0x40, 16, 11, 0⟩
/-- HLD_CTL.EN: Hold in service (R386). -/
def HLD_CTL_EN : Fld := ⟨0x88000, 0, 1, 1⟩
/-- HLD_CTL.WEAR_FLUSH: Flush pending wear counts (R380). -/
def HLD_CTL_WEAR_FLUSH : Fld := ⟨0x88000, 1, 1, 0⟩
/-- HLD_STATUS.STATE: 0 ABSENT, 1 TRAINING, 2 UP, 3 LOST. -/
def HLD_STATUS_STATE : Fld := ⟨0x88004, 0, 2, 0⟩
/-- HLD_STATUS.FLUSH_BUSY: Flush in progress. -/
def HLD_STATUS_FLUSH_BUSY : Fld := ⟨0x88004, 2, 1, 0⟩
/-- HLD_STATUS.CONTENT_LOST: Hold returned after a loss (R385). -/
def HLD_STATUS_CONTENT_LOST : Fld := ⟨0x88004, 3, 1, 0⟩
/-- HLD_STATUS.RATE: 0 down, 1 32 GT/s, 2 64 GT/s. -/
def HLD_STATUS_RATE : Fld := ⟨0x88004, 4, 2, 0⟩
/-- HLD_STATUS.WIDTH: 4 or 8 lanes; 0 down. -/
def HLD_STATUS_WIDTH : Fld := ⟨0x88004, 6, 4, 0⟩
/-- HLD_STATUS.ERR: 0 NONE, 1 SIZE, 2 TYPE, 3 LAYOUT. -/
def HLD_STATUS_ERR : Fld := ⟨0x88004, 12, 2, 0⟩
/-- HLD_CAPACITY.BYTES: Expander capacity. -/
def HLD_CAPACITY : Fld := ⟨0x88008, 0, 41, 0⟩
/-- HLD_HIST_CFG.MIB: HIST size, 1–1,024 MiB. -/
def HLD_HIST_CFG_MIB : Fld := ⟨0x88010, 0, 11, 64⟩
/-- HLD_HIST_CFG.MS: Record interval, 1–1,000 ms. -/
def HLD_HIST_CFG_MS : Fld := ⟨0x88010, 16, 10, 100⟩
/-- HLD_SPILL_CFG.MIB: Spill window per reach, 0–4,096 MiB. -/
def HLD_SPILL_CFG : Fld := ⟨0x88014, 0, 13, 64⟩
/-- HLD_TABLE_CFG.GIB: Table pool, 1–1,008 GiB. -/
def HLD_TABLE_CFG : Fld := ⟨0x88018, 0, 10, 32⟩
/-- HLD_TABLE_FREE.EXTENTS: Free 1 MiB extents. -/
def HLD_TABLE_FREE : Fld := ⟨0x8801c, 0, 20, 0⟩
/-- HLD_HIST_BASE.ADDR: Region bases in force (R379). -/
def HLD_HIST_BASE : Fld := ⟨0x88020, 0, 41, 0x100000⟩
/-- HLD_SPILL_BASE.ADDR: ADDR -/
def HLD_SPILL_BASE : Fld := ⟨0x88028, 0, 41, 0x4100000⟩
/-- HLD_TABLE_BASE.ADDR: ADDR -/
def HLD_TABLE_BASE : Fld := ⟨0x88030, 0, 41, 0x40000000⟩
/-- HLD_HOST_BASE.ADDR: ADDR -/
def HLD_HOST_BASE : Fld := ⟨0x88038, 0, 41, 0x840000000⟩
/-- HLD_HIST_HEAD.SEQ: Next history record n (R382). -/
def HLD_HIST_HEAD : Fld := ⟨0x88040, 0, 64, 0⟩
/-- HLD_CNT_CORR.COUNT: Corrected media errors. -/
def HLD_CNT_CORR : Fld := ⟨0x88048, 0, 32, 0⟩
/-- HLD_CNT_POISON.COUNT: Poisoned reads (R384). -/
def HLD_CNT_POISON : Fld := ⟨0x8804c, 0, 32, 0⟩
/-- MTX_STATUS.HUNG: Bit m: master m holds a hung access (R406). -/
def MTX_STATUS_HUNG : Fld := ⟨0x90000, 0, 10, 0⟩
/-- MTX_STATUS.CONFIGURED: The MATRIX section of the first manifest load is in force. -/
def MTX_STATUS_CONFIGURED : Fld := ⟨0x90000, 10, 1, 0⟩
/-- MTX_HANG_REL.RELEASE: Bit m: complete master m's hung access with DECODE. -/
def MTX_HANG_REL : Fld := ⟨0x90004, 0, 10, 0⟩
/-- MTX_DECODE_CFG.HANG: DECODE_HANG in force. -/
def MTX_DECODE_CFG : Fld := ⟨0x90008, 0, 10, 0⟩
/-- MTX_SLICE.SLICE: SLICE words w0–w6 in force; bit 20m + t of the 224-bit field. Bits 200–223 are reserved and read 0. -/
def MTX_SLICE (q : Nat) : Fld := ⟨0x90010 + q * 0x4, 0, 32, 0⟩
/-- MTX_ERR_INFO.MASTER: Master of the captured error, 0–9. -/
def MTX_ERR_INFO_MASTER : Fld := ⟨0x90030, 0, 4, 0⟩
/-- MTX_ERR_INFO.TARGET: Target 0–19; 31 for a decode error. -/
def MTX_ERR_INFO_TARGET : Fld := ⟨0x90030, 4, 5, 0⟩
/-- MTX_ERR_INFO.RESP: Response code (R403). -/
def MTX_ERR_INFO_RESP : Fld := ⟨0x90030, 9, 2, 0⟩
/-- MTX_ERR_INFO.WRITE: The access was a write. -/
def MTX_ERR_INFO_WRITE : Fld := ⟨0x90030, 11, 1, 0⟩
/-- MTX_ERR_INFO.VALID: Capture held; clearing re-arms it. -/
def MTX_ERR_INFO_VALID : Fld := ⟨0x90030, 12, 1, 0⟩
/-- MTX_ERR_ADDR.ADDR: Matrix address of the captured error. -/
def MTX_ERR_ADDR : Fld := ⟨0x90038, 0, 48, 0⟩
/-- MTX_ERR_TIME.63:0: Time of the capture, layout of TKT_MAKE. -/
def MTX_ERR_TIME : Fld := ⟨0x90040, 0, 64, 0⟩
/-- MTX_CNT_DECODE.COUNT: Decode errors. -/
def MTX_CNT_DECODE : Fld := ⟨0x90048, 0, 32, 0⟩
/-- MTX_CNT_MRESET.COUNT: Master resets handled under R407. -/
def MTX_CNT_MRESET : Fld := ⟨0x9004c, 0, 32, 0⟩
/-- MTX_CNT_LINKERR.COUNT: Accesses answered LINK. -/
def MTX_CNT_LINKERR : Fld := ⟨0x90050, 0, 32, 0⟩
/-- MTX_CNT_WDROP.COUNT: CXL ingress writes dropped on an error response. -/
def MTX_CNT_WDROP : Fld := ⟨0x90054, 0, 32, 0⟩
/-- MTX_MST_OUT.READS: Reads outstanding for master m. -/
def MTX_MST_OUT_READS (m : Nat) : Fld := ⟨0x90100 + m * 0x4, 0, 7, 0⟩
/-- MTX_MST_OUT.WRITES: Writes outstanding for master m. -/
def MTX_MST_OUT_WRITES (m : Nat) : Fld := ⟨0x90100 + m * 0x4, 8, 7, 0⟩
/-- SVY_OW_CFG.PROBE_THRESH: Probe-bond threshold, 256–32,767 LSB. -/
def SVY_OW_CFG_PROBE_THRESH : Fld := ⟨0xa0000, 0, 15, 8192⟩
/-- SVY_OW_CFG.DRIVE_THRESH: Drive-bond threshold, 256–32,767 LSB. -/
def SVY_OW_CFG_DRIVE_THRESH : Fld := ⟨0xa0000, 16, 15, 8192⟩
/-- SVY_OFF.OFF: Bit c: converter c is off (R428). -/
def SVY_OFF : Fld := ⟨0xa0004, 0, 24, 0⟩
/-- SVY_REQ.CHAN: Channel (R414). -/
def SVY_REQ_CHAN (c : Nat) : Fld := ⟨0xa0100 + c * 0x40, 0, 13, 0⟩
/-- SVY_REQ.AVG: 0–8. -/
def SVY_REQ_AVG (c : Nat) : Fld := ⟨0xa0100 + c * 0x40, 13, 4, 0⟩
/-- SVY_REQ.RAW: Report raw code. -/
def SVY_REQ_RAW (c : Nat) : Fld := ⟨0xa0100 + c * 0x40, 17, 1, 0⟩
/-- SVY_REQ.CUR: Test current (R417). -/
def SVY_REQ_CUR (c : Nat) : Fld := ⟨0xa0100 + c * 0x40, 18, 3, 0⟩
/-- SVY_REQ.TAG: Returned in the result. -/
def SVY_REQ_TAG (c : Nat) : Fld := ⟨0xa0100 + c * 0x40, 24, 8, 0⟩
/-- SVY_STATUS.STATE: 0 IDLE, 1 SOFTWARE, 2 INJECTED, 3 ROUND, 4 SWEEP, 5 SELFCAL, 6 OFF; 7 reserved. -/
def SVY_STATUS_STATE (c : Nat) : Fld := ⟨0xa0104 + c * 0x40, 0, 3, 0⟩
/-- SVY_STATUS.LATCHED: A trigger is latched. -/
def SVY_STATUS_LATCHED (c : Nat) : Fld := ⟨0xa0104 + c * 0x40, 3, 1, 0⟩
/-- SVY_STATUS.REQ_COUNT: Requests queued, 0–16. -/
def SVY_STATUS_REQ_COUNT (c : Nat) : Fld := ⟨0xa0104 + c * 0x40, 4, 5, 0⟩
/-- SVY_STATUS.RES_COUNT: Results queued, 0–256. -/
def SVY_STATUS_RES_COUNT (c : Nat) : Fld := ⟨0xa0104 + c * 0x40, 16, 9, 0⟩
/-- SVY_STATUS.OFF_CAUSE: 0 none, 1 FAULT, 2 ISOLATED. -/
def SVY_STATUS_OFF_CAUSE (c : Nat) : Fld := ⟨0xa0104 + c * 0x40, 25, 3, 0⟩
/-- SVY_RES.63:0: Queue head; popped under R418. -/
def SVY_RES (c : Nat) : Fld := ⟨0xa0108 + c * 0x40, 0, 64, 0⟩
/-- SVY_INJ_CFG.CHAN: Channel. -/
def SVY_INJ_CFG_CHAN (c : Nat) : Fld := ⟨0xa0110 + c * 0x40, 0, 13, 0⟩
/-- SVY_INJ_CFG.AVG: 0–8. -/
def SVY_INJ_CFG_AVG (c : Nat) : Fld := ⟨0xa0110 + c * 0x40, 13, 4, 0⟩
/-- SVY_INJ_CFG.RAW: Report raw code. -/
def SVY_INJ_CFG_RAW (c : Nat) : Fld := ⟨0xa0110 + c * 0x40, 17, 1, 0⟩
/-- SVY_INJ_CFG.TIME_EN: Time trigger enabled. -/
def SVY_INJ_CFG_TIME_EN (c : Nat) : Fld := ⟨0xa0110 + c * 0x40, 18, 1, 0⟩
/-- SVY_INJ_CFG.REC_EN: Recorder trigger enabled. -/
def SVY_INJ_CFG_REC_EN (c : Nat) : Fld := ⟨0xa0110 + c * 0x40, 19, 1, 0⟩
/-- SVY_INJ_CFG.TAG: Returned in the result. -/
def SVY_INJ_CFG_TAG (c : Nat) : Fld := ⟨0xa0110 + c * 0x40, 24, 8, 0⟩
/-- SVY_INJ_TIME.63:0: First trigger instant, layout of TKT_MAKE. -/
def SVY_INJ_TIME (c : Nat) : Fld := ⟨0xa0118 + c * 0x40, 0, 64, 0⟩
/-- SVY_INJ_PERIOD.NS: 0, or 1,000–4,294,967,295 ns. -/
def SVY_INJ_PERIOD (c : Nat) : Fld := ⟨0xa0120 + c * 0x40, 0, 32, 0⟩
/-- SVY_INJ_LAST.63:0: Start of the last injected conversion, layout of TKT_MAKE. -/
def SVY_INJ_LAST (c : Nat) : Fld := ⟨0xa0128 + c * 0x40, 0, 64, 0⟩
/-- SVY_CNT_OVERRUN.COUNT: Triggers dropped. -/
def SVY_CNT_OVERRUN (c : Nat) : Fld := ⟨0xa0130 + c * 0x40, 0, 32, 0⟩
/-- SVY_CNT_RESLOST.COUNT: Results dropped. -/
def SVY_CNT_RESLOST (c : Nat) : Fld := ⟨0xa0134 + c * 0x40, 0, 32, 0⟩
/-- SVY_CNT_REQFULL.COUNT: Requests ignored, queue full. -/
def SVY_CNT_REQFULL (c : Nat) : Fld := ⟨0xa0138 + c * 0x40, 0, 32, 0⟩
/-- SVY_RND_STATUS.RUNNING: Round in progress. -/
def SVY_RND_STATUS_RUNNING (n : Nat) : Fld := ⟨0xa0800 + n * 0x20, 0, 1, 0⟩
/-- SVY_RND_STATUS.RETEST: Retest phase. -/
def SVY_RND_STATUS_RETEST (n : Nat) : Fld := ⟨0xa0800 + n * 0x20, 1, 1, 0⟩
/-- SVY_RND_STATUS.OPEN_BONDS: Bonds reported open, 0–3,712. -/
def SVY_RND_STATUS_OPEN_BONDS (n : Nat) : Fld := ⟨0xa0800 + n * 0x20, 2, 12, 0⟩
/-- SVY_RND_STATUS.CONVS: Bit j: converter j takes part. -/
def SVY_RND_STATUS_CONVS (n : Nat) : Fld := ⟨0xa0800 + n * 0x20, 14, 2, 0⟩
/-- SVY_RND_LAST.CHAN: Channel of the last bond reported open. -/
def SVY_RND_LAST (n : Nat) : Fld := ⟨0xa0804 + n * 0x20, 0, 13, 0⟩
/-- SVY_RND_COUNT.COUNT: Rounds completed since reset. -/
def SVY_RND_COUNT (n : Nat) : Fld := ⟨0xa0808 + n * 0x20, 0, 32, 0⟩
/-- SVY_RND_END.63:0: End of the last round, layout of TKT_MAKE. -/
def SVY_RND_END (n : Nat) : Fld := ⟨0xa0810 + n * 0x20, 0, 64, 0⟩
/-- REC_CTL.ARM: Arm (R435). -/
def REC_CTL_ARM (n : Nat) : Fld := ⟨0xb1000 + n * 0x200, 0, 1, 0⟩
/-- REC_CTL.DISARM: To IDLE from FILLING or ARMED. -/
def REC_CTL_DISARM (n : Nat) : Fld := ⟨0xb1000 + n * 0x200, 1, 1, 0⟩
/-- REC_CTL.FORCE: Fire (R439). -/
def REC_CTL_FORCE (n : Nat) : Fld := ⟨0xb1000 + n * 0x200, 2, 1, 0⟩
/-- REC_CTL.ARM_AT: Arm at REC_ARM_TIME. -/
def REC_CTL_ARM_AT (n : Nat) : Fld := ⟨0xb1000 + n * 0x200, 3, 1, 0⟩
/-- REC_CFG.SAMPLES: Capture REC_SEL samples. -/
def REC_CFG_SAMPLES (n : Nat) : Fld := ⟨0xb1004 + n * 0x200, 0, 1, 0⟩
/-- REC_CFG.SURVEY: Bit j: capture converter j. -/
def REC_CFG_SURVEY (n : Nat) : Fld := ⟨0xb1004 + n * 0x200, 1, 2, 0⟩
/-- REC_CFG.EVENTS: Capture events. -/
def REC_CFG_EVENTS (n : Nat) : Fld := ⟨0xb1004 + n * 0x200, 3, 1, 0⟩
/-- REC_CFG.SPILL: Spill allowed (R441). -/
def REC_CFG_SPILL (n : Nat) : Fld := ⟨0xb1004 + n * 0x200, 4, 1, 0⟩
/-- REC_CFG.GROUP_EN: Member of GROUP. -/
def REC_CFG_GROUP_EN (n : Nat) : Fld := ⟨0xb1004 + n * 0x200, 5, 1, 0⟩
/-- REC_CFG.REMOTE: Send and accept TRIGGER frames. -/
def REC_CFG_REMOTE (n : Nat) : Fld := ⟨0xb1004 + n * 0x200, 6, 1, 0⟩
/-- REC_CFG.GROUP: Group 0–255. -/
def REC_CFG_GROUP (n : Nat) : Fld := ⟨0xb1004 + n * 0x200, 8, 8, 0⟩
/-- REC_CFG.LEAD_US: 0–1,000 µs. -/
def REC_CFG_LEAD_US (n : Nat) : Fld := ⟨0xb1004 + n * 0x200, 16, 10, 0⟩
/-- REC_PRE.WORDS: 0–524,287. -/
def REC_PRE (n : Nat) : Fld := ⟨0xb1008 + n * 0x200, 0, 19, 0⟩
/-- REC_POST.WORDS: 1–4,294,967,295. -/
def REC_POST (n : Nat) : Fld := ⟨0xb100c + n * 0x200, 0, 32, 1⟩
/-- REC_EVT_EN.EN: Bit e: capture event code e. -/
def REC_EVT_EN (n : Nat) : Fld := ⟨0xb1010 + n * 0x200, 1, 7, 0⟩
/-- REC_MARK.ARG: Write a MARK event. -/
def REC_MARK (n : Nat) : Fld := ⟨0xb1014 + n * 0x200, 0, 32, 0⟩
/-- REC_ARM_TIME.63:0: Arm instant, layout of TKT_MAKE. -/
def REC_ARM_TIME (n : Nat) : Fld := ⟨0xb1018 + n * 0x200, 0, 64, 0⟩
/-- REC_TRIG_TIME.63:0: Instant for condition 6. -/
def REC_TRIG_TIME (n : Nat) : Fld := ⟨0xb1020 + n * 0x200, 0, 64, 0⟩
/-- REC_STATUS.STATE: 0 IDLE, 1 FILLING, 2 ARMED, 3 FIRED, 4 DONE. -/
def REC_STATUS_STATE (n : Nat) : Fld := ⟨0xb1028 + n * 0x200, 0, 3, 0⟩
/-- REC_STATUS.SEQ: Sequencer state. -/
def REC_STATUS_SEQ (n : Nat) : Fld := ⟨0xb1028 + n * 0x200, 4, 3, 0⟩
/-- REC_STATUS.CLAMPED: R441. -/
def REC_STATUS_CLAMPED (n : Nat) : Fld := ⟨0xb1028 + n * 0x200, 8, 1, 0⟩
/-- REC_STATUS.ARM_IGNORED: R435. -/
def REC_STATUS_ARM_IGNORED (n : Nat) : Fld := ⟨0xb1028 + n * 0x200, 9, 1, 0⟩
/-- REC_STATUS.LATE: R440. -/
def REC_STATUS_LATE (n : Nat) : Fld := ⟨0xb1028 + n * 0x200, 10, 1, 0⟩
/-- REC_STATUS.SPILL_LOST: R442. -/
def REC_STATUS_SPILL_LOST (n : Nat) : Fld := ⟨0xb1028 + n * 0x200, 11, 1, 0⟩
/-- REC_HDR_TRIG.63:0: Fire instant taken. -/
def REC_HDR_TRIG (n : Nat) : Fld := ⟨0xb1030 + n * 0x200, 0, 64, 0⟩
/-- REC_HDR_INFO.TRIG_ADDR: Word of the TRIGGER word. -/
def REC_HDR_INFO_TRIG_ADDR (n : Nat) : Fld := ⟨0xb1038 + n * 0x200, 0, 19, 0⟩
/-- REC_HDR_INFO.SRC: 0 own sequencer, 1 FORCE, 2 group member in the module, 3 remote. -/
def REC_HDR_INFO_SRC (n : Nat) : Fld := ⟨0xb1038 + n * 0x200, 20, 2, 0⟩
/-- REC_HDR_SRC.MODULE: Module of the fire's origin. -/
def REC_HDR_SRC_MODULE (n : Nat) : Fld := ⟨0xb103c + n * 0x200, 0, 12, 0⟩
/-- REC_HDR_SRC.REACH: Reach of origin; 0 if remote. -/
def REC_HDR_SRC_REACH (n : Nat) : Fld := ⟨0xb103c + n * 0x200, 12, 4, 0⟩
/-- REC_HDR_END.END_ADDR: Last SRAM word of the capture. -/
def REC_HDR_END (n : Nat) : Fld := ⟨0xb1040 + n * 0x200, 0, 19, 0⟩
/-- REC_HDR_SPILL.SPILL_WORDS: Words in the spill window. -/
def REC_HDR_SPILL (n : Nat) : Fld := ⟨0xb1044 + n * 0x200, 0, 32, 0⟩
/-- REC_CNT_DROP.COUNT: Words dropped (R433). -/
def REC_CNT_DROP (n : Nat) : Fld := ⟨0xb1048 + n * 0x200, 0, 32, 0⟩
/-- REC_CNT_EARLY.COUNT: Fires ignored (R436). -/
def REC_CNT_EARLY (n : Nat) : Fld := ⟨0xb104c + n * 0x200, 0, 32, 0⟩
/-- REC_CMP.SRC: 0–31 REC_SEL entry; 32–33 survey converter. -/
def REC_CMP_SRC (n k : Nat) : Fld := ⟨0xb1050 + n * 0x200 + k * 0x4, 0, 6, 0⟩
/-- REC_CMP.OP: 0 at or above, 1 at or below. -/
def REC_CMP_OP (n k : Nat) : Fld := ⟨0xb1050 + n * 0x200 + k * 0x4, 6, 1, 0⟩
/-- REC_CMP.THRESH: Code or VALUE. -/
def REC_CMP_THRESH (n k : Nat) : Fld := ⟨0xb1050 + n * 0x200 + k * 0x4, 16, 16, 0⟩
/-- REC_CNT_LIM.LIMIT: Counter k limit. -/
def REC_CNT_LIM (n k : Nat) : Fld := ⟨0xb1060 + n * 0x200 + k * 0x8, 0, 32, 0⟩
/-- REC_CNT_VAL.VALUE: Counter k. -/
def REC_CNT_VAL (n k : Nat) : Fld := ⟨0xb1064 + n * 0x200 + k * 0x8, 0, 32, 0⟩
/-- REC_TMR_LEN.LEN_NS: Timer t length, 1–4,294,967,295 ns. -/
def REC_TMR_LEN (n t : Nat) : Fld := ⟨0xb1080 + n * 0x200 + t * 0x8, 0, 32, 0⟩
/-- REC_TMR_REM.NS: Remaining; 0 when stopped. -/
def REC_TMR_REM (n t : Nat) : Fld := ⟨0xb1084 + n * 0x200 + t * 0x8, 0, 32, 0⟩
/-- REC_SEL.EN: Entry e (0–31) enabled. -/
def REC_SEL_EN (n e : Nat) : Fld := ⟨0xb1100 + n * 0x200 + e * 0x4, 0, 1, 0⟩
/-- REC_SEL.BLOCK: Block k. -/
def REC_SEL_BLOCK (n e : Nat) : Fld := ⟨0xb1100 + n * 0x200 + e * 0x4, 1, 3, 0⟩
/-- REC_SEL.CHAN: Channel code 0–320 (R238). -/
def REC_SEL_CHAN (n e : Nat) : Fld := ⟨0xb1100 + n * 0x200 + e * 0x4, 8, 9, 0⟩
/-- REC_SEQ.COND: R437. -/
def REC_SEQ_COND (n s b : Nat) : Fld := ⟨0xb1180 + n * 0x200 + s * 0x8 + b * 0x4, 0, 4, 0⟩
/-- REC_SEQ.ARG: R437. -/
def REC_SEQ_ARG (n s b : Nat) : Fld := ⟨0xb1180 + n * 0x200 + s * 0x8 + b * 0x4, 4, 8, 0⟩
/-- REC_SEQ.NEXT: Next state. -/
def REC_SEQ_NEXT (n s b : Nat) : Fld := ⟨0xb1180 + n * 0x200 + s * 0x8 + b * 0x4, 12, 3, 0⟩
/-- REC_SEQ.FIRE: Fire on this branch. -/
def REC_SEQ_FIRE (n s b : Nat) : Fld := ⟨0xb1180 + n * 0x200 + s * 0x8 + b * 0x4, 15, 1, 0⟩
/-- REC_SEQ.INC: Bit k: increment counter k. -/
def REC_SEQ_INC (n s b : Nat) : Fld := ⟨0xb1180 + n * 0x200 + s * 0x8 + b * 0x4, 16, 4, 0⟩
/-- REC_SEQ.CLR: Bit k: clear counter k. -/
def REC_SEQ_CLR (n s b : Nat) : Fld := ⟨0xb1180 + n * 0x200 + s * 0x8 + b * 0x4, 20, 4, 0⟩
/-- REC_SEQ.START: Bit t: start timer t. -/
def REC_SEQ_START (n s b : Nat) : Fld := ⟨0xb1180 + n * 0x200 + s * 0x8 + b * 0x4, 24, 2, 0⟩
/-- RST_STATUS.LEVEL: Last cold or module reset: 0 COLD, 1 MODULE. -/
def RST_STATUS_LEVEL : Fld := ⟨0xe0000, 0, 2, 0⟩
/-- RST_STATUS.SOURCE: 0 POWER, 1 RST_N, 2 REGISTER, 3 L4. -/
def RST_STATUS_SOURCE : Fld := ⟨0xe0000, 2, 2, 0⟩
/-- RST_STATUS.BOOT_DONE: R456 step 4 reached. -/
def RST_STATUS_BOOT_DONE : Fld := ⟨0xe0000, 4, 1, 0⟩
/-- RST_STATUS.LEASE_DONE: Lease step taken since the last cold or module reset (R460). -/
def RST_STATUS_LEASE_DONE : Fld := ⟨0xe0000, 5, 1, 0⟩
/-- RST_STATUS.HELM_BUSY: Helm reset in progress (R461). -/
def RST_STATUS_HELM_BUSY : Fld := ⟨0xe0000, 6, 1, 0⟩
/-- RST_STATUS.RPT_VALID: A report of R463 is held. -/
def RST_STATUS_RPT_VALID : Fld := ⟨0xe0000, 7, 1, 0⟩
/-- RST_STATUS.HELM_SRC: Last Helm reset: 0 none, 1 REGISTER, 2 LINK, 3 PERST_N. -/
def RST_STATUS_HELM_SRC : Fld := ⟨0xe0000, 8, 2, 0⟩
/-- RST_STATUS.ARM_MODULE: RST_MODULE armed (R452). -/
def RST_STATUS_ARM_MODULE : Fld := ⟨0xe0000, 10, 1, 0⟩
/-- RST_STATUS.ARM_HELM: RST_HELM armed. -/
def RST_STATUS_ARM_HELM : Fld := ⟨0xe0000, 11, 1, 0⟩
/-- RST_CFG.MOOR_MS: Moor of R449, 0–200 ms. -/
def RST_CFG_MOOR_MS : Fld := ⟨0xe0004, 0, 8, 200⟩
/-- RST_CTL.LEASE_GO: Take the lease step (R460). -/
def RST_CTL_LEASE_GO : Fld := ⟨0xe0008, 0, 1, 0⟩
/-- RST_MODULE.KEY: Module reset key (R452). -/
def RST_MODULE : Fld := ⟨0xe0010, 0, 32, 0⟩
/-- RST_HELM.KEY: Helm reset key (R452). -/
def RST_HELM : Fld := ⟨0xe0014, 0, 32, 0⟩
/-- RST_CNT_HELM.COUNT: Helm resets completed since the last cold or module reset. -/
def RST_CNT_HELM : Fld := ⟨0xe0018, 0, 32, 0⟩
/-- RST_RPT_TIME.63:0: Report instant, layout of TKT_MAKE. -/
def RST_RPT_TIME : Fld := ⟨0xe0020, 0, 64, 0⟩
/-- RST_RPT_CNT0.LIT: Tickets LIT at the report, 0–16,384. -/
def RST_RPT_CNT0_LIT : Fld := ⟨0xe0028, 0, 15, 0⟩
/-- RST_RPT_CNT0.DEGRADED: Tickets DEGRADED, 0–16,384. -/
def RST_RPT_CNT0_DEGRADED : Fld := ⟨0xe0028, 16, 15, 0⟩
/-- RST_RPT_CNT1.STRANDED: Tickets STRANDED, 0–16,384. -/
def RST_RPT_CNT1_STRANDED : Fld := ⟨0xe002c, 0, 15, 0⟩
/-- RST_RPT_CNT1.DROPPED: Operations ended without completion (R462), 0–16,384. -/
def RST_RPT_CNT1_DROPPED : Fld := ⟨0xe002c, 16, 15, 0⟩
/-- RST_RPT_MAP.IN_PLACE: Bit k: ticket 32w + k was LIT or DEGRADED at the report; w 0–511. -/
def RST_RPT_MAP (w : Nat) : Fld := ⟨0xe0800 + w * 0x4, 0, 32, 0⟩
/-- TST_FL_CTL.GEN_EN: Generator on (R467). -/
def TST_FL_CTL_GEN_EN (l : Nat) : Fld := ⟨0xe1100 + l * 0x20, 0, 1, 0⟩
/-- TST_FL_CTL.CHK_EN: Checker on. -/
def TST_FL_CTL_CHK_EN (l : Nat) : Fld := ⟨0xe1100 + l * 0x20, 1, 1, 0⟩
/-- TST_FL_CTL.PATTERN: 0 PRBS7, 1 PRBS13, 2 PRBS15, 3 PRBS31. -/
def TST_FL_CTL_PATTERN (l : Nat) : Fld := ⟨0xe1100 + l * 0x20, 2, 2, 0⟩
/-- TST_FL_CTL.INV: Invert the pattern. -/
def TST_FL_CTL_INV (l : Nat) : Fld := ⟨0xe1100 + l * 0x20, 4, 1, 0⟩
/-- TST_FL_CTL.CLR: Clear the counters (R468). -/
def TST_FL_CTL_CLR (l : Nat) : Fld := ⟨0xe1100 + l * 0x20, 5, 1, 0⟩
/-- TST_FL_CTL.INJ_RATE: 0 off, or 10–40 (R469). -/
def TST_FL_CTL_INJ_RATE (l : Nat) : Fld := ⟨0xe1100 + l * 0x20, 8, 6, 0⟩
/-- TST_FL_CTL.INJ_COUNT: Errors to insert, 1–255. -/
def TST_FL_CTL_INJ_COUNT (l : Nat) : Fld := ⟨0xe1100 + l * 0x20, 16, 8, 0⟩
/-- TST_FL_STATUS.LOCKED: Checker locked. -/
def TST_FL_STATUS_LOCKED (l : Nat) : Fld := ⟨0xe1104 + l * 0x20, 0, 1, 0⟩
/-- TST_FL_STATUS.LOCK_LOSS: Losses of lock, saturating. -/
def TST_FL_STATUS_LOCK_LOSS (l : Nat) : Fld := ⟨0xe1104 + l * 0x20, 16, 16, 0⟩
/-- TST_FL_BITS.COUNT: Bits checked. -/
def TST_FL_BITS (l : Nat) : Fld := ⟨0xe1108 + l * 0x20, 0, 64, 0⟩
/-- TST_FL_ERRS.COUNT: Bit errors. -/
def TST_FL_ERRS (l : Nat) : Fld := ⟨0xe1110 + l * 0x20, 0, 64, 0⟩
/-- TST_BB_CTL.EN: Test running (R470). -/
def TST_BB_CTL_EN (p : Nat) : Fld := ⟨0xe1400 + p * 0x20, 0, 1, 0⟩
/-- TST_BB_CTL.MODE: 0 LOOPBACK, 1 RETURN (R471). -/
def TST_BB_CTL_MODE (p : Nat) : Fld := ⟨0xe1400 + p * 0x20, 1, 1, 0⟩
/-- TST_BB_CTL.PATTERN: As TST_FL_CTL. -/
def TST_BB_CTL_PATTERN (p : Nat) : Fld := ⟨0xe1400 + p * 0x20, 2, 2, 0⟩
/-- TST_BB_CTL.CLR: Clear the counters. -/
def TST_BB_CTL_CLR (p : Nat) : Fld := ⟨0xe1400 + p * 0x20, 4, 1, 0⟩
/-- TST_BB_CTL.LOCKED: Checker locked. -/
def TST_BB_CTL_LOCKED (p : Nat) : Fld := ⟨0xe1400 + p * 0x20, 5, 1, 0⟩
/-- TST_BB_CTL.INJ_DIR: 0 toward the time island, 1 away (R472). -/
def TST_BB_CTL_INJ_DIR (p : Nat) : Fld := ⟨0xe1400 + p * 0x20, 6, 1, 0⟩
/-- TST_BB_CTL.INJ: Parity corruptions, 1–3. -/
def TST_BB_CTL_INJ (p : Nat) : Fld := ⟨0xe1400 + p * 0x20, 8, 2, 0⟩
/-- TST_BB_BITS.COUNT: Bits checked. -/
def TST_BB_BITS (p : Nat) : Fld := ⟨0xe1408 + p * 0x20, 0, 64, 0⟩
/-- TST_BB_ERRS.COUNT: Bit errors. -/
def TST_BB_ERRS (p : Nat) : Fld := ⟨0xe1410 + p * 0x20, 0, 64, 0⟩
/-- TST_BB_PAR_ERRS.COUNT: Words with a parity error. -/
def TST_BB_PAR_ERRS (p : Nat) : Fld := ⟨0xe1418 + p * 0x20, 0, 32, 0⟩
/-- TST_GW_CTL.REACH: Reach 0–11. -/
def TST_GW_CTL_REACH : Fld := ⟨0xe1800, 0, 4, 0⟩
/-- TST_GW_CTL.BLOCKS: Bit k: test block 8n + k. -/
def TST_GW_CTL_BLOCKS : Fld := ⟨0xe1800, 8, 8, 0⟩
/-- TST_GW_CTL.KIND: 1 probe, 2 drive, 3 both; 0 reserved. -/
def TST_GW_CTL_KIND : Fld := ⟨0xe1800, 16, 2, 0⟩
/-- TST_GW_CTL.GO: Start (R473). -/
def TST_GW_CTL_GO : Fld := ⟨0xe1800, 18, 1, 0⟩
/-- TST_GW_STATUS.BUSY: Test running. -/
def TST_GW_STATUS_BUSY : Fld := ⟨0xe1804, 0, 1, 0⟩
/-- TST_GW_STATUS.ABORTED: Ended under R474. -/
def TST_GW_STATUS_ABORTED : Fld := ⟨0xe1804, 1, 1, 0⟩
/-- TST_GW_STATUS.TESTED: Bonds tested, 0–3,712. -/
def TST_GW_STATUS_TESTED : Fld := ⟨0xe1804, 2, 12, 0⟩
/-- TST_GW_STATUS.FAILED: Bonds failed. -/
def TST_GW_STATUS_FAILED : Fld := ⟨0xe1804, 14, 12, 0⟩
/-- TST_GW_SKIPPED.COUNT: Bonds skipped. -/
def TST_GW_SKIPPED : Fld := ⟨0xe1808, 0, 12, 0⟩
/-- TST_GW_FAIL.DIFF: Code difference at the retest. -/
def TST_GW_FAIL_DIFF (i : Nat) : Fld := ⟨0xe1840 + i * 0x4, 0, 16, 0⟩
/-- TST_GW_FAIL.CHAN: Channel code (R414). -/
def TST_GW_FAIL_CHAN (i : Nat) : Fld := ⟨0xe1840 + i * 0x4, 16, 13, 0⟩
/-- TST_GW_FAIL.VALID: Entry written. -/
def TST_GW_FAIL_VALID (i : Nat) : Fld := ⟨0xe1840 + i * 0x4, 31, 1, 0⟩
/-- TST_HLD_CTL.MODE: 0 normal, 1 compliance, 2 modified compliance, 3 loopback lead (R476). -/
def TST_HLD_CTL_MODE : Fld := ⟨0xe1a00, 0, 2, 0⟩
/-- TST_HLD_CTL.RATE: 0 32 GT/s, 1 64 GT/s. -/
def TST_HLD_CTL_RATE : Fld := ⟨0xe1a00, 2, 1, 0⟩
/-- GBL_IDENT.PRODUCT: PRODUCT -/
def GBL_IDENT_PRODUCT : Fld := ⟨0x0, 16, 16, 0x0512⟩
/-- GBL_IDENT.STEP: STEP -/
def GBL_IDENT_STEP : Fld := ⟨0x0, 8, 8, Config.step % 256⟩
/-- GBL_IDENT.BAND: BAND -/
def GBL_IDENT_BAND : Fld := ⟨0x0, 0, 8, Config.band⟩
/-- GBL_SCRATCH.DATA: No effect on the device. Cleared by cold and module resets, and kept by Helm resets and FLR. -/
def GBL_SCRATCH : Fld := ⟨0x4, 0, 32, 0⟩
/-- FAB_LAMP_MON.GATE: 1 while the lamp-feed gate of R59 is open (R63). -/
def FAB_LAMP_MON_GATE (b : Nat) : Fld := ⟨0x201204 + b * 0x2000, 19, 1, 0⟩

end Sys2Proof.Machine
end

