-- ==== Sys2Proof/Machine/Tab.lean ====
section
/-! DEFINITION. Sparse tables in one canonical form: keys strictly rising, no entry equal to what its key reads as when unlisted. -/

namespace Sys2Proof.Machine

/-- The value listed for key k, if any. -/
def look {α : Type} : List (Nat × α) → Nat → Option α
  | [], _ => none
  | (j, a) :: l, k => if j = k then some a else look l k

/-- The list with key k set to v, keys kept rising. -/
def ins {α : Type} : List (Nat × α) → Nat → α → List (Nat × α)
  | [], k, v => [(k, v)]
  | (j, a) :: l, k, v =>
    if k < j then (k, v) :: (j, a) :: l
    else if k = j then (k, v) :: l
    else (j, a) :: ins l k v

/-- The list without key k. -/
def del {α : Type} (l : List (Nat × α)) (k : Nat) : List (Nat × α) := l.filter (fun c => c.1 != k)

/-- Keys strictly rising, the first above the bound. -/
def rising {α : Type} : Nat → List (Nat × α) → Bool
  | _, [] => true
  | b, (j, _) :: l => decide (b ≤ j) && rising (j + 1) l

/-- A sparse table from keys to plain data; what an unlisted key reads as is given at each access. -/
structure Tab (α : Type) where
  cells : List (Nat × α)
  deriving DecidableEq, Repr

/-- The empty table: every key reads as its default. -/
def Tab.empty {α : Type} : Tab α := ⟨[]⟩

/-- What key k reads as, dflt being what it reads as when unlisted. -/
def Tab.get {α : Type} (t : Tab α) (dflt : α) (k : Nat) : α := (look t.cells k).getD dflt

/-- The table with key k reading as v: writing the default removes the entry. -/
def Tab.put {α : Type} [DecidableEq α] (t : Tab α) (dflt : α) (k : Nat) (v : α) : Tab α :=
  if v = dflt then ⟨del t.cells k⟩ else ⟨ins t.cells k v⟩

/-- The table without the keys that p picks: they read as their defaults again. -/
def Tab.dropWhen {α : Type} (t : Tab α) (p : Nat → Bool) : Tab α := ⟨t.cells.filter (fun c => !p c.1)⟩

/-- The canonical form, with the default of each key. -/
def Tab.wf {α : Type} [DecidableEq α] (t : Tab α) (dflt : Nat → α) : Bool :=
  rising 0 t.cells && t.cells.all (fun c => decide (c.2 ≠ dflt c.1))

end Sys2Proof.Machine
end

