-- ==== Sys2Proof/Machine/Device.lean ====
section
/-! DEFINITION. What the spec gives the block beyond its register fields: the records the state is made of. Plain data throughout. -/

namespace Sys2Proof.Machine

/-! ## The fabric (chapters 01 and 02) -/

/-- One cell (R18, R55, R75, R97). Its defaults: parkCell. -/
structure Cell where
  /-- FAB_CELL_STATE.STATE: true CROSS. -/
  cross    : Bool
  /-- FAB_CELL_STATE.BERTH: true berth B selected. -/
  selB     : Bool
  parked   : Bool
  /-- Lost until its block next returns to service: driver failed, or CELL_LOST (R97, R294). -/
  failed   : Bool
  /-- Lost by LONG_OPEN until its loop recloses or its block returns (R97). -/
  longOpen : Bool
  /-- FAB_CELL_STATE.DRV_SAT (R54). -/
  drvSat   : Bool
  /-- The signed codes of berth A and berth B (R52). -/
  codeA    : Int
  codeB    : Int
  /-- The 48-bit wear counter in the hold, and the 16-bit pending counter (R75). -/
  wear     : Nat
  pend     : Nat
  /-- Poison failures of its hold counter (R384). -/
  poison   : Nat
  deriving DecidableEq, Repr

/-- One block beyond its registers: why it is moored, what its reload still owes, how it leaves service. -/
structure Blk where
  /-- Reasons that hold the berths moored: bit 0 capstan failed or adopted (R38), 1 BLK_MOOR, 2 RCH_MOOR (R294),
  3 out of service with tickets on it (R242), 4 moor before a reset (R449). -/
  moorBy   : Nat
  /-- Switched cells whose idle berth is not reloaded yet (R115), and the instant they switched at. -/
  reload   : List Nat
  reloadAt : Nat
  /-- The instant of a park decision whose selectors have not switched yet (R66). -/
  parking  : Option Nat
  /-- Out of service, waiting to park (R242). -/
  outPend  : Bool
  deriving DecidableEq, Repr

/-- One reach beyond its registers. -/
structure Rch where
  /-- Its backbone link has failed (R35), or it is disabled with it. -/
  isolated  : Bool
  clockLost : Bool
  /-- HEAT_MIN holds (R294). -/
  heatMin   : Bool
  deriving DecidableEq, Repr

/-- One port beyond its registers. -/
structure Prt where
  /-- Module time since which an input has read above +20.5 dBm (R62). -/
  overSince : Option Nat
  /-- PORT_DRAIN bars makes (R294). -/
  barred    : Bool
  /-- Held DARK under R101 for this ticket. -/
  lossDark  : Option Nat
  /-- Held DARK for a held-back part (R116): the crossing. -/
  heldDark  : Option Nat
  /-- The VOA's commanded code and its read-back code (R305). -/
  cmdCode   : Nat
  rbCode    : Nat
  deriving DecidableEq, Repr

/-- One backbone link, or one port of the matrix as a hop of it (R31-R34, R410): words not acknowledged, oldest first; those of
them that the sender is replaying and that have not arrived yet; replays of the oldest; words the receiver has accepted. -/
structure Link where
  retry    : List Nat
  again    : List Nat
  replays  : Nat
  failed   : Bool
  /-- The receiver discards every word up to the replay (R33). -/
  discard  : Bool
  accepted : Nat
  /-- Parity corruptions still to be made on this link (R472). -/
  corrupt  : Nat
  deriving DecidableEq, Repr

/-- What the lamp gives (R27, R66, R188): nothing, its minimum power, or -3 dBm per feed at a wavelength. -/
inductive Shine where
  | dark
  | minimum
  | full
  deriving DecidableEq, Repr

/-- The lamp (R27, R59): its owner, the reaches waiting in order of arrival, LAMP_OFF (R294), what it gives, and the lamp-tuning
word (R188) of the wavelength its owner has set. -/
structure Lamp where
  owner : Option Nat
  queue : List Nat
  off   : Bool
  shine : Shine
  wave  : Nat
  deriving DecidableEq, Repr

/-! ## Tickets (chapter 03) -/

/-- One record of the ticket store (R81). The last four fields: the instant of its last move (R88), the state it held
before CLOSING (R90), and the instant its time counters were last settled at. -/
structure Ticket where
  src : Nat
  dst : Nat
  srcLamp : Bool
  dstDrain : Bool
  tenant : Nat
  cls : Nat
  prio : Nat
  state : Nat
  committed : Bool
  restoring : Bool
  tableOwned : Bool
  table : Nat
  cause : Nat
  strand : Nat
  version : Nat
  epoch : Nat
  mid : Nat
  ing : Nat
  midc : Nat
  egr : Nat
  valid : Bool
  make : Nat
  brk : Nat
  inPwr : Nat
  outPwr : Nat
  pathLoss : Nat
  voaAtt : Nat
  stale : Bool
  floor : Bool
  hits : Nat
  degrEvents : Nat
  litNs : Nat
  degrNs : Nat
  lastMove : Option Nat
  was : Nat
  settled : Nat
  deriving DecidableEq, Repr

/-- A route (TKT_ROUTE, R81): middle block index and the three block choices. -/
structure Route where
  mid : Nat
  ing : Nat
  midc : Nat
  egr : Nat
  deriving DecidableEq, Repr

/-! ## Operations and crossings (chapters 04 and 09) -/

/-- An operation from its fetch to its FINAL completion (R117, R223). -/
structure Op where
  tag      : Nat
  ring     : Nat
  fn       : Nat
  entry    : Entry
  admitted : Bool
  selected : Bool
  /-- Its makes' tickets, in item order, and the tickets it breaks. -/
  makes    : List Nat
  breaks   : List Nat
  /-- The provisional cost charged at admission, owed a settlement (R231). -/
  prov     : Nat
  owed     : Bool
  /-- The crossing it became. -/
  xing     : Option Nat
  /-- Its result words have been written (R218). -/
  noted    : Bool
  deriving DecidableEq, Repr

/-- What a crossing is (R226): an operation's, a safety break of Q0, a restore crossing, a lamp placement, a table's
step, the release at the end of a run whose stop mode is BREAK, a part of a system crossing. remake: the make of a ROUTED ticket that
re-enters the pipeline (R98); release: the circuits of a HELD table that was stopped (R129). (Log entry 19 DESIGN CHOICE.) -/
inductive XKind where
  | op (tag : Nat)
  | safety (reason : Nat)
  | restore
  | remake
  | lamp (reach : Nat)
  | step (table step : Nat)
  | sys (id : Nat)
  | stopBreak (table : Nat)
  | release
  deriving DecidableEq, Repr

/-- The stages of R107 that a crossing can be found at. -/
inductive Stage where
  | solve | compute | distribute | committed | flipped
  deriving DecidableEq, Repr

/-- One block's part of a crossing (R23, R108, R116): the cells it switches with their new states and berth values. -/
structure Part where
  blk   : Nat
  cells : List (Nat × Bool × Int)
  ready : Bool
  held  : Bool
  done  : Bool
  deriving DecidableEq, Repr

/-- One crossing (R103, R107). Times in ns of module time; 0 instant: none yet. -/
structure Xing where
  id       : Nat
  kind     : XKind
  stage    : Stage
  asap     : Bool
  stamp    : Nat
  instant  : Nat
  /-- Tickets it makes, and those of them not solved yet. -/
  makes    : List Nat
  unsolved : List Nat
  /-- Tickets it breaks (R90: CLOSING), and SURVEY tickets it breaks to make room (R96). -/
  breaks   : List Nat
  room     : List Nat
  /-- Tickets it moves, with their new routes (R88). -/
  moves    : List (Nat × Route)
  /-- Restored tickets, with their new routes (R98). -/
  restores : List (Nat × Route)
  parts    : List Part
  /-- Makes withdrawn after the commit (R101, R113); circuits of a step withdrawn, source and sink, with a ticket yet or not. -/
  withdrawn : List Nat
  gone     : List (Nat × Nat)
  /-- PF0 asked for it (R219). -/
  byPf0    : Bool
  /-- Cell state changes counted at stage 4 (R231). -/
  flips    : Nat
  deriving DecidableEq, Repr

/-- A unit of scheduler work (R226). -/
inductive Work where
  | op (tag : Nat)
  | xing (id : Nat)
  | proposal (id : Nat)
  | recompile (table : Nat)
  deriving DecidableEq, Repr

/-- One completion entry (R220), PHASE and place apart. -/
structure Cqe where
  tag     : Nat
  kind    : Nat
  status  : Nat
  bulk    : Bool
  user    : Nat
  instant : Nat
  ticket  : Nat
  table   : Nat
  info    : Nat
  /-- Of a CANCEL, which no quota counts (R223). -/
  cancel  : Bool
  deriving DecidableEq, Repr

/-- One event entry (R221), PHASE and place apart. -/
structure Eqe where
  code   : Nat
  state  : Nat
  reason : Nat
  tenant : Nat
  ticket : Nat
  table  : Nat
  time   : Nat
  arg    : Nat
  deriving DecidableEq, Repr

/-- The device's side of a function's CQ and EQ (R220-R222, R363). -/
structure Ring where
  cqIdx  : Nat
  cqInv  : Bool
  eqIdx  : Nat
  eqInv  : Bool
  /-- Completions held on chip, oldest first. -/
  held   : List Cqe
  /-- Events that wait for an active wheelhouse, oldest first (R279). -/
  heldEv : List Eqe
  /-- Events dropped since the last EVENTS_LOST entry. -/
  lost   : Nat
  /-- Instants of the last MSI-X message for the CQ and for the EQ, and whether one is owed. -/
  cqMsg  : Option Nat
  eqMsg  : Option Nat
  cqOwed : Bool
  eqOwed : Bool
  /-- After an FLR, until the rings are enabled again: completions and events are discarded (R234). -/
  muted  : Bool
  deriving DecidableEq, Repr

/-! ## Ferry ports (chapter 15) -/

/-- A frame in a class queue of a port (R337): sent before under its LSEQ (a replay), and the windows it has waited
through. -/
structure QFrame where
  frame  : Frame
  again  : Bool
  waited : Nat
  deriving DecidableEq, Repr

/-- A time exchange at the taking port (R346), times in 2^-16 ns of module time: what its SYNC gave, T2, T3 once
DELAY_REQ has gone, and the tick of the SYNC. -/
structure Taker where
  exch   : Nat
  t1     : Nat
  t2     : Nat
  t3     : Option Nat
  master : Nat
  steps  : Nat
  state  : Nat
  tick   : Nat
  deriving DecidableEq, Repr

/-- One ferry port beyond its registers (R332, R337, R339-R346). -/
structure FryPort where
  /-- Next LSEQ to send, next LSEQ expected. -/
  tx       : Nat
  rx       : Nat
  /-- Sequenced frames held, oldest first, and the tick ACK last advanced (or the first was held). -/
  retry    : List Frame
  ackTick  : Nat
  /-- The LSEQ replays start from and how many have in a row. -/
  rptSeq   : Nat
  rptCnt   : Nat
  tc0      : List QFrame
  tc1      : List QFrame
  tc2      : List QFrame
  tc3      : List QFrame
  /-- A HELLO has been received since training began; codewords in a row without an uncorrectable error. -/
  hello    : Bool
  clean    : Nat
  helloAt  : Option Nat
  /-- ROLE of the partner, from HELLO. -/
  peerRole : Nat
  /-- Violations of this second. -/
  viol     : Nat
  /-- The stream is discarded up to the next frame start (R328). -/
  discard  : Bool
  /-- The cause it last went DOWN for, the tick it did, and whether UNIT_OFF holds it. -/
  cause    : Nat
  downAt   : Nat
  off      : Bool
  /-- As server: the number of the last exchange, its start, and whether it runs. -/
  exch     : Nat
  exchAt   : Option Nat
  serving  : Bool
  taker    : Option Taker
  deriving DecidableEq, Repr

/-! ## Tide tables and system crossings (chapter 04) -/

/-- One circuit of a compiled step: its ports and its route. -/
structure Circ where
  src   : Nat
  dst   : Nat
  route : Route
  deriving DecidableEq, Repr

/-- One step of a table: its dwell and its circuits; compiled, also the cells that change state on entering it from the step before,
with their new states and berth codes (R120, R381). -/
structure TStep where
  dwell : Nat
  circs : List Circ
  codes : List (Nat × Bool × Int)
  deriving DecidableEq, Repr

/-- A stored tide table (R118-R130): its source as stored, its compiled steps, the extents of the table pool it takes (R381). STATE,
ERR, STEPS and SLOT are in TID_TBL_STATUS. -/
structure Table where
  owner  : Nat
  cls    : Nat
  prio   : Nat
  inSet  : List Nat
  outSet : List Nat
  steps  : List TStep
  /-- The load in progress: its operation. -/
  loadOp : Option Nat
  src    : List Byte
  extents : List Nat
  deriving DecidableEq, Repr

/-- A run slot (R123-R129) beyond its registers. -/
structure Run where
  active   : Bool
  table    : Nat
  /-- Instant of the first step (step first of cycle 0, R124), 0 until the start is final. -/
  start    : Nat
  first    : Nat
  cycles   : Nat
  keep     : Bool
  /-- Next step to commit and its cycle. -/
  nextStep : Nat
  nextCyc  : Nat
  /-- The cycle and step that the run ends before (R128), once a stop has been asked for; the operations that wait for it. -/
  stopAt   : Option (Nat × Nat)
  stopOps  : List Nat
  startOp  : Option Nat
  /-- The instant the dwell of an executed last step ends at, its cycle not counted yet (R124). -/
  cycEnd   : Option Nat
  /-- The codes of the first-cycle transition from the pattern in place (R381). -/
  firstCodes : List (Nat × Bool × Int)
  /-- Ticket IDs reserved for the run, and those in use for the step in place. -/
  ids      : List Nat
  epoch    : Nat
  held     : Bool
  /-- HELD by suspension: never resumed (R129); by hold loss: not resumed (R127). -/
  noResume : Bool
  /-- Compiled steps beyond the 8,192nd streamed into the cache (R122). -/
  streamed : Nat
  deriving DecidableEq, Repr

/-- A system crossing as this module holds it (R131-R135). -/
structure Sys where
  id       : Nat
  /-- This module proposed it. -/
  coord    : Bool
  instant  : Nat
  members  : List Nat
  proposed : Bool
  /-- Votes received: module, ready, reason. -/
  votes    : List (Nat × Bool × Nat)
  voted    : Bool
  /-- The vote was READY. -/
  ready    : Bool
  /-- The reason and module of an ABORT held. -/
  why      : Nat × Nat
  /-- GO held at the decision check (R133). -/
  go       : Bool
  /-- The decision held: some true GO, some false ABORT. -/
  decision : Option Bool
  /-- This module's part: its operation and its crossing. -/
  part     : Option Nat
  xing     : Option Nat
  propOp   : Option Nat
  done     : Bool
  deriving DecidableEq, Repr

/-! ## Faults (chapter 13) -/

/-- One fault class's occurrence (R287): its level (0: closed), the location it opened at, all its locations, and the
tick its timer expires at. -/
structure Occ where
  level    : Nat
  unit     : Nat
  index    : Nat
  locs     : List (Nat × Nat)
  deadline : Option Nat
  deriving DecidableEq, Repr

/-- One logbook entry (R304). -/
structure LogEntry where
  cls   : Nat
  kind  : Nat
  level : Nat
  sub   : Nat
  unit  : Nat
  index : Nat
  time  : Nat
  seq   : Nat
  snap  : List Nat
  deriving DecidableEq, Repr

/-! ## Capstans and calibration (chapters 06 and 07) -/

/-- The running test of one probe (R168): lowest and highest raw code of the run, its length, and the last raw code. -/
structure ProbeTest where
  lo   : Int
  hi   : Int
  run  : Nat
  last : Int
  deriving DecidableEq, Repr

/-- One cell loop (R157-R170, R180). MODE: 0 UNLIT, 1 ACQUIRE, 2 LOCKED, 3 SHADOWED, 4 OPEN, 5 HELD, 6 PARKED. -/
structure Loop where
  mode      : Nat
  freeze    : Bool
  loss      : Bool
  probeOpen : Bool
  ovr       : Bool
  good      : Nat
  trimB     : Int
  trimC     : Int
  kp        : Nat
  ki        : Nat
  integB    : Int
  integC    : Int
  rPrev     : Int
  rValid    : Bool
  /-- The dither sign: true +1; and the dither input in LSB (R158). -/
  dplus     : Bool
  dither    : Int
  /-- Updates in a row with a change of at most 4 codes (R159), and dark updates in a row (R168). -/
  lockRun   : Nat
  darkRun   : Nat
  up        : ProbeTest
  lp        : ProbeTest
  /-- Raw codes of the last updates, newest first: upper, lower (R305). -/
  raws      : List (Int × Int)
  /-- Instant of the last switch (R163), and whether it switched within its claim's 50 us. -/
  switched  : Option Nat
  /-- In the privileged set (R163). -/
  priv      : Bool
  /-- Instant its loop opened (R92, R97). -/
  openAt    : Nat
  /-- Change of the trim in the last update, for companion tracking (R162). -/
  delta     : Int
  /-- Instant of its last update (R155, R156). -/
  lastAt    : Option Nat
  deriving DecidableEq, Repr

/-- One port group (R171-R176). Attenuations in 0.01 dB, the integrator in 2^-16 of that. -/
structure Group where
  integ   : Int
  applied : Int
  probe   : ProbeTest
  good    : Nat
  /-- The ramp: the instant it starts at, until S has been taken (R175); S in units of 1/25 of 0.01 dB, which moves by
  RAMP an update. -/
  rampAt  : Option Nat
  s       : Int
  /-- Instant of its last update (R155, R156). -/
  lastAt  : Option Nat
  deriving DecidableEq, Repr

/-- One converter's corrections (R184): OFS, GAIN, and whether it is marked failed (R192). -/
structure Adc where
  ofs    : Int
  gain   : Nat
  failed : Bool
  deriving DecidableEq, Repr

/-- One probe's corrections (R185). -/
structure ProbeCor where
  ofs  : Int
  resp : Nat
  zero : Int
  deriving DecidableEq, Repr

/-- One feed-forward entry (R186, R201). -/
structure FF where
  ff0B : Int
  ff0C : Int
  tcB  : Int
  tcC  : Int
  htr  : Nat
  measured : Bool
  rejected : Bool
  deriving DecidableEq, Repr

/-- A reach's calibration run (R193-R199): a further run is held; the cells the run is for, where it is for some
alone; the T_REF of each block at its start, what each cell was then (0 unlit and free, 1 unlit and fixed, 2 LOCKED in
BAR, 3 LOCKED in CROSS, 4 any other); its new entries, its counts; the cells whose lamp circuit was broken (R96); the cells
that a lamp circuit of the run has lit (R195); the switch instant. -/
structure ReachRun where
  again    : Bool
  only     : Option (List Nat)
  tref     : List (Nat × Int)
  kinds    : List (Nat × Nat)
  entries  : List (Nat × FF)
  measured : Nat
  carried  : Nat
  rejected : Nat
  lost     : List Nat
  reached  : List Nat
  switchAt : Nat
  deriving DecidableEq, Repr

/-- A dump in progress (R191): its instant, where it goes, and the sets as their banks held them when it was asked for. -/
structure CalDump where
  at_    : Nat
  addr   : Nat
  probes : Tab ProbeCor
  ff     : Tab FF
  tref   : Tab Int
  trig   : Tab Int
  deriving DecidableEq, Repr

/-- The loop defaults of a block, as a FACTORY file gives them (R183, R188): CAP_KP_CELL, CAP_KI_CELL, CAP_TRIM_WIN, CAP_KP_EQ, CAP_KI_EQ. -/
structure LoopDef where
  kpCell : Nat
  kiCell : Nat
  win    : Nat
  kpEq   : Nat
  kiEq   : Nat
  deriving DecidableEq, Repr

/-! ## Wheelhouses (chapter 12) -/

/-- A commit point closed and not released (R269): CPN, its words for the output stages (stage, value), the
tick it closed at, or its mismatch was found at, and whether a known-answer test holds it. -/
structure CommitPoint where
  cpn    : Nat
  words  : List (Nat × Nat)
  closed : Nat
  tested : Bool
  deriving DecidableEq, Repr

/-- One output stage (R272): CLAIM_SEEN, LAST_CPN and REVOKED, and whether the present stale episode is logged. -/
structure OutStage where
  claim   : Nat
  cpn     : Nat
  revoked : Bool
  logged  : Bool
  /-- Words buffered of a commit point whose END beat has not come (R408). -/
  buf     : Nat
  deriving DecidableEq, Repr

/-- One wheelhouse beyond its registers: its confirmed claim, the last input word consumed, the instants of its last
heartbeat on the backbone and on the wire, and that it is commanded back (R281). -/
structure Whl where
  claim    : Nat
  consumed : Nat
  bbAt     : Option Nat
  wireAt   : Option Nat
  back     : Bool
  /-- Its BOOT is complete. -/
  booted   : Bool
  /-- Tick of its last health report. -/
  healthAt : Option Nat
  deriving DecidableEq, Repr

/-! ## Interlocks (chapter 14) -/

/-- One interlock slot beyond its registers: outputs in its dark set beside its map's until it closes (those that have
carried a circuit of its inputs, or have left the map), inputs that have left the map, and the tick since which the
accepted levels differ. -/
structure Slot where
  extra  : List Nat
  keptIn : List Nat
  diffAt : Option Nat
  rawA   : Option (Bool × Nat)
  rawB   : Option (Bool × Nat)
  deriving DecidableEq, Repr

/-- One remote source of a slot (R322): it counts as open; copies without their second yet (SEQ, network A, message, tick);
the last SEQ accepted on each network, and the tick of its last valid copy. -/
structure Src where
  opened : Bool
  waits  : List (Nat × Bool × List Nat × Nat)
  seqA   : Option Nat
  seqB   : Option Nat
  atA    : Option Nat
  atB    : Option Nat
  deriving DecidableEq, Repr

/-- One forwarding entry (R321): the SEQ of its last message, the tick of that message, and the tick of the first
message on each network without an ACK since. -/
structure Fwd where
  seq    : Nat
  sentAt : Option Nat
  waitA  : Option Nat
  waitB  : Option Nat
  deriving DecidableEq, Repr

/-! ## The internal matrix (chapter 18) -/

/-- An access that waits at a target port, or hangs (R399, R406): who made it, its address, the value of a write, whether it is
64 bits wide, the tick it came, whether it has joined tier A, and, hung, that the host's request has been answered. -/
structure MtxReq where
  req    : Requester
  addr   : Nat
  wr     : Option Nat
  wide   : Bool
  since  : Nat
  aged   : Bool
  told   : Bool
  deriving DecidableEq, Repr

/-! ## MSI-X (R363, R502) -/

/-- An entry of an MSI-X table, in PCIe's format: message address and data, its mask bit; and its pending bit. (Log entry 97 PRESUMED.) -/
structure MsixEnt where
  addr : Nat
  data : Nat
  mask : Bool
  pend : Bool
  deriving DecidableEq, Repr

/-- An entry after reset: masked. -/
def msix0 : MsixEnt := { addr := 0, data := 0, mask := true, pend := false }

/-! ## Survey converters (chapter 19) -/

/-- A conversion asked for, by SVY_REQ or by an injection setup (R417, R419). -/
structure SvyReq where
  chan : Nat
  avg  : Nat
  raw  : Bool
  cur  : Nat
  tag  : Nat
  /-- It belongs to the gangway continuity test (R473). -/
  test : Bool
  deriving DecidableEq, Repr

/-- The part of the gangway continuity test that a converter does (R473): bonds it has still to feed into its request queue,
bonds fed and not done, conversions that wait for a place there, the first code of the bond under test, the suspects of the
pass. -/
structure Gangway where
  todo    : List Nat
  prog    : List Nat
  owed    : List SvyReq
  first   : Option Int
  suspect : List Nat
  deriving DecidableEq, Repr

/-- A pattern checker of the link test (R468): its register, the bits it has seeded itself from, the bits in a row that have agreed, the
disagreements among the last 256 bits, the latest lowest. -/
structure Chk where
  reg  : Nat
  seen : Nat
  run  : Nat
  win  : Nat
  deriving DecidableEq, Repr

/-- One survey converter (R413-R428): a fault holds it off; the tick up to which a reference sweep or its
self-calibration takes it, and whether it is the latter; the instant of the last trigger; the requests that wait; the conversion running, whether it
is injected, and the tick its first sample is taken at; the latched trigger; the result queue; whether a result was dropped since the last
one stored; the next time trigger, in ns. Its part of the open-wire round: bonds still to test, suspects to retest,
whether it retests, and the steps due so far. ref: its references failed once in this round. cor: the correction in force when the
conversion started (R416). -/
structure Conv where
  fault   : Bool
  hold    : Nat
  cal     : Bool
  trigAt  : Option Nat
  reqs    : List SvyReq
  job     : Option (SvyReq × Bool × Nat)
  latched : Option SvyReq
  results : List Nat
  lost    : Bool
  next    : Option Nat
  todo    : List Nat
  suspect : List Nat
  retest  : Bool
  steps   : Nat
  ref     : Bool
  cor     : Adc
  deriving DecidableEq, Repr

/-! ## Recorders (chapter 20) -/

/-- A fire learnt of (R440): its instant, its source as in REC_HDR_INFO, its module and its reach. -/
structure Fire where
  at_    : Nat
  src    : Nat
  module : Nat
  reach  : Nat
  deriving DecidableEq, Repr

/-- One recorder beyond its registers (R430-R444): its SRAM, the address of the next word, words since the arm, the
instant of the last TIME word, words in the input queue and the tick that count was taken at, words dropped since the
last GAP; the registers in force since the arm; the post-trigger count in effect, whether spill is, the post-trigger
words written and the spill window; the earliest fire learnt; whether its sequencer has fired, the tick it last
branched at, the words captured at the last tick with words, the ticks its timers end at, the timers that expired last
and when; whether condition 6 waits for a new REC_TRIG_TIME, whether this capture has sent its FIRE frame, the
instant of a remote arm, and whether its reach has lost its clock since the last reset (R444). -/
structure Rec where
  mem     : Tab Nat
  wp      : Nat
  since   : Nat
  timeAt  : Option Nat
  q       : Nat
  qAt     : Nat
  gap     : Nat
  cfg     : Tab Nat
  post    : Nat
  spillOn : Bool
  done    : Nat
  spill   : Tab Nat
  fire    : Option Fire
  fired   : Bool
  seqAt   : Option Nat
  words   : List Nat
  wordsAt : Nat
  tmr0    : Option Nat
  tmr1    : Option Nat
  exp     : List (Nat × Nat)
  trigOff : Bool
  sent    : Bool
  armAt   : Option Nat
  stopped : Bool
  deriving DecidableEq, Repr

end Sys2Proof.Machine
end

