-- ==== Sys2Proof/Machine/Dev.lean ====
section
/-! DEFINITION. Everything the block holds except its queue of waiting commands, grouped by the chapter that gives it. -/

namespace Sys2Proof.Machine

/-- Something the device puts out (R217-R221, R363, R368 and the chapters of its ports). Oldest first in Dev.out. -/
inductive Out where
  /-- A register access of requester key r at offset off answered with a value (R8). -/
  | answer (r off value : Nat)
  /-- A host or matrix access answered with a response code (R403): 1 to 6. -/
  | refuse (r off resp : Nat)
  /-- A result word of an item list (R218). -/
  | result (f addr word : Nat)
  /-- An MSI-X message of a function on a vector, to its address with its data (R363). -/
  | msix (f vec addr data : Nat)
  /-- The device reads host memory over CXL.io: function, address, bytes (R364, R366). -/
  | hostRead (f addr bytes : Nat)
  /-- The device reads host memory over CXL.cache: host physical address, bytes (R364). -/
  | cacheRead (hpa bytes : Nat)
  /-- The device writes host memory: function, address, the words written. -/
  | hostWrite (f addr : Nat) (words : List Nat)
  /-- The device writes host memory: function, address, the bytes written (R387). -/
  | hostBytes (f addr : Nat) (bytes : List Nat)
  /-- A frame sent on ferry port k: WIN and ACK of the codeword it starts in, and its words with header and CRC (R327, R333-R335). -/
  | ferry (k : Nat) (win : Bool) (ack : Nat) (words : List Nat)
  /-- A frame sent on the management port: EtherType, destination MAC, payload words (R372). -/
  | mgmt (ethertype dst : Nat) (payload : List Nat)
  /-- A backbone word or handshake sent on link l: 0 word, 1 NAK (R32, R33), 2 FATAL (R276). -/
  | link (l what word : Nat)
  /-- Bit errors inserted in the next symbols of a ferry lane under test (R469). -/
  | laneErr (l n : Nat)
  /-- A pin driven to a level: 0 BELL, 1 FAULT_N asserted, 2 PPS_OUT, 3 SAFE_OK (both pins). -/
  | pin (p : Nat) (level : Bool)
  /-- A byte returned by the I2C sideband (R374). -/
  | i2c (b : Nat)
  /-- A completion of a PCIe request: 0 UR, 1 CA, 2 CRS, 3 success with a value, 4 RspIHitI (R357, R368, R457). -/
  | pcie (what value : Nat)
  deriving DecidableEq, Repr

/-- The latches of R8, one pair per requester (R499): register offset and the word held. -/
structure AccessSt where
  rlatch : Tab (Option (Nat × Nat))
  wlatch : Tab (Option (Nat × Nat))
  deriving DecidableEq, Repr

/-- The fabric and the backbone (chapters 01, 02). -/
structure FabSt where
  cells   : Tab Cell
  blks    : Tab Blk
  rchs    : Tab Rch
  inPrt   : Tab Prt
  outPrt  : Tab Prt
  links   : Tab Link
  lamp    : Lamp
  /-- Instant of the last reading of a port, drain or lamp-feed probe, by probe entry (R61). -/
  readAt  : Tab (Option Nat)
  deriving DecidableEq, Repr

/-- The ticket store and restoration (chapter 03). -/
structure TktSt where
  store   : Tab Ticket
  /-- The epoch counter (R84). -/
  epoch   : Nat
  /-- The restoration list, in order, and the tickets gathered in the open restore crossing with their routes. -/
  list    : List Nat
  gather  : List (Nat × Route)
  gMoves  : List (Nat × Route)
  gBreaks : List Nat
  gRoom   : List Nat
  deriving DecidableEq, Repr

/-- Operations, crossings and the scheduler (chapters 04, 09). -/
structure CmdSt where
  ops     : Tab (Option Op)
  xings   : Tab (Option Xing)
  nextX   : Nat
  /-- Heads waiting to be admitted, and work admitted and not selected: keys 0-3 Q0-Q3, 4 + f place f (R226). -/
  heads   : Tab (List Work)
  ready   : Tab (List Work)
  /-- The work the solver is on. -/
  solving : Option Work
  rings   : Tab Ring
  /-- Entries requested and not returned yet, per group (R366). -/
  fetching : Tab Nat
  /-- The place the weighted round robin stands at (R228). -/
  turn    : Nat
  /-- One operation without a solve has been taken from the weighted group since the last restoration solve (R229). -/
  between : Bool
  /-- The whole microsecond each place's credit and wait count were last settled at (R230). -/
  tollAt  : Tab Nat
  /-- Places whose toll was written since the last decision (R232). -/
  tollChg : List Nat
  deriving DecidableEq, Repr

/-- Tide tables and system crossings (chapter 04). -/
structure TideSt where
  tables  : Tab (Option Table)
  runs    : Tab (Option Run)
  sys     : Tab (Option Sys)
  deriving DecidableEq, Repr

/-- A commit of the manifest in progress (R250): the shadow copy taken, with the ceilings staged by port, the instant, and
whether an approved proposal started it. -/
structure Commit where
  copy    : Tab Nat
  ceils   : List (Nat × Nat)
  instant : Nat
  device  : Bool
  deriving DecidableEq, Repr

/-- The manifest (chapter 10), by manKey: the shadow copy of its STAGED fields, and the values in force. -/
structure ManSt where
  shadow  : Tab Nat
  active  : Tab Nat
  /-- FROZEN values accepted while their unit was out of service, each plus 1, in force at its return (R13, R241). -/
  waiting : Tab Nat
  commit  : Option Commit
  /-- MAN_LEN as the load in progress found it, and that its read cannot go through. -/
  len     : Nat
  miss    : Bool
  deriving DecidableEq, Repr

/-- The staged proposal (R259, R260): KIND, SEQ, D, the sections of its manifest, its wrapped key, and the tick its
window ends at. -/
structure Proposal where
  kind   : Nat
  seq    : Nat
  digest : List Nat
  secs   : List (Nat × List Nat)
  wrap   : Nat
  expiry : Nat
  deriving DecidableEq, Repr

/-- The two-party seal beyond its registers (chapter 11): key words written since reset, bit q for word q; the length of
a proposal being read, and whether the read can go through; the proposal staged; a new key that waits for the commit instant. -/
structure SealSt where
  wroteA  : Nat
  wroteB  : Nat
  reading : Option (Nat × Bool)
  prop    : Option Proposal
  newKey  : Option Nat
  deriving DecidableEq, Repr

/-- The fault collector and the logbook (chapter 13). -/
structure FltSt where
  occs    : Tab Occ
  log     : Tab (Option LogEntry)
  /-- The next sequence number (R302). -/
  seq     : Nat
  /-- L4 decided and its reset not started, and the instant of the decision (R299). -/
  l4At    : Option Nat
  safeAt  : Option Nat
  bell    : Bool
  /-- The two halves of the fault collector agree (R300). -/
  agree   : Bool
  deriving DecidableEq, Repr

/-- The servo and the time island (chapter 05). -/
structure TimSt where
  /-- The integrator and the adjustment in force, in 2^-16 ppb (R144). -/
  integ   : Int
  adj     : Int
  /-- Runs of accepted samples within, and beyond, TIM_LOCK_THRESH (R145). -/
  within  : Nat
  beyond  : Nat
  /-- Ticks of the last accepted sample, and of the last sample of any kind (R144, R146). -/
  lastOk  : Nat
  lastAny : Nat
  /-- Offset samples yielded and not processed yet, in 2^-16 ns (R143). -/
  samples : List Int
  /-- The source identity in use (R146): grandmaster, source port; ferry master module. -/
  gm      : Nat
  gmPort  : Nat
  master  : Nat
  known   : Bool
  /-- The thermal term of the increment in 2^-32 ns, from the last report (R144, R210). -/
  thermal : Int
  /-- Snapshots of module time per requester, in whole ns (R142, R361). -/
  snaps   : Tab Nat
  /-- Replica offsets per island in units of 2^-32 ns (R152). -/
  replica : Tab Int
  ppsOut  : Bool
  /-- The L2 action SUSPEND holds (R294). -/
  hold    : Bool
  deriving DecidableEq, Repr

/-- Capstans (chapter 06). -/
structure CapSt where
  loops   : Tab Loop
  groups  : Tab Group
  /-- Bonds that the open-wire round reports open, by probe entry (R168, R425). -/
  open_   : Tab Bool
  /-- The sign of the test ripple in a probe's next sample, by probe entry: false +8 LSB (R168). -/
  ripple  : Tab Bool
  /-- No update before this instant: the cycles realign there after a step of module time (R151). -/
  gridAt  : Nat
  deriving DecidableEq, Repr

/-- Calibration (chapter 07). -/
structure CalSt where
  adc     : Tab Adc
  factory : Tab Adc
  probes  : Tab ProbeCor
  ff      : Tab FF
  tref    : Tab Int
  trig    : Tab Int
  voa     : Tab (List Int)
  lamp    : List Nat
  runs    : Tab ReachRun
  /-- The read of the file being loaded cannot go through. -/
  miss    : Bool
  /-- The loop defaults of each block (R183). -/
  loops   : Tab LoopDef
  /-- Entries written by the host while their block was out of service, in force at its return (R13, R200): table, index, value. -/
  waiting : List (Nat × Nat × Nat)
  dump    : Option CalDump
  deriving DecidableEq, Repr

/-- Temperature sensing (chapter 08): sensors broken, the round running, rails' rounds out of range. -/
structure ThmSt where
  /-- Tick the running round started at, and tick the next starts at. -/
  round   : Option Nat
  next    : Nat
  /-- Rounds in a row each rail has been reported out of range, saturating at 2 (R213). -/
  rails   : Tab Nat
  /-- THM_SUPPLY of the previous round, for snapshots (R305). -/
  prev    : Tab Nat
  deriving DecidableEq, Repr

/-- Wheelhouses (chapter 12): 0 WH-A, 1 WH-B. -/
structure WhlSt where
  wh      : Tab Whl
  stages  : Tab OutStage
  /-- Words that wait in the command inlet (R267): general ones, and those in the places reserved. -/
  inlet   : Nat
  inletR  : Nat
  /-- No wheelhouse can act (R282), until a Helm reset. -/
  none_   : Bool
  /-- Crossing frames that wait for an active wheelhouse: TYPE, module, payload (R279, R348). -/
  outbox  : List (Nat × Nat × List Nat)
  /-- Crossing frames received that wait in the inlet: port and frame. -/
  frames  : List (Nat × Frame)
  point   : Option CommitPoint
  /-- The last released points, newest first, at most 16 (R278). -/
  recent  : List CommitPoint
  /-- The number of the last commit point closed. -/
  lastCpn : Nat
  /-- A SWAP waits for the last MATCH (R285). -/
  swap    : Bool
  /-- Tick the lease was last renewed at (R275). -/
  leaseAt : Option Nat
  /-- The lease step waits for the first completed BOOT (R460), and the tick it was taken at (R284). -/
  want    : Bool
  stepAt  : Option Nat
  deriving DecidableEq, Repr

/-- Ferry lanes (chapter 15). -/
structure FrySt where
  ports   : Tab FryPort
  /-- STEPS of the master in use, for a relay (R345). -/
  steps   : Nat
  /-- Tick the last TELEMETRY frame was sent at. -/
  telAt   : Option Nat
  /-- The link test's checkers: lanes 0-15, pair p at 16 + p (R468). -/
  checks  : Tab Chk
  deriving DecidableEq, Repr

/-- Interlocks (chapter 14): slots, sources (slot × 4 + j), forwarding entries; outputs whose dark line is asserted,
those not confirmed at zero drive yet with the tick of their hold, and those not confirmed in time; the watchdog has
expired; SAFE_OK's read-back has failed; the tick the test period started at, and the outputs that have been idle in it. -/
structure IlkSt where
  slots  : Tab Slot
  srcs   : Tab Src
  fwds   : Tab Fwd
  lines  : Tab Bool
  unconf : List (Nat × Nat)
  late   : List Nat
  wd     : Bool
  rb     : Bool
  testAt : Option Nat
  idle   : Tab Bool
  deriving DecidableEq, Repr

/-- The hold (chapter 17): UNIT_OFF holds its port; it has been lost and is not UP again; tables that ran on from the step cache when it was lost; the tick of the last history record; the cells whose counts a flush has yet to add (R380); the DMA channel served last, and the reads each has in flight from its start (R393). -/
structure HldSt where
  off     : Bool
  lost    : Bool
  cached  : List Nat
  histAt  : Option Nat
  flush   : List Nat
  turn    : Nat
  reads   : Tab Nat
  deriving DecidableEq, Repr

/-- Survey converters (chapter 19), the tick each reach's open-wire round started at, and the gangway continuity test: each
converter's part, and the reach under test with whether it is at its retests (R473). -/
structure SvySt where
  convs  : Tab Conv
  rounds : Tab (Option Nat)
  gw     : Tab Gangway
  gwOn   : Option (Nat × Bool)
  deriving DecidableEq, Repr

/-- Recorders (chapter 20). -/
structure RecSt where
  recs : Tab Rec
  deriving DecidableEq, Repr

/-- The host interface beyond its registers (chapter 16): functions in D3hot, VF Enable and NumVFs, the I2C pointer, and
the I2C holding buffer: the pointer of a register's first byte, and its word; VF_TKT_PAGE of each function; Enter Compliance is
set (R475). -/
structure HstSt where
  d3     : List Nat
  vfEn   : Bool
  numVfs : Nat
  ptr    : Nat
  buf    : Option (Nat × Nat)
  pages  : Tab Nat
  compl  : Bool
  /-- The MSI-X tables and pending bits, entry v of function f at 2,048 f + v; per function its enable (1) and function mask (2) (R502). -/
  msix   : Tab MsixEnt
  msixCtl : Tab Nat
  deriving DecidableEq, Repr

/-- The internal matrix beyond its registers (chapter 18): accesses waiting at the target ports, oldest first; accesses held by
DECODE_HANG, oldest first; the master each target port served last; the master each port is parked on, 10 for a port that arbitrates (R401);
the wheelhouse the last claim was raised for; the matrix cycles of the access each port granted last (R402). -/
structure MtxSt where
  waits : List MtxReq
  hung  : List MtxReq
  last  : Tab Nat
  park  : Tab Nat
  home  : Nat
  cycles : Tab Nat
  deriving DecidableEq, Repr

/-- Resets (chapter 21): the cold reset held; a module reset under way, phase 1 moored, 2 parked, 3 its islands reset
and its release awaited, and its SOURCE; ticks of its acceptance and of its park decision, MOOR_MS as read; RST_N low; ticks
at which RST_MODULE and RST_HELM were armed; PERST_N asserted; operations that a Helm reset has dropped, and the tickets they
were to make (R462); rails out of their range (R213's numbers, R479). -/
structure RstSt where
  cold    : Bool
  phase   : Nat
  src     : Nat
  moorAt  : Nat
  moorMs  : Nat
  parkAt  : Nat
  rstn    : Bool
  armM    : Option Nat
  armH    : Option Nat
  perst   : Bool
  dropped : Nat
  lost    : List Nat
  rails   : List Nat
  deriving DecidableEq, Repr

/-- Everything the block holds except its queue of waiting commands and the bytes of the hold. -/
structure Dev where
  /-- The register file by field (Fld.key): an unlisted field reads as its value after reset. -/
  regs  : Tab Nat
  /-- Module time in units of 2^-32 ns (R139), and time-island ticks since its reset (R289, R300). -/
  mt    : Nat
  tick  : Nat
  /-- What has been put out, oldest first (the model's own field). -/
  out   : List Out
  /-- The counter that free values are applied to (the model's own field). -/
  fresh : Nat
  acc   : AccessSt
  fab   : FabSt
  tk    : TktSt
  cmd   : CmdSt
  tide  : TideSt
  man   : ManSt
  tps   : SealSt
  flt   : FltSt
  tim   : TimSt
  cap   : CapSt
  cal   : CalSt
  thm   : ThmSt
  whl   : WhlSt
  fry   : FrySt
  hld   : HldSt
  svy   : SvySt
  rcd   : RecSt
  ilk   : IlkSt
  hst   : HstSt
  mtx   : MtxSt
  rst   : RstSt
  deriving DecidableEq, Repr

end Sys2Proof.Machine
end

