-- ==== Sys2Proof/Machine/Ops.lean ====
section
/-! DEFINITION. The named operations every meaning is built from: bit fields, signed values, register fields, module time, tables of records. -/

namespace Sys2Proof.Machine

/-! ## Bits and signed values -/

/-- Bits lo + w - 1 down to lo of v. -/
def bits (v lo w : Nat) : Nat := v / 2 ^ lo % 2 ^ w

/-- v with its bits lo + w - 1 down to lo set to x. -/
def putBits (v lo w x : Nat) : Nat := v - bits v lo w * 2 ^ lo + x % 2 ^ w * 2 ^ lo

/-- Bit i of v. -/
def bit (v i : Nat) : Bool := v / 2 ^ i % 2 = 1

/-- v with bit i set to b. -/
def putBit (v i : Nat) (b : Bool) : Nat := putBits v i 1 (if b then 1 else 0)

/-- The numbers below n whose bit is 1 in v. -/
def bitList (v n : Nat) : List Nat := (List.range n).filter (bit v)

/-- The signed value of a w-bit two's-complement code. -/
def sgn (w v : Nat) : Int := if v % 2 ^ w < 2 ^ (w - 1) then (v % 2 ^ w : Nat) else (v % 2 ^ w : Nat) - (2 ^ w : Nat)

/-- The w-bit two's-complement code of a signed value. -/
def uns (w : Nat) (i : Int) : Nat := (i % (2 ^ w : Nat)).toNat

/-- i held within lo to hi. -/
def clampI (lo hi i : Int) : Int := if i < lo then lo else if hi < i then hi else i

/-- 1 for true, 0 for false. -/
def b2n (b : Bool) : Nat := if b then 1 else 0

/-- The least whole multiple of k at or after n. -/
def ceilMul (n k : Nat) : Nat := (n + k - 1) / k * k

/-! ## Register fields -/

/-- What a field reads as (R10: the current value). -/
def Dev.get (d : Dev) (f : Fld) : Nat := d.regs.get f.rst f.key

/-- The field set to v, truncated to its width. -/
def Dev.set (d : Dev) (f : Fld) (v : Nat) : Dev := { d with regs := d.regs.put f.rst f.key (v % 2 ^ f.w) }

/-- A one-bit field as a truth value. -/
def Dev.on (d : Dev) (f : Fld) : Bool := d.get f != 0

/-- A one-bit field set. -/
def Dev.setB (d : Dev) (f : Fld) (b : Bool) : Dev := d.set f (b2n b)

/-- A counter one further, wrapping at its width. (Log entry 14 DESIGN CHOICE.) -/
def Dev.inc (d : Dev) (f : Fld) : Dev := d.set f (d.get f + 1)

/-- A counter n further, stopping at its top. (Log entry 14 DESIGN CHOICE.) -/
def Dev.addSat (d : Dev) (f : Fld) (n : Nat) : Dev := d.set f (min (d.get f + n) (2 ^ f.w - 1))

/-- Several fields set, in order. -/
def Dev.sets (d : Dev) : List (Fld × Nat) → Dev
  | [] => d
  | (f, v) :: l => (d.set f v).sets l

/-- The fields whose registers lie from offset lo up to hi back at their values after reset. -/
def Dev.clearRange (d : Dev) (lo hi : Nat) : Dev :=
  { d with regs := d.regs.dropWhen (fun k => decide (lo * 64 ≤ k ∧ k < hi * 64)) }

/-! ## Putting out, free values -/

/-- One more thing put out. (Log entry 8 DESIGN CHOICE.) -/
def Dev.emit (d : Dev) (o : Out) : Dev := { d with out := d.out ++ [o] }

/-- The counter of free values read and advanced: the next value the spec leaves open is the Config constant applied
to it. (Log entry 4 DESIGN CHOICE.) -/
def Dev.useFresh (d : Dev) : Dev := { d with fresh := d.fresh + 1 }

/-! ## Module time (R7, R139) -/

/-- One nanosecond in the units of module time. -/
def nsUnit : Nat := 4294967296

/-- Module time in whole nanoseconds. -/
def Dev.now (d : Dev) : Ns := d.mt / nsUnit

/-- The layout of TKT_MAKE (R81): nanoseconds in bits 29:0, seconds (low 34 bits) in bits 63:30. (Log entry 13 DEDUCED.) -/
def stampOf (n : Ns) : Nat := n % 1000000000 + n / 1000000000 % 17179869184 * 1073741824

/-- The nanoseconds and the 34 bits of seconds of a value in the layout of TKT_MAKE. (Log entry 13 DEDUCED.) -/
def unstamp (v : Nat) : Ns := v % 1073741824 + v / 1073741824 % 17179869184 * 1000000000

/-- The instant that such a value stands for at module time now (R141): of those whose seconds end in its 34 bits, the nearest. (Log entry 13 DEDUCED.) -/
def nearInst (now v : Nat) : Ns :=
  unstamp v + (now + 8589934592000000000 - unstamp v) / 17179869184000000000 * 17179869184000000000
def Dev.inst (d : Dev) (v : Nat) : Ns := nearInst d.now v

/-- n ticks of the time island: each adds the increment in force (R139, R140). (Log entries 2 DESIGN CHOICE, 12 DESIGN CHOICE.) -/
def Dev.ticks (d : Dev) (n : Nat) : Dev := { d with mt := d.mt + n * d.get TIM_INCR, tick := d.tick + n }

/-- The clock carried on to the first tick at or after an instant, if it lies ahead: a row that happens at an instant
finds the module time there. (Log entry 12 DESIGN CHOICE.) -/
def Dev.atLeast (d : Dev) (t : Ns) : Dev :=
  if d.mt < t * nsUnit then d.ticks ((t * nsUnit - d.mt + d.get TIM_INCR - 1) / d.get TIM_INCR) else d

/-- How far the slowest of the named replicas of module time lags behind the time island, in 2^-32 ns; negative where all run
ahead. Replicas 0-11 are the reaches', 12 and 13 WH-A's and WH-B's, 14 the host's, 15 the hold's, 16 the ferry island's (R30, R40). -/
def Dev.lag (d : Dev) : List Nat → Int
  | [] => 0
  | [k] => -(d.tim.replica.get 0 k)
  | k :: l => max (-(d.tim.replica.get 0 k)) (d.lag l)

/-- The clock carried on until an instant has come by the replica of every island named, which act on it (R23, R30). (Log entry 12 DESIGN CHOICE.) -/
def Dev.atLeastIn (d : Dev) (ks : List Nat) (t : Ns) : Dev :=
  let m := ((t * nsUnit : Nat) + d.lag ks).toNat
  if d.mt < m then d.ticks ((m - d.mt + d.get TIM_INCR - 1) / d.get TIM_INCR) else d

/-- Module time in whole nanoseconds by the replica of reach n (R30). -/
def Dev.nowIn (d : Dev) (n : Nat) : Ns := ((d.mt : Int) + d.tim.replica.get 0 n).toNat / nsUnit

/-- The clock carried on to a tick of the time island, if it lies ahead. (Log entry 12 DESIGN CHOICE.) -/
def Dev.atTick (d : Dev) (t : Nat) : Dev := if d.tick < t then d.ticks (t - d.tick) else d

/-- Module time in units of 2^-16 ns. -/
def Dev.fine (d : Dev) : Nat := d.mt / 65536

/-- A requester's number: function f, or 64 + matrix master m (R499). (Log entry 10 DEDUCED.) -/
def reqKey : Requester → Nat
  | .fn f => f.val
  | .master m => 64 + m.val

/-- The first whole microsecond at or after an instant. -/
def wholeUs (t : Ns) : Ns := ceilMul t 1000

/-! ## Places in the module (R21, R24, R44, R45, R55, R61) -/

/-- Cell index of block b, stage s, row r (R304). -/
def cellIx (b s r : Nat) : Nat := b * 144 + s * 16 + r

/-- The block of a cell, its stage and its row. -/
def cellBlk (i : Nat) : Nat := i / 144
def cellStage (i : Nat) : Nat := i % 144 / 16
def cellRow (i : Nat) : Nat := i % 16

/-- The reach of a block (R21), and the reaches of several. -/
def blkReach (b : Nat) : Nat := b / 8
def blkReaches (l : List Nat) : List Nat := (l.map blkReach).eraseDups

/-- Whether a block is an ingress, a middle or an egress block. -/
def isIngress (b : Nat) : Bool := decide (b < 32)
def isMiddle (b : Nat) : Bool := decide (32 ≤ b ∧ b < 64)
def isEgress (b : Nat) : Bool := decide (64 ≤ b ∧ b < 96)

/-- The park state of a cell (R65): CROSS in stage 7 of an egress block, BAR elsewhere. -/
def parkState (i : Nat) : Bool := isEgress (cellBlk i) && cellStage i == 7

/-- A cell after reset (R55, R67): held in its park state, berth A selected, both codes 0. -/
def cell0 (i : Nat) : Cell :=
  { cross := parkState i, selB := false, parked := true, failed := false, longOpen := false, drvSat := false,
    codeA := 0, codeB := 0, wear := 0, pend := 0, poison := 0 }

/-- The other records after reset. -/
def blk0 : Blk := { moorBy := 0, reload := [], reloadAt := 0, parking := none, outPend := false }
def rch0 : Rch := { isolated := false, clockLost := false, heatMin := false }
def prt0 : Prt :=
  { overSince := none, barred := false, lossDark := none, heldDark := none, cmdCode := 0xFFFF, rbCode := 0xFFFF }
def link0 : Link := { retry := [], again := [], replays := 0, failed := false, discard := false, accepted := 0, corrupt := 0 }
def ring0 : Ring :=
  { cqIdx := 0, cqInv := false, eqIdx := 0, eqInv := false, held := [], heldEv := [], lost := 0, cqMsg := none, eqMsg := none,
    cqOwed := false, eqOwed := false, muted := false }
def occ0 : Occ := { level := 0, unit := 0, index := 0, locs := [], deadline := none }

/-- A FREE ticket record: every field 0 (R81). -/
def tkt0 : Ticket :=
  { src := 0, dst := 0, srcLamp := false, dstDrain := false, tenant := 0, cls := 0, prio := 0, state := 0,
    committed := false, restoring := false, tableOwned := false, table := 0, cause := 0, strand := 0, version := 0,
    epoch := 0, mid := 0, ing := 0, midc := 0, egr := 0, valid := false, make := 0, brk := 0, inPwr := 0, outPwr := 0,
    pathLoss := 0, voaAtt := 0, stale := false, floor := false, hits := 0, degrEvents := 0, litNs := 0, degrNs := 0,
    lastMove := none, was := 0, settled := 0 }

/-- A probe test, a loop and a port group after reset (R157, R180, R182). -/
def probe0 : ProbeTest := { lo := 0, hi := 0, run := 0, last := 0 }
def loop0 : Loop :=
  { mode := 6, freeze := false, loss := false, probeOpen := false, ovr := false, good := 0, trimB := 0, trimC := 0,
    kp := 0, ki := 0, integB := 0, integC := 0, rPrev := 0, rValid := false, dplus := true, dither := 0, lockRun := 0,
    darkRun := 0, up := probe0, lp := probe0, raws := [], switched := none, priv := false, openAt := 0, delta := 0, lastAt := none }
def group0 : Group := { integ := 0, applied := 0, probe := probe0, good := 0, rampAt := none, s := 0, lastAt := none }
def adc0 : Adc := { ofs := 0, gain := 0, failed := false }
def probeCor0 : ProbeCor := { ofs := 0, resp := 0, zero := 0 }
def loopDef0 : LoopDef := { kpCell := 0, kiCell := 0, win := 0, kpEq := 0, kiEq := 0 }
def ff0 : FF := { ff0B := 0, ff0C := 0, tcB := 0, tcC := 0, htr := 0, measured := false, rejected := false }
def reachRun0 : ReachRun :=
  { again := false, only := none, tref := [], kinds := [], entries := [], measured := 0, carried := 0, rejected := 0, lost := [],
    reached := [], switchAt := 0 }
def outStage0 : OutStage := { claim := 0, cpn := 0, revoked := true, logged := false, buf := 0 }
def whl0 : Whl := { claim := 0, consumed := 0, bbAt := none, wireAt := none, back := false, booted := false, healthAt := none }

def fryPort0 : FryPort :=
  { tx := 0, rx := 0, retry := [], ackTick := 0, rptSeq := 0, rptCnt := 0, tc0 := [], tc1 := [], tc2 := [], tc3 := [],
    hello := false, clean := 0, helloAt := none, peerRole := 0, viol := 0, discard := false, cause := 0, downAt := 0,
    off := false, exch := 0, exchAt := none, serving := false, taker := none }

def conv0 : Conv :=
  { fault := false, hold := 0, cal := false, trigAt := none, reqs := [], job := none, latched := none, results := [], lost := false, next := none, todo := [],
    suspect := [], retest := false, steps := 0, ref := false, cor := adc0 }
def gangway0 : Gangway := { todo := [], prog := [], owed := [], first := none, suspect := [] }
def rec0 : Rec :=
  { mem := Tab.empty, wp := 0, since := 0, timeAt := none, q := 0, qAt := 0, gap := 0, cfg := Tab.empty, post := 0,
    spillOn := false, done := 0, spill := Tab.empty, fire := none, fired := false, seqAt := none, words := [], wordsAt := 0, tmr0 := none, tmr1 := none, exp := [],
    trigOff := false, sent := false, armAt := none, stopped := false }

def slot0 : Slot := { extra := [], keptIn := [], diffAt := none, rawA := none, rawB := none }
def src0 : Src := { opened := true, waits := [], seqA := none, seqB := none, atA := none, atB := none }
def fwd0 : Fwd := { seq := 0, sentAt := none, waitA := none, waitB := none }

/-! ## Records by index -/

def Dev.ilkSlot (d : Dev) (i : Nat) : Slot := d.ilk.slots.get slot0 i
def Dev.setIlkSlot (d : Dev) (i : Nat) (x : Slot) : Dev :=
  { d with ilk := { d.ilk with slots := d.ilk.slots.put slot0 i x } }
def Dev.src (d : Dev) (k : Nat) : Src := d.ilk.srcs.get src0 k
def Dev.setSrc (d : Dev) (k : Nat) (x : Src) : Dev := { d with ilk := { d.ilk with srcs := d.ilk.srcs.put src0 k x } }
def Dev.fwd (d : Dev) (e : Nat) : Fwd := d.ilk.fwds.get fwd0 e
def Dev.setFwd (d : Dev) (e : Nat) (x : Fwd) : Dev := { d with ilk := { d.ilk with fwds := d.ilk.fwds.put fwd0 e x } }


def Dev.conv (d : Dev) (c : Nat) : Conv := d.svy.convs.get conv0 c
def Dev.setConv (d : Dev) (c : Nat) (x : Conv) : Dev :=
  { d with svy := { d.svy with convs := d.svy.convs.put conv0 c x } }
def Dev.gw (d : Dev) (c : Nat) : Gangway := d.svy.gw.get gangway0 c
def Dev.setGw (d : Dev) (c : Nat) (x : Gangway) : Dev :=
  { d with svy := { d.svy with gw := d.svy.gw.put gangway0 c x } }
def Dev.rcdr (d : Dev) (n : Nat) : Rec := d.rcd.recs.get rec0 n
def Dev.setRcdr (d : Dev) (n : Nat) (x : Rec) : Dev :=
  { d with rcd := { d.rcd with recs := d.rcd.recs.put rec0 n x } }

def chk0 : Chk := { reg := 0, seen := 0, run := 0, win := 0 }
def Dev.checker (d : Dev) (i : Nat) : Chk := d.fry.checks.get chk0 i
def Dev.setChecker (d : Dev) (i : Nat) (x : Chk) : Dev := { d with fry := { d.fry with checks := d.fry.checks.put chk0 i x } }
def Dev.fryP (d : Dev) (k : Nat) : FryPort := d.fry.ports.get fryPort0 k
def Dev.setFryP (d : Dev) (k : Nat) (x : FryPort) : Dev :=
  { d with fry := { d.fry with ports := d.fry.ports.put fryPort0 k x } }

def Dev.loop (d : Dev) (i : Nat) : Loop := d.cap.loops.get loop0 i
def Dev.setLoop (d : Dev) (i : Nat) (x : Loop) : Dev :=
  { d with cap := { d.cap with loops := d.cap.loops.put loop0 i x } }
def Dev.group (d : Dev) (o : Nat) : Group := d.cap.groups.get group0 o
def Dev.setGroup (d : Dev) (o : Nat) (x : Group) : Dev :=
  { d with cap := { d.cap with groups := d.cap.groups.put group0 o x } }
def Dev.adc (d : Dev) (c : Nat) : Adc := d.cal.adc.get adc0 c
def Dev.setAdc (d : Dev) (c : Nat) (x : Adc) : Dev := { d with cal := { d.cal with adc := d.cal.adc.put adc0 c x } }
def Dev.probeCor (d : Dev) (c : Nat) : ProbeCor := d.cal.probes.get probeCor0 c
def Dev.setProbeCor (d : Dev) (c : Nat) (x : ProbeCor) : Dev :=
  { d with cal := { d.cal with probes := d.cal.probes.put probeCor0 c x } }
def Dev.ff (d : Dev) (i : Nat) : FF := d.cal.ff.get ff0 i
def Dev.setFF (d : Dev) (i : Nat) (x : FF) : Dev := { d with cal := { d.cal with ff := d.cal.ff.put ff0 i x } }
def Dev.tref (d : Dev) (b : Nat) : Int := d.cal.tref.get 0 b
def Dev.setTref (d : Dev) (b : Nat) (x : Int) : Dev := { d with cal := { d.cal with tref := d.cal.tref.put 0 b x } }
def Dev.trig (d : Dev) (b : Nat) : Int := d.cal.trig.get 0 b
def Dev.setTrig (d : Dev) (b : Nat) (x : Int) : Dev := { d with cal := { d.cal with trig := d.cal.trig.put 0 b x } }
def Dev.reachRun (d : Dev) (n : Nat) : ReachRun := d.cal.runs.get reachRun0 n
def Dev.setReachRun (d : Dev) (n : Nat) (x : ReachRun) : Dev :=
  { d with cal := { d.cal with runs := d.cal.runs.put reachRun0 n x } }
/-- CAL_REACH_STATE of a reach: 0 IDLE, 1 PENDING, 2 RUNNING, 3 SWITCHING (R194). -/
def Dev.reachState (d : Dev) (n : Nat) : Nat := bits (d.get CAL_REACH_STATE) (2 * n) 2
def Dev.putReachState (d : Dev) (n v : Nat) : Dev :=
  d.set CAL_REACH_STATE (putBits (d.get CAL_REACH_STATE) (2 * n) 2 v)
def Dev.wh (d : Dev) (w : Nat) : Whl := d.whl.wh.get whl0 w
def Dev.setWh (d : Dev) (w : Nat) (x : Whl) : Dev := { d with whl := { d.whl with wh := d.whl.wh.put whl0 w x } }
def Dev.stage (d : Dev) (i : Nat) : OutStage := d.whl.stages.get outStage0 i
def Dev.setStage (d : Dev) (i : Nat) (x : OutStage) : Dev :=
  { d with whl := { d.whl with stages := d.whl.stages.put outStage0 i x } }


def Dev.cell (d : Dev) (i : Nat) : Cell := d.fab.cells.get (cell0 i) i
def Dev.setCell (d : Dev) (i : Nat) (c : Cell) : Dev :=
  { d with fab := { d.fab with cells := d.fab.cells.put (cell0 i) i c } }
def Dev.blk (d : Dev) (b : Nat) : Blk := d.fab.blks.get blk0 b
def Dev.setBlk (d : Dev) (b : Nat) (x : Blk) : Dev :=
  { d with fab := { d.fab with blks := d.fab.blks.put blk0 b x } }
def Dev.rch (d : Dev) (n : Nat) : Rch := d.fab.rchs.get rch0 n
def Dev.setRch (d : Dev) (n : Nat) (x : Rch) : Dev :=
  { d with fab := { d.fab with rchs := d.fab.rchs.put rch0 n x } }
def Dev.inP (d : Dev) (p : Nat) : Prt := d.fab.inPrt.get prt0 p
def Dev.setInP (d : Dev) (p : Nat) (x : Prt) : Dev :=
  { d with fab := { d.fab with inPrt := d.fab.inPrt.put prt0 p x } }
def Dev.outP (d : Dev) (o : Nat) : Prt := d.fab.outPrt.get prt0 o
def Dev.setOutP (d : Dev) (o : Nat) (x : Prt) : Dev :=
  { d with fab := { d.fab with outPrt := d.fab.outPrt.put prt0 o x } }
def Dev.link (d : Dev) (l : Nat) : Link := d.fab.links.get link0 l
def Dev.setLink (d : Dev) (l : Nat) (x : Link) : Dev :=
  { d with fab := { d.fab with links := d.fab.links.put link0 l x } }
def Dev.setLamp (d : Dev) (x : Lamp) : Dev := { d with fab := { d.fab with lamp := x } }
def Dev.tkt (d : Dev) (t : Nat) : Ticket := d.tk.store.get tkt0 t
def Dev.putTkt (d : Dev) (t : Nat) (x : Ticket) : Dev := { d with tk := { d.tk with store := d.tk.store.put tkt0 t x } }
def Dev.op (d : Dev) (tag : Nat) : Option Op := d.cmd.ops.get none tag
def Dev.setOp (d : Dev) (tag : Nat) (o : Option Op) : Dev :=
  { d with cmd := { d.cmd with ops := d.cmd.ops.put none tag o } }
def Dev.xing (d : Dev) (x : Nat) : Option Xing := d.cmd.xings.get none x
def Dev.setXing (d : Dev) (x : Nat) (v : Option Xing) : Dev :=
  { d with cmd := { d.cmd with xings := d.cmd.xings.put none x v } }
def Dev.heads (d : Dev) (q : Nat) : List Work := d.cmd.heads.get [] q
def Dev.setHeads (d : Dev) (q : Nat) (l : List Work) : Dev :=
  { d with cmd := { d.cmd with heads := d.cmd.heads.put [] q l } }
def Dev.ready (d : Dev) (q : Nat) : List Work := d.cmd.ready.get [] q
def Dev.setReady (d : Dev) (q : Nat) (l : List Work) : Dev :=
  { d with cmd := { d.cmd with ready := d.cmd.ready.put [] q l } }
def Dev.ring (d : Dev) (g : Nat) : Ring := d.cmd.rings.get ring0 g
def Dev.setRing (d : Dev) (g : Nat) (x : Ring) : Dev :=
  { d with cmd := { d.cmd with rings := d.cmd.rings.put ring0 g x } }
def Dev.table (d : Dev) (n : Nat) : Option Table := d.tide.tables.get none n
def Dev.setTable (d : Dev) (n : Nat) (x : Option Table) : Dev :=
  { d with tide := { d.tide with tables := d.tide.tables.put none n x } }
def Dev.run (d : Dev) (s : Nat) : Option Run := d.tide.runs.get none s
def Dev.setRun (d : Dev) (s : Nat) (x : Option Run) : Dev :=
  { d with tide := { d.tide with runs := d.tide.runs.put none s x } }
def Dev.sysX (d : Dev) (i : Nat) : Option Sys := d.tide.sys.get none i
def Dev.setSysX (d : Dev) (i : Nat) (x : Option Sys) : Dev :=
  { d with tide := { d.tide with sys := d.tide.sys.put none i x } }
def Dev.occ (d : Dev) (c : Nat) : Occ := d.flt.occs.get occ0 c
def Dev.setOcc (d : Dev) (c : Nat) (x : Occ) : Dev := { d with flt := { d.flt with occs := d.flt.occs.put occ0 c x } }

/-- Every crossing the device holds. -/
def Dev.allXings (d : Dev) : List Xing := d.cmd.xings.cells.filterMap (·.2)
/-- Every operation outstanding. -/
def Dev.allOps (d : Dev) : List Op := d.cmd.ops.cells.filterMap (·.2)
/-- Every ticket that is not FREE, with its ID. -/
def Dev.allTkts (d : Dev) : List (Nat × Ticket) := d.tk.store.cells.filter (fun c => c.2.state != 0)

/-! ## The manifest's values in force (R237) -/

/-- The key of a manifest field: section, body word, lowest bit. (Log entry 29 DESIGN CHOICE.) -/
def manKey (sec w lo : Nat) : Nat := (sec * 65536 + w) * 32 + lo

/-- Section, word and lowest bit of a key. -/
def keySec (k : Nat) : Nat := k / 32 / 65536
def keyWord (k : Nat) : Nat := k / 32 % 65536
def keyLo (k : Nat) : Nat := k % 32

/-- A manifest field's value put in force; P shows in CAP_PRIV_BUDGET too (R249). -/
def Dev.putForce (d : Dev) (k v : Nat) : Dev :=
  let d := { d with man := { d.man with active := d.man.active.put 0 k v } }
  if keySec k = 3 ∧ keyWord k % 404 = 0 ∧ keyLo k = 0 then d.set (CAP_PRIV_BUDGET (keyWord k / 404)) v else d

/-- FROZEN values that wait for a unit come in force as it returns to service: those whose key p picks (R13, R241). -/
def Dev.takeWaiting (d : Dev) (p : Nat → Bool) : Dev :=
  let l := d.man.waiting.cells.filter (fun c => p c.1)
  let d := { d with man := { d.man with waiting := d.man.waiting.dropWhen p } }
  l.foldl (fun d c => d.putForce c.1 (c.2 - 1)) d

/-- The value in force of a manifest field; 0 before the first load. -/
def Dev.manA (d : Dev) (sec w lo : Nat) : Nat := d.man.active.get 0 (manKey sec w lo)

/-- A manifest has been loaded since the reset (R247). -/
def Dev.manLoaded (d : Dev) : Bool := d.on MAN_STATUS_LOADED

/-- MODULE_ID in force. -/
def Dev.moduleId (d : Dev) : Nat := d.manA 1 0 0
/-- REARRANGE_MOVABLE in force (R88). -/
def Dev.rearrange (d : Dev) : Bool := d.manA 1 0 12 != 0
/-- TOLL_ON_CHANGE in force (R232). -/
def Dev.tollOnChange (d : Dev) : Bool := d.manA 1 0 13 != 0
/-- DMA_MODE in force: true compatibility (R395). -/
def Dev.dmaCompat (d : Dev) : Bool := d.manA 1 0 14 != 0
/-- SEAL_B_PATH in force: true ferry lanes (R237). -/
def Dev.sealFerry (d : Dev) : Bool := d.manA 1 0 15 != 0
/-- A DIAG bit in force (R237). -/
def Dev.diag (d : Dev) (i : Nat) : Bool := bit (d.manA 1 0 16) i
/-- BLOCKS.IN_SERVICE, SPARE and ADOPT_EN of a block (ADOPT_EN: of its pair). -/
def Dev.manInService (d : Dev) (b : Nat) : Bool := d.manA 2 b 0 != 0
def Dev.manSpare (d : Dev) (b : Nat) : Bool := d.manA 2 b 1 != 0
def Dev.adoptEn (d : Dev) (b : Nat) : Bool := d.manA 2 (b / 2 * 2) 2 != 0
/-- IN(p) and OUT(p) lie in the partition of function f (R237). PF0 holds every port. -/
def Dev.inPart (d : Dev) (f p : Nat) : Bool := f == 0 || bit (d.manA 6 (f * 32 + p / 32) 0) (p % 32)
def Dev.outPart (d : Dev) (f p : Nat) : Bool := f == 0 || bit (d.manA 6 (f * 32 + 16 + p / 32) 0) (p % 32)
/-- CEIL_LIMIT of OUT(p), a signed 0.01 dBm code; +20.00 dBm before the first load (R182). -/
def Dev.ceilLimit (d : Dev) (p : Nat) : Nat := if d.manLoaded then d.manA 5 (p / 2) (16 * (p % 2)) else 2000
/-- The effective heater budget of a reach in units of 10 mW (R26): half, and at least 10, while the reach is at
warning (R212); HEAT_MIN makes it 10 (R294). -/
def Dev.heaterBudget (d : Dev) (n : Nat) : Nat :=
  let m := if d.manLoaded then d.manA 4 (2 * n + 1) 0 else 100
  if (d.rch n).heatMin then 10 else if bit (d.get THM_STATUS_WARN_REACH) n then max 10 (m / 2) else m
/-- A reach runs at the reduced clock (R244). -/
def Dev.slowReach (d : Dev) (n : Nat) : Bool := d.manA 4 (2 * n) 0 != 0

/-- ROLE, SAFETY_A and VIOL_THRESH of a ferry port, and TIME_ROLE, in force (R237). -/
def Dev.fryRole (d : Dev) (k : Nat) : Nat := d.manA 11 (4 * k) 0
def Dev.safetyA (d : Dev) (k : Nat) : Bool := d.manA 11 (4 * k) 3 != 0
def Dev.violThresh (d : Dev) (k : Nat) : Nat := d.manA 11 (4 * k + 1) 0
def Dev.timeRole (d : Dev) : Nat := d.manA 12 0 0

/-- The bond of a probe entry is reported open; a drive bond's entry is driveBond of its cell (R425). -/
def Dev.bondOpen (d : Dev) (probe : Nat) : Bool := d.cap.open_.get false probe
def driveBond (i : Nat) : Nat := 32768 + i

/-- ILK_STATUS.STATE of a slot: 0 CLOSED, 1 OPEN, 2 READY (R310). -/
def Dev.ilkState (d : Dev) (i : Nat) : Nat := bits (d.get ILK_STATUS_STATE) (2 * i) 2
def Dev.putIlkState (d : Dev) (i v : Nat) : Dev := d.set ILK_STATUS_STATE (putBits (d.get ILK_STATUS_STATE) (2 * i) 2 v)
/-- The input and output masks of a slot in force (R237). -/
def Dev.ilkIn (d : Dev) (i p : Nat) : Bool := bit (d.manA 10 (i * 36 + p / 32) 0) (p % 32)
def Dev.ilkOut (d : Dev) (i o : Nat) : Bool := bit (d.manA 10 (i * 36 + 16 + o / 32) 0) (o % 32)
/-- An input, an output of the dark set of a slot that is not CLOSED (R313). -/
def Dev.heldIn (d : Dev) (p : Nat) : Bool :=
  (List.range 8).any (fun i => d.ilkState i != 0 && (d.ilkIn i p || (d.ilkSlot i).keptIn.contains p))
def Dev.heldOut (d : Dev) (o : Nat) : Bool :=
  (List.range 8).any (fun i => d.ilkState i != 0 && (d.ilkOut i o || (d.ilkSlot i).extra.contains o))
/-- The dark line of OUT(o) is asserted (R314, R319, R324). -/
def Dev.darkLine (d : Dev) (o : Nat) : Bool := d.ilk.lines.get false o

/-- The management port is enabled: else it neither takes nor sends (R372, R375). -/
def Dev.mgmtOn (d : Dev) : Bool := d.on HST_MGMT_CTL_EN

/-- A frame has come in on the management port, whose receiver has block lock then (R375). (Log entry 98 DEDUCED.) -/
def Dev.mgmtIn (d : Dev) : Dev := d.setB HST_MGMT_CTL_LINK true

/-- The hold is reachable: UP and in service (R383, R386). -/
def Dev.holdUp (d : Dev) : Bool := d.get HLD_STATUS_STATE == 2 && d.on HLD_CTL_EN

/-- A SerDes rail is out of its range: no link can be up (R479). -/
def Dev.srdsOut (d : Dev) : Bool := d.rst.rails.any (fun k => k == 1 || k == 2)

/-- The device is in module safe: L3 or L4 holds (R297, R307). -/
def Dev.safe (d : Dev) : Bool := d.on FLT_STATUS_SAFE

/-- Nothing moves any more: module safe, or a module reset under way (R297, R449). -/
def Dev.still (d : Dev) : Bool := d.safe || d.rst.phase != 0

end Sys2Proof.Machine
end

