-- ==== Sys2Proof/Machine/Operands.lean ====
section
/-! DEFINITION. The forms operands take (ring items, opcode arguments, cells and probe channels) and the values computed from them: paths through the fabric, feed-forward values, corrected readings. -/

namespace Sys2Proof.Machine

/-! ## Items and arguments of operations (R217-R219) -/

/-- The fields of a submission entry (R217); resv: a reserved bit is not 0, among them those from 0x20 on that its opcode does not
use (R219). -/
def readEntry (e : RawEntry) : Entry :=
  let at_ := fun off lo n => bits e.raw.toNat (8 * off + lo) n
  let op := at_ 0 0 8
  { opcode := op, asap := bit e.raw.toNat 8, notify := bit e.raw.toNat 9, fence := bit e.raw.toNat 10, items := at_ 0 16 11,
    user := at_ 4 0 32, stamp := at_ 8 0 64, arg := at_ 0x10 0 64, list := at_ 0x18 0 64, arg20 := at_ 0x20 0 64,
    resv := at_ 0 11 5 != 0 || at_ 0 27 5 != 0 || at_ 0x28 0 192 != 0 || (op != 4 && op != 5 && at_ 0x20 0 64 != 0),
    words := e.words, listOk := e.listOk }

/-- A MAKE item (R218). -/
structure MakeItem where
  src : Nat
  dst : Nat
  drain : Bool
  cls : Nat
  prio : Nat
  lamp : Bool
  deriving DecidableEq, Repr

/-- KIND of an item word: 0 MAKE, 1 BREAK, others reserved. -/
def itemKind (w : Nat) : Nat := bits w 0 2

/-- The MAKE that an item word spells. -/
def makeOf (w : Nat) : MakeItem :=
  { src := bits w 2 9, dst := bits w 11 9, drain := bit w 20, cls := bits w 21 2, prio := bits w 23 3, lamp := bit w 26 }

/-- The ticket ID that a BREAK item word names. -/
def breakOf (w : Nat) : Nat := bits w 2 14

/-- An item word is well formed: KIND 0 with bits 31:27 clear and a listed class, or KIND 1 with bits 31:16 clear. -/
def itemOk (w : Nat) : Bool :=
  (itemKind w == 0 && bits w 27 5 == 0 && bits w 21 2 != 3) || (itemKind w == 1 && bits w 16 16 == 0)

/-- The item words of an entry: the one in LIST for ITEMS = 1, the list's for more (R217). -/
def entryItems (e : Entry) : List Nat :=
  if e.items = 0 then [] else if e.items = 1 then [e.list % 4294967296] else e.words.take e.items

/-- A make's class fits its sink (R85): SURVEY exactly to a drain. -/
def MakeItem.fits (m : MakeItem) : Bool := if m.cls = 2 then m.drain else !m.drain

/-! ## Table sources (R118) -/

/-- A table source as its fields: the header's, and each step's dwell and circuits (SRC, DST); resv: a reserved field or a pad is not 0. -/
structure Source where
  magic  : Nat
  format : Nat
  steps  : Nat
  cls    : Nat
  prio   : Nat
  bytes  : Nat
  crc    : Nat
  resv   : Bool
  inSet  : List Nat
  outSet : List Nat
  body   : List (Nat × List (Nat × Nat))
  deriving DecidableEq, Repr

/-- The bytes of a step of n circuits, padded to 8. -/
def srcStepLen (n : Nat) : Nat := 8 + 8 * ((n + 1) / 2)

/-- The steps of a source, at most n of them, from its bytes after the header, and whether a reserved bit or a pad among them is not 0;
none where they end early or a COUNT is above 512. -/
def srcBody : Nat → List Byte → Option (List (Nat × List (Nat × Nat)) × Bool)
  | 0, _ => some ([], false)
  | n + 1, l =>
    let k := leAt l 4 2
    if l.length < srcStepLen k ∨ 512 < k then none else
    let ws := leWords k (l.drop 8)
    let bad := leAt l 6 2 != 0 || ws.any (fun w => bits w 18 14 != 0) || !zeroAt l (8 + 4 * k) (srcStepLen k - 8 - 4 * k)
    match srcBody n (l.drop (srcStepLen k)) with
    | some r => some ((leAt l 0 4, ws.map (fun w => (bits w 0 9, bits w 9 9))) :: r.1, bad || r.2)
    | none => none

/-- The fields of a table source; none where it is shorter than its header or its steps. -/
def readSource (l : List Byte) : Option Source :=
  if l.length < 256 then none else
  match srcBody (min (leAt l 8 4) 65536) (l.drop 256) with
  | none => none
  | some b =>
    let w := leAt l 0xC 4
    some { magic := leAt l 0 4, format := leAt l 4 2, steps := leAt l 8 4, cls := bits w 0 2, prio := bits w 4 3,
           bytes := leAt l 0x10 4, crc := leAt l 0x14 4, inSet := bitList (leAt l 0x20 64) 512, outSet := bitList (leAt l 0x60 64) 512,
           resv := leAt l 6 2 != 0 || bits w 2 2 != 0 || bits w 7 25 != 0 || !zeroAt l 0x18 8 || !zeroAt l 0xA0 0x60 || b.2, body := b.1 }

/-! ## Paths (R44-R47) -/

/-- The bit of a line exchanged with bit 0 at the boundary after stage s (R46). -/
def boundary (s : Nat) : Nat := [4, 3, 2, 1, 1, 2, 3, 4].getD s 0

/-- Line l with its bits 0 and q exchanged. -/
def swapBits (l q : Nat) : Nat := putBit (putBit l 0 (bit l q)) q (bit l 0)

/-- The state a path needs of the cell it meets at stage s on line l, towards output line z with choice c: free in
stages 0-3, fixed by the output line in stages 4-8 (R47). -/
def needs (s l z c : Nat) : Bool :=
  if s < 4 then bit c s else xor (bit l 0) (bit z (if s = 8 then 0 else s - 3))

/-- The cells met from stage s on, on line l: row, needed state, line in; n stages remain. -/
def benesFrom (z c : Nat) : Nat → Nat → Nat → List (Nat × Bool × Nat)
  | 0, _, _ => []
  | n + 1, s, l =>
    let st := needs s l z c
    let lo := putBit l 0 (xor (bit l 0) st)
    (l / 2, st, l) :: benesFrom z c n (s + 1) (if s < 8 then swapBits lo (boundary s) else lo)

/-- The nine cells of a block's path from input line p to output line z with choice c: row, state, line in. -/
def benes (p z c : Nat) : List (Nat × Bool × Nat) := benesFrom z c 9 0 p

/-- One cell of a path: its index, the state it must hold, and the line it is entered on. -/
structure Hop where
  cell : Nat
  cross : Bool
  line : Nat
  deriving DecidableEq, Repr

/-- The path in block b. -/
def blockHops (b p z c : Nat) : List Hop :=
  (benes p z c).zipIdx.map (fun x => { cell := cellIx b x.2 x.1.1, cross := x.1.2.1, line := x.1.2.2 })

/-- The ends of a circuit: ingress block and line, egress index and line (R44). -/
structure Ends where
  b : Nat
  p : Nat
  k : Nat
  z : Nat
  deriving DecidableEq, Repr

/-- The ends of a ticket. -/
def Ticket.ends (t : Ticket) : Ends :=
  { b := if t.srcLamp then t.src % 32 else t.src / 16, p := if t.srcLamp then 16 else t.src % 16,
    k := t.dst / 16, z := t.dst % 16 + (if t.dstDrain then 16 else 0) }

/-- The 27 cells of a circuit's path on a route (R45, R81). -/
def hops (e : Ends) (r : Route) : List Hop :=
  blockHops e.b e.p r.mid r.ing ++ blockHops (32 + r.mid) e.b e.k r.midc ++ blockHops (64 + e.k) r.mid e.z r.egr

/-- The route a ticket's record holds. -/
def Ticket.route (t : Ticket) : Route := { mid := t.mid, ing := t.ing, midc := t.midc, egr := t.egr }

/-- The path of a ticket with a solved route; empty without one. -/
def Ticket.path (t : Ticket) : List Hop := if t.valid then hops t.ends t.route else []

/-- The blocks a ticket's route passes. -/
def Ticket.blocks (t : Ticket) : List Nat := [t.ends.b, 32 + t.mid, 64 + t.ends.k]

/-- A circuit is in place: LIT, DEGRADED, or CLOSING before its break instant (R60, R161). -/
def Ticket.inPlace (t : Ticket) : Bool := t.state == 3 || t.state == 4 || t.state == 6

/-! ## Rounded arithmetic -/

/-- The integer nearest to n / m for m above 0; halfway, as Config.tieUp says. (Log entry 25 DESIGN CHOICE.) -/
def nearest (n : Int) (m : Nat) : Int :=
  let q := n / (m : Int)
  let r := n % (m : Int)
  if 2 * r < m then q else if (m : Int) < 2 * r then q + 1 else if Config.tieUp n then q + 1 else q

/-- The digits below 2^k of the greatest n with n^1000 at most x, above those found. -/
def rootFrom (x : Nat) : Nat → Nat → Nat
  | 0, a => a
  | k + 1, a => if (a + 2 ^ k) ^ 1000 ≤ x then rootFrom x k (a + 2 ^ k) else rootFrom x k a

/-- The greatest whole number at most m times the power ratio of c hundredths of a decibel. -/
def ratioFloor (m : Nat) (c : Int) : Nat :=
  let x := m ^ 1000 * 10 ^ c.toNat / 10 ^ (-c).toNat
  rootFrom x (x.log2 / 1000 + 1) 0

/-- The linear power of a corrected reading, to within 2^-16 of full scale, in units of that (R185). (Log entry 25 DESIGN CHOICE.) -/
def linearPower (p : Int) : Nat := ratioFloor 65536 (p - Config.fullScale) + b2n (Config.linearUp p)

/-- The median of a list, the mean of the middle two of an even number, in half units (R207). -/
def median2 (l : List Int) : Int :=
  let s := l.mergeSort (fun a b => decide (a ≤ b))
  let n := s.length
  if n % 2 = 1 then 2 * s.getD (n / 2) 0 else s.getD (n / 2 - 1) 0 + s.getD (n / 2) 0

/-! ## Codes of cells (R52, R54, R157, R186) -/

/-- The range of a berth code (R52). -/
def codeMin : Int := -32768
def codeMax : Int := 32767

/-- The feed-forward value of an entry in a state at a temperature, with its block's T_REF (R186). -/
def ffOf (e : FF) (cross : Bool) (t tref : Int) : Int :=
  let base := if cross then e.ff0C else e.ff0B
  let tc := if cross then e.tcC else e.tcB
  clampI codeMin codeMax (nearest (base * 25600 + tc * (t - tref)) 25600)

/-- The temperature in use for a block: its sensor's reported value, or its T_REF until a round has reported (R157,
R205). -/
def Dev.blkTemp (d : Dev) (b : Nat) : Int :=
  let v := d.get (THM_TEMP_REPORTED b)
  if v = 0x8000 then d.tref b else sgn 16 v

/-- The feed-forward value of a cell in a state from the tables in force; 0 V while no valid table is (R67, R157). -/
def Dev.ffVal (d : Dev) (i : Nat) (cross : Bool) : Int :=
  if d.on CAL_STATUS_TABLES_VALID then ffOf (d.ff i) cross (d.blkTemp (cellBlk i)) (d.tref (cellBlk i)) else 0

/-- The trim a loop keeps for a state (R157). -/
def Loop.trim (l : Loop) (cross : Bool) : Int := if cross then l.trimC else l.trimB

/-- The berth value of a cell for a state, held in the driver's range; a cell in OPEN takes ff alone (R107, R161,
R165). -/
def Dev.berthVal (d : Dev) (i : Nat) (cross : Bool) : Int :=
  let l := d.loop i
  clampI codeMin codeMax (d.ffVal i cross + (if l.mode = 4 then 0 else l.trim cross))

/-- A cell's berth value would leave the driver's range (R54). -/
def Dev.clamps (d : Dev) (i : Nat) (cross : Bool) : Bool :=
  let l := d.loop i
  let v := d.ffVal i cross + (if l.mode = 4 then 0 else l.trim cross)
  decide (v < codeMin ∨ codeMax < v)

/-- The code in a cell's selected berth. -/
def Cell.selCode (c : Cell) : Int := if c.selB then c.codeB else c.codeA

/-- A code put in the selected berth, and in the idle one. -/
def Cell.putSel (c : Cell) (v : Int) : Cell := if c.selB then { c with codeB := v } else { c with codeA := v }
def Cell.putIdle (c : Cell) (v : Int) : Cell := if c.selB then { c with codeA := v } else { c with codeB := v }

/-! ## Probe channels and readings (R184, R185, R201, R238) -/

/-- The probe entry of a cell's upper (0) or lower (1) probe; of IN(p), OUT(p), DR(p) and LF(b) (R201 table 1). -/
def probeCell (i arm : Nat) : Nat := i * 2 + arm
def probeIn (p : Nat) : Nat := 27648 + p
def probeOut (p : Nat) : Nat := 28160 + p
def probeDrain (p : Nat) : Nat := 28672 + p
def probeLamp (b : Nat) : Nat := 29184 + b

/-- The channel in slot j of block b's plan in force (R237, R238). -/
def Dev.slot (d : Dev) (b j : Nat) : Nat := d.manA 3 (b * 404 + 4 + j / 2) (16 * (j % 2))

/-- The first slot of a channel in block b's plan, and the converter that samples it there. -/
def Dev.planSlot (d : Dev) (b ch : Nat) : Nat := ((List.range 800).find? (fun j => d.slot b j == ch)).getD 0

/-- The converter that takes the sample of slot j of block b: the plan's, or, that one failed, the next of the block's that has not
(R178). (Log entry 88 DESIGN CHOICE.) -/
def Dev.slotConv (d : Dev) (b j : Nat) : Nat :=
  (((List.range 8).map (fun k => (j / 100 + k) % 8)).find? (fun c => !(d.adc (b * 8 + c)).failed)).getD (j / 100)
def Dev.planConv (d : Dev) (b ch : Nat) : Nat := d.slotConv b (d.planSlot b ch)

/-- A capstan converter's corrected code (R184). -/
def correct (a : Adc) (raw : Int) : Int := nearest ((raw - a.ofs) * a.gain) 32768

/-- A probe's corrected reading in 0.01 dBm (R185), from a corrected code, to the nearest, a half as tieUp says: R185 names no rounding. (Log entry 94 DESIGN CHOICE.) -/
def reading (p : ProbeCor) (code : Int) : Int := nearest (p.zero * 4096 + (code - p.ofs) * p.resp) 4096

/-- The test ripple in the next sample of a probe, in LSB; it alternates from sample to sample (R168). (Log entry 78 DESIGN CHOICE.) -/
def Dev.ripple (d : Dev) (probe : Nat) : Int := if d.cap.ripple.get false probe then -8 else 8
def Dev.flipRipple (d : Dev) (probe : Nat) : Dev :=
  { d with cap := { d.cap with ripple := d.cap.ripple.put false probe (!d.cap.ripple.get false probe) } }

/-- The corrected code of a sample that converter c of block b takes of a probe, its ripple removed (R168, R184). -/
def Dev.codeBy (d : Dev) (b c probe : Nat) (raw : Int) : Int := correct (d.adc (b * 8 + c)) (raw - d.ripple probe)

/-- The same in the slot of a channel in the plan. -/
def Dev.codeOf (d : Dev) (b ch probe : Nat) (raw : Int) : Int := d.codeBy b (d.planConv b ch) probe raw

/-- The reading of a probe from such a sample (R185). -/
def Dev.readProbe (d : Dev) (b ch probe : Nat) (raw : Int) : Int := reading (d.probeCor probe) (d.codeOf b ch probe raw)

/-- A cell-probe reading is below the floor in force (R185). -/
def Dev.belowFloor (d : Dev) (p : Int) : Bool := decide (p < sgn 16 (d.get CAL_CELL_FLOOR))

/-! ## Ticket layouts (R81) -/

/-- Word w (0-15) of a ticket's record. -/
def Ticket.word (t : Ticket) : Nat → Nat
  | 0 => t.src % 512 + t.dst % 512 * 512 + b2n t.srcLamp * 2 ^ 18 + b2n t.dstDrain * 2 ^ 19 + t.tenant % 64 * 2 ^ 20
      + t.cls % 4 * 2 ^ 26 + t.prio % 8 * 2 ^ 28
  | 1 => t.state % 8 + b2n t.committed * 8 + b2n t.restoring * 16 + b2n t.tableOwned * 32 + t.table % 1024 * 64
      + t.cause % 64 * 2 ^ 16 + t.strand % 4 * 2 ^ 22 + t.version % 256 * 2 ^ 24
  | 2 => t.epoch % 2 ^ 32
  | 3 => t.mid % 32 + t.ing % 16 * 32 + t.midc % 16 * 512 + t.egr % 16 * 8192 + b2n t.valid * 2 ^ 17
  | 4 => t.make % 2 ^ 32
  | 5 => t.make / 2 ^ 32 % 2 ^ 32
  | 6 => t.brk % 2 ^ 32
  | 7 => t.brk / 2 ^ 32 % 2 ^ 32
  | 8 => t.inPwr % 65536 + t.outPwr % 65536 * 65536
  | 9 => t.pathLoss % 65536 + t.voaAtt % 65536 * 65536
  | 10 => b2n t.stale + b2n t.floor * 2
  | 11 => t.hits % 65536 + t.degrEvents % 65536 * 65536
  | 12 => t.litNs % 2 ^ 32
  | 13 => t.litNs / 2 ^ 32 % 2 ^ 32
  | 14 => t.degrNs % 2 ^ 32
  | 15 => t.degrNs / 2 ^ 32 % 2 ^ 32
  | _ => 0

end Sys2Proof.Machine
end

