-- ==== Sys2Proof/Machine/Flags.lean ====
section
/-! DEFINITION. What the device tells: counters, PF0 interrupt bits and MSI-X messages, completion and event entries, logbook entries. -/

namespace Sys2Proof.Machine

/-! ## MSI-X messages and PF0 interrupts (R363) -/

/-- The vectors of a function. -/
def msixCount (f : Nat) : Nat := if f = 0 then 2048 else 8

/-- The MSI-X table entry of a function's vector (R502). -/
def Dev.msixEnt (d : Dev) (f vec : Nat) : MsixEnt := d.hst.msix.get msix0 (2048 * f + vec)
def Dev.setMsix (d : Dev) (f vec : Nat) (e : MsixEnt) : Dev :=
  { d with hst := { d.hst with msix := d.hst.msix.put msix0 (2048 * f + vec) e } }

/-- Neither the function nor the vector is masked, and MSI-X is enabled. (Log entry 97 PRESUMED.) -/
def Dev.msixOpen (d : Dev) (f vec : Nat) : Bool := d.hst.msixCtl.get 0 f == 1 && !(d.msixEnt f vec).mask

/-- A message of a function on a vector: sent, or pending while a mask holds it; none while MSI-X is not enabled. (Log entry 97 PRESUMED.) -/
def Dev.msix (d : Dev) (f vec : Nat) : Dev :=
  let e := d.msixEnt f vec
  if d.msixOpen f vec then d.emit (.msix f vec e.addr e.data)
  else if bit (d.hst.msixCtl.get 0 f) 0 then d.setMsix f vec { e with pend := true }
  else d

/-- The PF0 interrupt bits of HST_PF0_IRQ (R375). -/
inductive Irq where
  | manLoad | manCommit | calLoad | calDump | calAdc | seal | hostErr
  deriving DecidableEq, Repr

/-- The field of an interrupt bit. -/
def Irq.fld : Irq → Fld
  | .manLoad => HST_PF0_IRQ_MAN_LOAD
  | .manCommit => HST_PF0_IRQ_MAN_COMMIT
  | .calLoad => HST_PF0_IRQ_CAL_LOAD
  | .calDump => HST_PF0_IRQ_CAL_DUMP
  | .calAdc => HST_PF0_IRQ_CAL_ADC
  | .seal => HST_PF0_IRQ_SEAL
  | .hostErr => HST_PF0_IRQ_HOST_ERR

/-- The vector named for an interrupt bit. -/
def Irq.vec : Irq → Fld
  | .manLoad => HST_PF0_VEC0_MAN_VEC
  | .manCommit => HST_PF0_VEC0_MAN_VEC
  | .calLoad => HST_PF0_VEC0_CAL_VEC
  | .calDump => HST_PF0_VEC0_CAL_VEC
  | .calAdc => HST_PF0_VEC0_CAL_VEC
  | .seal => HST_PF0_VEC1_SEAL_VEC
  | .hostErr => HST_PF0_VEC1_ERR_VEC

/-- A PF0 completion interrupt: its bit set, its vector's message sent (R363). -/
def Dev.irq (d : Dev) (i : Irq) : Dev := (d.setB i.fld true).msix 0 (d.get i.vec)

/-! ## The command inlet (R267, R279) -/

/-- A wheelhouse acts: only then are decisions taken, completions, events and crossing frames written. One that has not
settled after a Helm reset (R462), or whose outputs a known-answer test holds (R271), does not. (Log entry 42 DESIGN CHOICE.) -/
def Dev.acting (d : Dev) : Bool :=
  d.get WHL_STATUS_ACTIVE != 0 && !d.on RST_STATUS_HELM_BUSY
    && (match d.whl.point with | some p => !p.tested | none => true)

/-- A word inserted in the command inlet: numbered, and waiting while no wheelhouse consumes it; a word of the fault
collector or the token keeper takes a reserved place. -/
def Dev.inletPut (d : Dev) (reserved : Bool) : Dev :=
  let d := d.inc WHL_INLET_SEQ
  if d.acting then d
  else if reserved then { d with whl := { d.whl with inletR := min 256 (d.whl.inletR + 1) } }
  else { d with whl := { d.whl with inlet := d.whl.inlet + 1 } }

/-- The inlet has room for words of the host and ferry islands. -/
def Dev.inletRoom (d : Dev) : Bool := decide (d.whl.inlet < 2048)

/-! ## Completion and event rings (R220-R222) -/

/-- The places of a ring whose size code is n. -/
def ringSize (n : Nat) : Nat := 2 ^ (n + 6)

/-- The group whose CQ serves a group's completions: PF0's for the bulk ring (R215). -/
def cqGroup (g : Nat) : Nat := if g = 64 then 0 else g

/-- The CQ of group g is full: the place to be written next lies one place before CQ_HEAD (R222). -/
def Dev.cqFull (d : Dev) (g : Nat) : Bool :=
  ((d.ring g).cqIdx + 1) % ringSize (d.get (RING_CFG_CQ_SIZE g)) == d.get (CQ_HEAD g)

/-- The EQ of group g is full. -/
def Dev.eqFull (d : Dev) (g : Nat) : Bool :=
  ((d.ring g).eqIdx + 1) % ringSize (d.get (RING_CFG_EQ_SIZE g)) == d.get (EQ_HEAD g)

/-- The message that follows the PHASE write of a CQ entry: at once when none was sent in the preceding 1.000 us,
else owed (R363). -/
def Dev.cqNotify (d : Dev) (g : Nat) : Dev :=
  let r := d.ring g
  match r.cqMsg with
  | some t => if d.now < t + 1000 then d.setRing g { r with cqOwed := true }
              else (d.setRing g { r with cqMsg := some d.now }).msix g (d.get (RING_VEC_CQ_VEC g))
  | none => (d.setRing g { r with cqMsg := some d.now }).msix g (d.get (RING_VEC_CQ_VEC g))

/-- The same for an EQ entry. -/
def Dev.eqNotify (d : Dev) (g : Nat) : Dev :=
  let r := d.ring g
  match r.eqMsg with
  | some t => if d.now < t + 1000 then d.setRing g { r with eqOwed := true }
              else (d.setRing g { r with eqMsg := some d.now }).msix g (d.get (RING_VEC_EQ_VEC g))
  | none => (d.setRing g { r with eqMsg := some d.now }).msix g (d.get (RING_VEC_EQ_VEC g))

/-- The words of a completion entry from 0x00 to 0x1B, with SQ_HEAD of its ring (R220). -/
def Cqe.words (e : Cqe) (sqHead : Nat) : List Nat :=
  [e.tag % 2 ^ 14 + e.kind % 4 * 2 ^ 14 + e.status % 256 * 2 ^ 16 + b2n e.bulk * 2 ^ 24, e.user % 2 ^ 32, e.instant % 2 ^ 32,
   e.instant / 2 ^ 32 % 2 ^ 32, e.ticket % 2 ^ 14 + e.table % 1024 * 2 ^ 16, e.info % 2 ^ 32, sqHead % 65536]

/-- The words of an event entry from 0x00 to 0x1B (R221). -/
def Eqe.words (e : Eqe) : List Nat :=
  [e.code % 256 + e.state % 8 * 2 ^ 8 + e.reason % 16 * 2 ^ 12 + e.tenant % 64 * 2 ^ 16, e.ticket % 2 ^ 14 + e.table % 1024 * 2 ^ 16,
   e.time % 2 ^ 32, e.time / 2 ^ 32 % 2 ^ 32, e.arg % 2 ^ 32, e.arg / 2 ^ 32 % 2 ^ 32, 0]

/-- An entry of 32 bytes written to host memory: bytes 0x00-0x1B, then PHASE in a separate write (R220). -/
def Dev.writeEntry (d : Dev) (f addr : Nat) (words : List Nat) (phase : Bool) : Dev :=
  (d.emit (.hostWrite f addr words)).emit (.hostWrite f (addr + 0x1C) [b2n phase * 2 ^ 31])

/-- One completion entry written at the CQ's next place; PHASE inverts on each wrap (R220). -/
def Dev.writeCqe (d : Dev) (g : Nat) (e : Cqe) : Dev :=
  let r := d.ring g
  let n := (r.cqIdx + 1) % ringSize (d.get (RING_CFG_CQ_SIZE g))
  ((d.writeEntry g (d.get (CQ_BASE g) * 64 + r.cqIdx * 32) (e.words (d.get (SQ_HEAD (if e.bulk then 64 else g)))) (!r.cqInv)).setRing g
    { r with cqIdx := n, cqInv := if n = 0 then !r.cqInv else r.cqInv }).cqNotify g

/-- CQ_FULL shows whether completions of group g are being held (R222). -/
def Dev.markCq (d : Dev) (g : Nat) : Dev :=
  d.setB (RING_STATUS_CQ_FULL g) (!d.on (RING_CFG_CQ_EN g) || d.cqFull g)

/-- A completion of group g's ring: written, or held on chip while the CQ is full or disabled (R222), or no wheelhouse
is active (R279); discarded after
an FLR until the ring is enabled again (R234). -/
def Dev.postCqe (d : Dev) (g : Nat) (e : Cqe) : Dev :=
  let q := cqGroup g
  let r := d.ring q
  if !d.on (RING_CFG_CQ_EN q) && r.muted then d
  else if !d.on (RING_CFG_CQ_EN q) || d.cqFull q || !r.held.isEmpty || !d.acting then
    (d.setRing q { r with held := r.held ++ [e] }).markCq q
  else (d.writeCqe q e).markCq q

/-- Held completions written while room lasts, oldest first. -/
def Dev.drainCq (d : Dev) (g : Nat) : List Cqe → Dev
  | [] => d.setRing g { d.ring g with held := [] }
  | e :: l =>
    if d.cqFull g then d.setRing g { d.ring g with held := e :: l }
    else (d.writeCqe g e).drainCq g l

/-- Room has returned to the CQ, or it is enabled: held completions are written (R222). -/
def Dev.resumeCq (d : Dev) (g : Nat) : Dev :=
  if d.on (RING_CFG_CQ_EN g) && d.acting then (d.drainCq g (d.ring g).held).markCq g else d.markCq g

/-- One event entry written at the EQ's next place (R221). -/
def Dev.writeEqe (d : Dev) (g : Nat) (e : Eqe) : Dev :=
  let r := d.ring g
  let n := (r.eqIdx + 1) % ringSize (d.get (RING_CFG_EQ_SIZE g))
  ((d.writeEntry g (d.get (EQ_BASE g) * 64 + r.eqIdx * 32) e.words (!r.eqInv)).setRing g
    { r with eqIdx := n, eqInv := if n = 0 then !r.eqInv else r.eqInv }).eqNotify g

/-- An event for ring g: written, or dropped and counted while the EQ is full or disabled (R222); it waits while no
wheelhouse is active (R279). -/
def Dev.postEqe (d : Dev) (g : Nat) (e : Eqe) : Dev :=
  let r := d.ring g
  if !d.on (RING_CFG_EQ_EN g) && r.muted then d
  else if !d.acting then d.setRing g { r with heldEv := r.heldEv ++ [e] }
  else if !d.on (RING_CFG_EQ_EN g) || d.eqFull g then
    (d.setRing g { r with lost := r.lost + 1 }).inc (RING_LOST g)
  else d.writeEqe g e

/-- Room has returned to the EQ, or it is enabled: one EVENTS_LOST entry (0x3F) first (R222). -/
def Dev.resumeEq (d : Dev) (g : Nat) : Dev :=
  let r := d.ring g
  if d.on (RING_CFG_EQ_EN g) && !d.eqFull g && r.lost != 0 && d.acting then
    (d.setRing g { r with lost := 0 }).writeEqe g
      { code := 0x3F, state := 0, reason := 0, tenant := 0, ticket := 0, table := 0, time := stampOf d.now, arg := r.lost }
  else d

/-- Events that waited for an active wheelhouse, oldest first. -/
def Dev.postAll (d : Dev) (g : Nat) : List Eqe → Dev
  | [] => d
  | e :: l => (d.postEqe g e).postAll g l

/-- A wheelhouse acts again: what waited in one ring is written, events that were dropped told first. -/
def Dev.wakeRing (d : Dev) (g : Nat) : Dev :=
  let d := d.resumeEq g
  let l := (d.ring g).heldEv
  ((d.setRing g { d.ring g with heldEv := [] }).postAll g l).resumeCq g

/-- An event to its owner and to PF0, once where PF0 is the owner (R91, R221). -/
def Dev.event (d : Dev) (e : Eqe) : Dev :=
  if e.tenant = 0 then d.postEqe 0 e else (d.postEqe e.tenant e).postEqe 0 e

/-- An event to PF0 alone. -/
def Dev.eventPf0 (d : Dev) (code arg : Nat) : Dev :=
  d.postEqe 0 { code, state := 0, reason := 0, tenant := 0, ticket := 0, table := 0, time := stampOf d.now, arg }

/-- An event about a ticket (R221). (Log entry 28 DESIGN CHOICE.) -/
def Dev.tktEvent (d : Dev) (t code reason arg : Nat) : Dev :=
  let k := d.tkt t
  d.event { code, state := k.state, reason, tenant := k.tenant, ticket := t,
            table := if k.tableOwned then k.table else 0, time := stampOf d.now, arg }

/-- An event about a table, to its owner and PF0 (R221). -/
def Dev.tblEvent (d : Dev) (n owner code : Nat) : Dev :=
  d.event { code, state := 0, reason := 0, tenant := owner, ticket := 0, table := n, time := stampOf d.now, arg := 0 }

/-! ## The logbook (R302-R305) -/

/-- One event of the fault collector counted in its class and logged, or counted in FLT_CNT_UNLOGGED while the logbook
is frozen (R302, R303). -/
def Dev.logIt (d : Dev) (cls kind level sub unit index : Nat) (snap : List Nat) : Dev :=
  let d := (d.inc (FLT_CLS_COUNT cls)).inletPut true
  if d.on FLT_STATUS_FROZEN then d.inc FLT_CNT_UNLOGGED
  else
    let n := d.get FLT_LOG_HEAD_NEXT
    let e : LogEntry := { cls, kind, level, sub, unit, index, time := stampOf d.now, seq := d.flt.seq, snap }
    let d := { d with flt := { d.flt with log := d.flt.log.put none n (some e), seq := d.flt.seq + 1 } }
    let d := d.set FLT_LOG_HEAD_NEXT ((n + 1) % 64)
    if n = 63 then d.setB FLT_LOG_HEAD_WRAPPED true else d

end Sys2Proof.Machine
end

