-- ==== Sys2Proof/Machine/Port.lean ====
section
/-! DEFINITION. The hold port: its users in their strict order, and the turn of the DMA channels (R378, R380, R393). -/

namespace Sys2Proof.Machine

/-- The users of the hold port (R378). -/
inductive HoldClass
  | stream
  | load
  | wear
  | spill
  | history
  | dma
  deriving DecidableEq, Repr

/-- A user's place in the strict order: 0 is served first. -/
def HoldClass.rank : HoldClass → Nat
  | .stream => 0
  | .load => 1
  | .wear => 2
  | .spill => 3
  | .history => 4
  | .dma => 5

/-- A cell's pending count added to its counter in the hold, where the hold is reachable. (Log entry 24 DEDUCED.) -/
def Dev.addWear (d : Dev) (i : Nat) : Dev :=
  let c := d.cell i
  if !d.holdUp || c.pend = 0 then d else
  d.setCell i { c with wear := (c.wear + c.pend) % 2 ^ 48, pend := 0 }

/-- A running table's next step waits at the hold port: it is beyond the 8,192nd and none is streamed (R122). -/
def Dev.streamWaits (d : Dev) (s : Nat) : Bool :=
  match d.run s with
  | none => false
  | some u =>
    u.active && !u.held && u.streamed == 0 && decide (8192 ≤ u.nextStep)
      && (match d.tide.tables.get none u.table with | some t => decide (8192 < t.steps.length) | none => false)

/-- The steps that wait streamed, slot by slot. -/
def Dev.serveStreams (d : Dev) : Dev :=
  (List.range 4).foldl (fun d s =>
    match d.run s with
    | some u => if d.streamWaits s then d.setRun s (some { u with streamed := 1 }) else d
    | none => d) d

/-- The additions of a flush that wait, made (R380). -/
def Dev.serveFlush (d : Dev) : Dev :=
  d.hld.flush.foldl (fun d i => d.addWear i) { d with hld := { d.hld with flush := [] } }

/-- A user comes to the hold port: every waiting user before it in the order is served first. (Log entry 63 DESIGN CHOICE.) -/
def Dev.servePort (d : Dev) (c : HoldClass) : Dev :=
  if !d.holdUp then d else
  let d := if 0 < c.rank then d.serveStreams else d
  if 2 < c.rank then d.serveFlush else d

/-- The DMA channels in round robin, from the one after the last served. -/
def Dev.dmaOrder (d : Dev) : List Nat := (List.range 64).map (fun i => (d.hld.turn + 1 + i) % 64)

/-- Channel c takes the last turn. -/
def Dev.dmaTurn (d : Dev) (c : Nat) : Dev := { d with hld := { d.hld with turn := c } }

/-! ## Read slots (R390, R393) -/

/-- The reads that cover n bytes from a, ascending: whole 64-byte units, at most 4 in a read, none across a 256-byte boundary; k bounds
their number. -/
def readChunks : Nat → Nat → Nat → List (Nat × Nat)
  | 0, _, _ => []
  | k + 1, a, n =>
    if n = 0 then [] else
    let step := min n (256 - a % 256)
    (a / 64 * 64, (a + step + 63) / 64 * 64 - a / 64 * 64) :: readChunks k (a + step) (n - step)

/-- The reads of a transfer of n bytes from a. -/
def readPlan (a n : Nat) : List (Nat × Nat) := readChunks (n / 256 + 2) a n

/-- The read slots that channel c can take at its start: 256 in all, 64 of them while another channel is BUSY. -/
def Dev.slotsFor (d : Dev) (c : Nat) : Nat :=
  let others := (List.range 64).filter (fun j => j != c && d.get (DMA_STATUS_STATE j) == 3)
  let used := (others.map (fun j => d.hld.reads.get 0 j)).sum
  if others.isEmpty then 256 else min 64 (256 - used)

/-- The reads of channel c issued at its start; host reads are sent, none of the others leaves the module. -/
def Dev.issueReads (d : Dev) (c : Nat) (l : List (Nat × Nat)) (host : Bool) : Dev :=
  let now := l.take (d.slotsFor c)
  let d := { d with hld := { d.hld with reads := d.hld.reads.put 0 c now.length } }
  if host then now.foldl (fun d r => d.emit (.hostRead 0 r.1 r.2)) d else d

/-- The reads that had no slot at the start, each issued when one came free. -/
def Dev.issueRest (d : Dev) (c : Nat) (l : List (Nat × Nat)) : Dev :=
  (l.drop (d.hld.reads.get 0 c)).foldl (fun d r => d.emit (.hostRead 0 r.1 r.2)) d

/-- Channel c holds no read slot any more. -/
def Dev.freeReads (d : Dev) (c : Nat) : Dev := { d with hld := { d.hld with reads := d.hld.reads.put 0 c 0 } }

end Sys2Proof.Machine
end

