-- ==== Sys2Proof/Machine/Capture.lean ====
section
/-! DEFINITION. What the recorders capture: words into a reach's SRAM or spill window, samples and events (R430-R433, R441, R442). -/

namespace Sys2Proof.Machine

/-- The words of a recorder's SRAM, and of one MiB of its spill window (R431, R441). -/
def recWords : Nat := 524288
def spillWords : Nat := 131072

/-- A register of the recorder as in force since its last arm (R445). -/
def Rec.get (r : Rec) (f : Fld) : Nat := r.cfg.get f.rst f.key

/-- The recorder of reach n captures: FILLING, ARMED or FIRED, not stopped by the loss of its reach's clock (R434, R444). -/
def Dev.capturing (d : Dev) (n : Nat) : Bool :=
  let s := d.get (REC_STATUS_STATE n)
  (s == 1 || s == 2 || s == 3) && !(d.rcdr n).stopped

/-- One word written (R434, R441, R442): into the ring of SRAM, or after the fire into what room there is and then the
spill window; nothing beyond the post-trigger count. -/
def Dev.recPut (d : Dev) (n w : Nat) : Dev :=
  let r := d.rcdr n
  let seen := { r with words := (if r.wordsAt = d.tick then r.words else []) ++ [w], wordsAt := d.tick }
  let put := fun (r : Rec) => { r with mem := r.mem.put 0 r.wp w, wp := (r.wp + 1) % recWords, since := r.since + 1 }
  if d.get (REC_STATUS_STATE n) ≠ 3 then d.setRcdr n (put seen)
  else if r.post ≤ r.done then d
  else
    let room := recWords - r.get (REC_PRE n)
    let next := { seen with done := r.done + 1 }
    if r.done < room then (d.setRcdr n (put next)).set (REC_HDR_END n) r.wp
    else if r.spillOn then
      ((d.servePort .spill).setRcdr n { next with spill := r.spill.put 0 (r.done - room) w }).set (REC_HDR_SPILL n) (r.done - room + 1)
    else d

/-- A TIME word: nanoseconds, and the low 30 bits of seconds, on the reach's replica (R431). -/
def Dev.recTime (d : Dev) (n : Nat) : Dev :=
  let t := d.nowIn n
  let d := d.recPut n (2 ^ 60 + t % 1000000000 + t / 1000000000 % 2 ^ 30 * 2 ^ 30)
  d.setRcdr n { d.rcdr n with timeAt := some t }

/-- DT has a base that reaches: a TIME word before it where there is none, or more than 4,095 ns have passed. -/
def Dev.recBase (d : Dev) (n : Nat) : Dev :=
  match (d.rcdr n).timeAt with
  | some t => if t ≤ d.nowIn n ∧ d.nowIn n ≤ t + 4095 then d else d.recTime n
  | none => d.recTime n

/-- The DT of a word written now. -/
def Dev.recDT (d : Dev) (n : Nat) : Nat := d.nowIn n - (d.rcdr n).timeAt.getD (d.nowIn n)

/-- The TIME and GAP words that the next word needs before it. -/
def Dev.recGap (d : Dev) (n : Nat) : Dev :=
  let d := d.recBase n
  let g := (d.rcdr n).gap
  if g = 0 then d else
    let d := d.recPut n (6 * 2 ^ 60 + d.recDT n * 2 ^ 48 + g % 2 ^ 32)
    (d.setRcdr n { d.rcdr n with gap := 0 }).recTime n

/-- A word of a type with its fields below DT, after the TIME and GAP words it needs. -/
def Dev.recWord (d : Dev) (n typ body : Nat) : Dev :=
  let d := d.recGap n
  d.recPut n (typ * 2 ^ 60 + d.recDT n * 2 ^ 48 + body % 2 ^ 48)

/-- A word arrives at the input queue of 256 (R433), which drains by one a reach-island cycle: 1 ns, 1.25 ns at the
reduced clock. A word that finds it full is dropped and counted. (Log entry 48 DESIGN CHOICE.) -/
def Dev.recArrive (d : Dev) (n typ body : Nat) : Dev :=
  let r := d.rcdr n
  let el := d.tick - r.qAt
  let q := r.q - (if d.slowReach n then el * 4 / 5 else el)
  if 256 ≤ q then (d.setRcdr n { r with q, qAt := d.tick, gap := r.gap + 1 }).inc (REC_CNT_DROP n)
  else (d.setRcdr n { r with q := q + 1, qAt := d.tick }).recWord n typ body

/-- An event of R432 in reach n. (Log entry 48 DESIGN CHOICE.) -/
def Dev.recEvent (d : Dev) (n code arg : Nat) : Dev :=
  if d.capturing n && (d.rcdr n).get (REC_CFG_EVENTS n) != 0 && bit (d.get (REC_EVT_EN n)) (code - 1) then
    d.recArrive n 4 (code * 2 ^ 40 + arg % 2 ^ 40)
  else d

/-- A capstan converter's sample of a channel of block b, corrected (R430). -/
def Dev.recSample (d : Dev) (b ch : Nat) (code : Int) : Dev :=
  let n := blkReach b
  let r := d.rcdr n
  let hit := fun e => r.get (REC_SEL_EN n e) != 0 && r.get (REC_SEL_BLOCK n e) == b % 8 && r.get (REC_SEL_CHAN n e) == ch
  if d.capturing n && r.get (REC_CFG_SAMPLES n) != 0 && (List.range 32).any hit then
    d.recArrive n 2 (b % 8 * 2 ^ 45 + ch % 512 * 2 ^ 36 + (clampI 0 16383 code).toNat)
  else d

/-- CAL_REACH_STATE of a reach changes, with its event (R194, R432). -/
def Dev.setReachState (d : Dev) (n v : Nat) : Dev :=
  if d.reachState n = v then d else (d.putReachState n v).recEvent n 5 v

/-- The reach that a fault's location lies in (R304, R432). -/
def faultReach (unit ix : Nat) : Option Nat :=
  match unit with
  | 1 => some (ix / 1152)
  | 2 => some (blkReach (if ix < 512 then ix / 16 else 64 + (ix - 512) / 16))
  | 3 => some (blkReach ix)
  | 4 => some ix
  | 7 => some (if ix < 768 then ix / 64 else (ix - 768) / 2)
  | 8 => if ix < 96 then some (blkReach ix) else if ix < 108 then some (ix - 96) else none
  | _ => none

/-- A fault raised with a location in a reach. -/
def Dev.recFault (d : Dev) (cls unit ix : Nat) : Dev :=
  match faultReach unit ix with
  | some n => d.recEvent n 4 (cls + unit * 2 ^ 8 + ix * 2 ^ 12)
  | none => d

/-! ## Survey results (R418, R428) -/

/-- The converter is off (R428). (Log entry 50 DESIGN CHOICE.) -/
def Dev.convOff (d : Dev) (c : Nat) : Bool :=
  (d.conv c).fault || (d.rch (c / 2)).isolated || (d.rch (c / 2)).clockLost

/-- A result word for the queue (R418): VALUE, flags FLOOR, OVER, ABORT, INJ. -/
def svyWord (q : SvyReq) (value : Nat) (inj floor past abort : Bool) : Nat :=
  value % 65536 + q.chan % 8192 * 2 ^ 16 + q.cur % 8 * 2 ^ 29 + q.avg % 16 * 2 ^ 32 + b2n q.raw * 2 ^ 36 + b2n inj * 2 ^ 37
    + b2n floor * 2 ^ 38 + b2n past * 2 ^ 39 + b2n abort * 2 ^ 41 + q.tag % 256 * 2 ^ 48 + 2 ^ 63

/-- A result added, with LOST after a drop, and captured where the recorder takes survey results; dropped and counted
where the queue is full. (Log entry 50 DESIGN CHOICE.) -/
def Dev.svyResult (d : Dev) (c w : Nat) : Dev :=
  let x := d.conv c
  let n := c / 2
  if 256 ≤ x.results.length then (d.setConv c { x with lost := true }).inc (SVY_CNT_RESLOST c)
  else
    let d := d.setConv c { x with results := x.results ++ [w + b2n x.lost * 2 ^ 40], lost := false }
    if d.capturing n && bit ((d.rcdr n).get (REC_CFG_SURVEY n)) (c % 2) then
      d.recArrive n 3 (c % 2 * 2 ^ 47 + bits w 16 13 * 2 ^ 34 + bits w 32 4 * 2 ^ 30 + bits w 37 1 * 2 ^ 29 + bits w 38 1 * 2 ^ 28
        + bits w 39 1 * 2 ^ 27 + w % 65536)
    else d

/-- The round of reach n stops, its bonds reported as they are. -/
def Dev.stopRound (d : Dev) (n : Nat) : Dev :=
  let d := (List.range 2).foldl (fun d j =>
    d.setConv (2 * n + j) { d.conv (2 * n + j) with todo := [], suspect := [], retest := false }) d
  let d := { d with svy := { d.svy with rounds := d.svy.rounds.put none n none } }
  d.sets [(SVY_RND_STATUS_RUNNING n, 0), (SVY_RND_STATUS_RETEST n, 0)]

/-- What a converter that goes off has left of the round passes to the other of its reach; where neither is on the round stops (R424,
R428). -/
def Dev.passShare (d : Dev) (c : Nat) : Dev :=
  let k := if c % 2 = 0 then c + 1 else c - 1
  if (d.svy.rounds.get none (c / 2)).isNone then d
  else if d.convOff k then d.stopRound (c / 2)
  else
    let x := d.conv c
    let y := d.conv k
    let todo := if x.retest then [] else x.todo
    let y := if todo.isEmpty then y else { y with todo := (if y.retest then [] else y.todo) ++ todo, retest := false }
    (d.setConv k { y with suspect := y.suspect ++ x.suspect }).set (SVY_RND_STATUS_CONVS (c / 2)) (2 ^ (k % 2))

/-- A converter goes off: its requests end at once with ABORT results, its triggers are dropped and counted, its share of the round
passes on. The results of an isolated reach wait for the link. (Log entry 50 DESIGN CHOICE.) -/
def Dev.svyAbort (d : Dev) (c : Nat) : Dev :=
  let d := d.passShare c
  let x := d.conv c
  let sw := match x.job with | some (q, false, _) => (if q.test then [] else [q]) | _ => []
  let drop := (match x.job with | some (_, true, _) => 1 | _ => 0) + (if x.latched.isSome then 1 else 0)
  let d := d.setConv c { x with job := none, latched := none, reqs := [], todo := [], suspect := [] }
  let d := d.set (SVY_CNT_OVERRUN c) (d.get (SVY_CNT_OVERRUN c) + drop)
  if (d.rch (c / 2)).isolated then d else
  (sw ++ x.reqs.filter (fun q => !q.test)).foldl (fun d q => d.svyResult c (svyWord q 0 false false false true)) d

/-- A fault logged at L0: an entry of KIND 3, LEVEL 0 (R288, R296). -/
def Dev.logL0 (d : Dev) (cls unit index sub : Nat) (snap : List Nat) : Dev :=
  ((d.recFault cls unit index).logIt cls 3 0 sub unit index snap).set (FLT_CLS_LAST cls) (stampOf d.now)

/-- A register encoding error, REG_ENCODING at L0 (R12). -/
def Dev.badEncoding (d : Dev) : Dev := d.logL0 72 0 0 0 []

end Sys2Proof.Machine
end

