-- ==== Sys2Proof/Machine/View.lean ====
section
/-! DEFINITION. What the state amounts to where the spec gives a reading computed from the rest of it: cell and block conditions, lit lines, planned cell states, and the words that registers and snapshots show. -/

namespace Sys2Proof.Machine

/-! ## Blocks and cells (R35, R37, R38, R55, R63, R75, R76, R97) -/

/-- Block b is in service. -/
def Dev.inService (d : Dev) (b : Nat) : Bool := d.on (FAB_BLK_STATUS_IN_SERVICE b)

/-- The berths of block b are moored. -/
def Dev.moored (d : Dev) (b : Nat) : Bool := (d.blk b).moorBy != 0

/-- Block b has no part any more in the run of its reach: it keeps its old entries (R199). -/
def Dev.runDrop (d : Dev) (b : Nat) : Dev :=
  let r := d.reachRun (blkReach b)
  if d.reachState (blkReach b) = 2 then
    d.setReachRun (blkReach b) { r with tref := r.tref.filter (fun x => x.1 != b), kinds := r.kinds.filter (fun x => cellBlk x.1 != b) }
  else d

/-- A reason to moor block b added or lifted; a moored block takes no part in a reach run (R199). -/
def Dev.setMoor (d : Dev) (b reason : Nat) (on : Bool) : Dev :=
  let x := d.blk b
  let d := d.setBlk b { x with moorBy := putBit x.moorBy reason on }
  if on then d.runDrop b else d

/-- The reach of block b is isolated (R35), or has lost its clock (R37). (Log entry 16 DEDUCED.) -/
def Dev.isolated (d : Dev) (b : Nat) : Bool := (d.rch (blkReach b)).isolated
def Dev.clockLost (d : Dev) (b : Nat) : Bool := (d.rch (blkReach b)).clockLost

/-- FAB_CELL_WEAR.COUNT: the hold value plus the pending count (R75). -/
def Cell.count (c : Cell) : Nat := c.wear + c.pend
/-- WEAR_ADV and WORN (R76). -/
def Cell.wearAdv (c : Cell) : Bool := decide (80000000000 ≤ c.count)
def Cell.worn (c : Cell) : Bool := decide (100000000000 ≤ c.count)

/-- The solver treats the cell as fixed in its current state: its block is out of service, moored, isolated or without
a clock (R35, R38, R55), or the cell is worn (R76) or lost under CELL_LOST or a driver failure (R294). -/
def Dev.fixed (d : Dev) (i : Nat) : Bool :=
  let b := cellBlk i
  let c := d.cell i
  !d.inService b || d.moored b || d.isolated b || d.clockLost b || c.worn || c.failed

/-- A lost cell: its driver has failed, CELL_LOST holds, or it is lost by LONG_OPEN (R97). -/
def Dev.lostCell (d : Dev) (i : Nat) : Bool := (d.cell i).failed || (d.cell i).longOpen

/-- A middle block (by index) is lost: out of service, or its reach has lost its clock (R97). -/
def Dev.lostMid (d : Dev) (m : Nat) : Bool := !d.inService (32 + m) || d.clockLost (32 + m)

/-- The tickets, with their IDs, whose circuits are in place. -/
def Dev.litTkts (d : Dev) : List (Nat × Ticket) := d.allTkts.filter (fun x => x.2.inPlace)

/-- The circuits in place through cell i. -/
def Dev.through (d : Dev) (i : Nat) : List (Nat × Ticket) :=
  d.litTkts.filter (fun x => x.2.path.any (fun h => h.cell == i))

/-- FAB_CELL_STATE.LIT_LINES. -/
def Dev.litLines (d : Dev) (i : Nat) : Nat := (d.through i).length

/-- FAB_VOA_STATUS.LIT: a circuit (ticket LIT or DEGRADED) is in place on OUT(o) (R60, R61). -/
def Dev.outLit (d : Dev) (o : Nat) : Bool :=
  d.litTkts.any (fun x => !x.2.dstDrain && x.2.dst == o)

/-- The ticket on input port p, and on output port o, if any. -/
def Dev.tktOnIn (d : Dev) (p : Nat) : Option (Nat × Ticket) :=
  d.allTkts.find? (fun x => !x.2.srcLamp && x.2.src == p && x.2.state != 1)
def Dev.tktOnOut (d : Dev) (o : Nat) : Option (Nat × Ticket) :=
  d.allTkts.find? (fun x => !x.2.dstDrain && x.2.dst == o && x.2.state != 1)

/-! ## Light at a cell (R159, R161, R162) -/

/-- The input power of a ticket's circuit as last reported, in 0.01 dBm; none below floor or for a lamp circuit. -/
def Dev.lineIn (d : Dev) (t : Ticket) : Option Int :=
  if t.srcLamp then
    if d.on (FAB_LAMP_MON_FLOOR (t.src % 32)) then none else some (sgn 16 (d.get (FAB_LAMP_MON_POWER (t.src % 32))))
  else if d.on (FAB_IN_POWER_FLOOR t.src) then none else some (sgn 16 (d.get (FAB_IN_POWER_POWER t.src)))

/-- The powers of the lit lines of cell i that read above floor. -/
def Dev.linePowers (d : Dev) (i : Nat) : List Int := (d.through i).filterMap (fun x => d.lineIn x.2)

/-- The powers of the lines sum to less than lim (0.01 dBm): one line is compared exactly, two as shares of lim to within 2^-127. (Log entry 26 DEDUCED.) -/
def sumBelow (l : List Int) (lim : Int) : Bool :=
  match l with
  | [] => true
  | [p] => decide (p < lim)
  | p :: q :: _ => decide (ratioFloor (2 ^ 128) (p - lim) + ratioFloor (2 ^ 128) (q - lim) < 2 ^ 128)

/-- Two lines whose difference lies within k of 0.01 dB: 87 is a ratio below 0.10, 131 a ratio below 0.15. (Log entry 26 DEDUCED.) -/
def closePair (l : List Int) (k : Nat) : Bool :=
  match l with
  | [p, q] => decide ((p - q).natAbs ≤ k)
  | _ => false

/-- Weak (R162). -/
def Dev.weak (d : Dev) (i : Nat) : Bool := sumBelow (d.linePowers i) (-2000)

/-- A lit cell that is to be SHADOWED: weak or balanced; one that is already leaves at the second limits (R162). (Log entry 26 DEDUCED.) -/
def Dev.shadowed (d : Dev) (i : Nat) : Bool :=
  let l := d.linePowers i
  if (d.loop i).mode = 3 then sumBelow l (-1900) || closePair l 131 else sumBelow l (-2000) || closePair l 87

/-- A loop enters a mode; the dither is zero outside ACQUIRE and LOCKED (R158). -/
def Loop.enter (l : Loop) (m : Nat) : Loop := { l with mode := m, dither := if m = 1 ∨ m = 2 then l.dither else 0 }

/-- A loop is in open water: OPEN, or opened before the reach run that holds it (R166). (Log entry 80 DEDUCED.) -/
def Loop.opened (l : Loop) : Bool := l.mode == 4 || (l.mode == 5 && (l.freeze || l.loss || l.probeOpen))

/-- The mode of a closed loop by its light: UNLIT, SHADOWED or ACQUIRE (R161, R162). -/
def Dev.litMode (d : Dev) (i : Nat) : Nat := if d.litLines i = 0 then 0 else if d.shadowed i then 3 else 1

/-! ## Pending switches and planned states (R94, R108, R115) -/

/-- The instant a crossing is expected to execute at: its own, else its stamp while that can be met, else the
earliest. -/
def Dev.planAt (d : Dev) (x : Xing) : Nat :=
  if x.instant ≠ 0 then x.instant else max x.stamp (d.now + 8000)

/-- The switches of cell i that wait in crossing parts: instant, new state, berth value, whether loaded. -/
def Dev.waiting (d : Dev) (i : Nat) : List (Nat × Bool × Int × Bool) :=
  d.allXings.flatMap fun x => x.parts.flatMap fun p =>
    if p.done || p.blk != cellBlk i then [] else
    (p.cells.filter (fun c => c.1 == i)).map (fun c => (d.planAt x, c.2.1, c.2.2, p.ready))

/-- The state cell i will hold at instant t: that of its last waiting switch at or before t, else its present one. -/
def Dev.planned (d : Dev) (i t : Nat) : Bool :=
  ((d.waiting i).foldl (fun (a : Nat × Bool) w => if a.1 ≤ w.1 ∧ w.1 ≤ t then (w.1, w.2.1) else a)
    (0, (d.cell i).cross)).2

/-- What the idle berth of cell i is to hold: the value of its earliest loaded switch that waits, else the value of
the selected berth (R108, R109, R115). -/
def Dev.idleTarget (d : Dev) (i : Nat) : Int :=
  ((d.waiting i).foldl (fun (a : Option (Nat × Int)) w =>
    if !w.2.2.2 then a else
    match a with
    | some (t, v) => if w.1 < t then some (w.1, w.2.2.1) else some (t, v)
    | none => some (w.1, w.2.2.1)) none).elim ((d.cell i).selCode) (·.2)

/-- The idle berth of cell i loaded or reloaded, unless its reload after a switch is still owed (R25). -/
def Dev.loadIdle (d : Dev) (i : Nat) : Dev :=
  if (d.blk (cellBlk i)).reload.contains i then d
  else d.setCell i ((d.cell i).putIdle (d.idleTarget i))

/-- Parts that the berth sequencer of block b has room taken for: those that are ready (R108). -/
def Dev.partsIn (d : Dev) (b : Nat) : Nat :=
  d.allXings.foldl (fun n x => n + (x.parts.filter (fun p => p.blk == b && p.ready && !p.done)).length) 0

/-- Committed parts that the berth sequencer of block b holds (R136). -/
def Dev.committedIn (d : Dev) (b : Nat) : Nat :=
  d.allXings.foldl (fun n x =>
    if x.stage == .committed || x.stage == .flipped then n + (x.parts.filter (fun p => p.blk == b && !p.done)).length else n) 0

/-- XNG_STATUS.COMMITTED_MAX. -/
def Dev.committedMax (d : Dev) : Nat := (List.range 96).foldl (fun m b => max m (d.committedIn b)) 0

/-! ## Words that registers show (R55, R61, R63, R180, R181) -/

/-- FAB_CELL_STATE of cell i. -/
def Dev.cellStateW (d : Dev) (i : Nat) : Nat :=
  let c := d.cell i
  b2n c.cross + b2n c.selB * 2 + b2n (d.moored (cellBlk i)) * 4 + b2n c.parked * 8 + b2n (d.fixed i) * 16
    + b2n c.wearAdv * 32 + b2n c.worn * 64 + b2n c.drvSat * 128 + d.litLines i % 4 * 65536

/-- FAB_CELL_BERTH. -/
def Dev.cellBerthW (d : Dev) (i : Nat) : Nat := uns 16 (d.cell i).codeA + uns 16 (d.cell i).codeB * 65536

/-- AT_WIN: the trim in use sits at the window edge (R160). -/
def Dev.atWin (d : Dev) (i : Nat) : Bool :=
  let w := d.get (CAP_TRIM_WIN (cellBlk i))
  w != 0 && ((d.loop i).trim (d.cell i).cross).natAbs == w

/-- CAP_CELL_LOOP. -/
def Dev.cellLoopW (d : Dev) (i : Nat) : Nat :=
  let l := d.loop i
  l.mode % 8 + b2n l.priv * 8 + b2n (d.atWin i) * 16 + b2n l.freeze * 32 + b2n l.loss * 64 + b2n l.probeOpen * 128
    + b2n l.ovr * 256 + l.good % 2048 * 512

/-- CAP_CELL_TRIM. -/
def Dev.cellTrimW (d : Dev) (i : Nat) : Nat := uns 16 (d.loop i).trimB + uns 16 (d.loop i).trimC * 65536

/-- The cells of block b. -/
def blkCells (b : Nat) : List Nat := (List.range 144).map (fun j => b * 144 + j)

/-- FAB_BLK_STATUS. -/
def Dev.blkStatusW (d : Dev) (b : Nat) : Nat :=
  b2n (d.inService b) + b2n (d.moored b) * 2 + d.get (FAB_BLK_STATUS_PARKED b) * 4 + b2n (d.isolated b) * 8
    + ((blkCells b).filter (fun i => (d.cell i).wearAdv)).length * 16
    + ((blkCells b).filter (fun i => (d.cell i).worn)).length * 4096
    + d.get (FAB_BLK_STATUS_WEAR_LOST b) * 2 ^ 20

/-- CAP_BLK_STATUS. -/
def Dev.capStatusW (d : Dev) (b : Nat) : Nat :=
  d.get (CAP_BLK_STATUS_ADOPTING b) + d.get (CAP_BLK_STATUS_ADOPTED b) * 2 + d.get (CAP_BLK_STATUS_FAILED b) * 4
    + ((blkCells b).filter (fun i => (d.loop i).priv)).length * 8
    + ((blkCells b).filter (fun i => (d.loop i).mode == 4)).length * 512
    + ((blkCells b).filter (fun i => (d.loop i).mode == 3)).length * 2 ^ 17

/-- The reading of a probe entry is older than 100 us (R61). -/
def Dev.aged (d : Dev) (probe : Nat) : Bool :=
  match d.fab.readAt.get none probe with | some t => decide (t + 100000 < d.now) | none => false

/-- The word of a power register (R61): STALE shows the flag kept, an isolated reach (R35), or the age of the reading. -/
def Dev.powerW (d : Dev) (p f s o : Fld) (blk probe : Nat) : Nat :=
  d.get p + d.get f * 65536 + b2n (d.on s || d.isolated blk || d.aged probe) * 131072 + d.get o * 262144

/-- FAB_IN_POWER, FAB_OUT_POWER, FAB_DRAIN_POWER. -/
def Dev.inPowerW (d : Dev) (p : Nat) : Nat :=
  d.powerW (FAB_IN_POWER_POWER p) (FAB_IN_POWER_FLOOR p) (FAB_IN_POWER_STALE p) (FAB_IN_POWER_OVER p) (p / 16) (probeIn p)
def Dev.outPowerW (d : Dev) (o : Nat) : Nat :=
  d.powerW (FAB_OUT_POWER_POWER o) (FAB_OUT_POWER_FLOOR o) (FAB_OUT_POWER_STALE o) (FAB_OUT_POWER_OVER o) (64 + o / 16) (probeOut o)
def Dev.drainPowerW (d : Dev) (o : Nat) : Nat :=
  d.powerW (FAB_DRAIN_POWER_POWER o) (FAB_DRAIN_POWER_FLOOR o) (FAB_DRAIN_POWER_STALE o) (FAB_DRAIN_POWER_OVER o) (64 + o / 16)
    (probeDrain o)

/-- FAB_VOA_STATUS. -/
def Dev.voaW (d : Dev) (o : Nat) : Nat :=
  d.get (FAB_VOA_STATUS_ATTEN o) + d.get (FAB_VOA_STATUS_DARK o) * 65536 + d.get (FAB_VOA_STATUS_RB_ERR o) * 131072
    + b2n (d.outLit o) * 262144

/-- FAB_LAMP_MON: as above with GATE; a fixed word in middle and egress blocks (R63). -/
def Dev.lampMonW (d : Dev) (b : Nat) : Nat :=
  if b < 32 then
    d.powerW (FAB_LAMP_MON_POWER b) (FAB_LAMP_MON_FLOOR b) (FAB_LAMP_MON_STALE b) (FAB_LAMP_MON_OVER b) b (probeLamp b)
      + d.get (FAB_LAMP_MON_GATE b) * 524288
  else 0x18000

/-- The heaters of one group of reach n ask for so much, in uW (R26, R186): 0 those of cells that carry a STEADY ticket, 1 a MOVABLE
one, 2 a SURVEY one, 3 those of unlit cells. (Log entry 54 DESIGN CHOICE.) -/
def Dev.heaterGroup (d : Dev) (i : Nat) : Nat :=
  let l := d.through i
  if l.any (fun x => x.2.cls == 0) then 0 else if l.any (fun x => x.2.cls == 1) then 1 else if l.isEmpty then 3 else 2
def Dev.heaterAsk (d : Dev) (n g : Nat) : Nat :=
  (d.cal.ff.cells.map (fun (c : Nat × FF) => if c.1 / 1152 = n ∧ d.heaterGroup c.1 = g then c.2.htr else 0)).sum

/-- What the groups served before group g leave of the budget of reach n, in uW. -/
def Dev.heaterLeft (d : Dev) (n : Nat) : Nat → Nat
  | 0 => d.heaterBudget n * 10000
  | g + 1 => d.heaterLeft n g - d.heaterAsk n g

/-- The power a cell's trimmer runs at, in uW, as a fraction (R26, R186): HTR, or its share where its group can be served only in
part; off while no valid table is in force (R67). -/
def Dev.heaterPower (d : Dev) (i : Nat) : Nat × Nat :=
  let n := i / 1152
  let g := d.heaterGroup i
  let ask := d.heaterAsk n g
  let left := d.heaterLeft n g
  if !d.on CAL_STATUS_TABLES_VALID then (0, 1)
  else if ask ≤ left then ((d.ff i).htr, 1) else ((d.ff i).htr * left, ask)

/-- The heater requests of reach n exceed its budget, so that some are scaled (R26, R174). -/
def Dev.heaterScaled (d : Dev) (n : Nat) : Bool := (List.range 4).any (fun g => decide (d.heaterLeft n g < d.heaterAsk n g))

/-- The thermal request of block b is active: its reach's heaters are scaled, or its temperature is at the warning
limit (R174), or its reach has stayed at warning since a sensor of it was (R212). -/
def Dev.derating (d : Dev) (b : Nat) : Bool :=
  let t := d.get (THM_TEMP_REPORTED b)
  d.heaterScaled (blkReach b) || bit (d.get THM_STATUS_WARN_REACH) (blkReach b)
    || (t != 0x8000 && decide (sgn 16 (d.get THM_CFG_WARN) ≤ sgn 16 t))

/-- The drive code of the VOA of OUT(o) (R60, R188): zero drive at DARK, else its curve's at the commanded attenuation, linear in dB
between the curve's points. (Log entry 79 DESIGN CHOICE.) -/
def Dev.voaDrive (d : Dev) (o : Nat) : Int :=
  let c := d.cal.voa.get [] o
  let a := (d.outP o).cmdCode
  let at_ : Nat → Int := fun k => c.getD k 0
  if a = 0xFFFF then 0
  else if a ≤ 3000 then
    let k := min 5 (a / 500)
    nearest (at_ k * 500 + (at_ (k + 1) - at_ k) * ((a : Int) - 500 * k)) 500
  else nearest (at_ 6 * 1500 + (at_ 7 - at_ 6) * ((a : Int) - 3000)) 1500

/-- The lamp's tuning and power codes (R188): those of the word its owner has set, while it gives -3 dBm per feed. -/
def Dev.lampCodes (d : Dev) : Option (Nat × Nat) :=
  let l := d.fab.lamp
  let w := d.cal.lamp.getD l.wave 0
  if l.shine = .full then some (bits w 0 16, bits w 16 16) else none

/-- CAP_PORT_TARGET, CAP_PORT_LIMIT and CAP_PORT_STATUS. WINNER reads 0 while the output is DARK or carries no
circuit (R182). -/
def Dev.portTargetW (d : Dev) (o : Nat) : Nat := d.get (CAP_PORT_TARGET_TARGET o) + d.get (CAP_PORT_TARGET_RAMP o) * 65536
def Dev.portLimitW (d : Dev) (o : Nat) : Nat := d.get (CAP_PORT_LIMIT_CEIL o) + d.get (CAP_PORT_LIMIT_DERATE o) * 65536
def Dev.portWinner (d : Dev) (o : Nat) : Nat :=
  if d.on (FAB_VOA_STATUS_DARK o) || !d.outLit o then 0 else d.get (CAP_PORT_STATUS_WINNER o)
def Dev.portStatusW (d : Dev) (o : Nat) : Nat :=
  d.portWinner o + d.get (CAP_PORT_STATUS_RAMPING o) * 4 + b2n (d.derating (64 + o / 16)) * 8
    + d.get (CAP_PORT_STATUS_FB_LOST o) * 16 + d.get (CAP_PORT_STATUS_SETPOINT o) * 65536

end Sys2Proof.Machine
end

