-- ==== Sys2Proof/Machine/Tickets.lean ====
section
/-! DEFINITION. The ticket store: how a record changes, its causes, the port VOA and the loops that follow a circuit, ticket IDs and epochs, and the restoration list. -/

namespace Sys2Proof.Machine

/-! ## The privileged set (R163, R177) -/

/-- The reach of block b is calibrating: its run is RUNNING (R194). -/
def Dev.calibrating (d : Dev) (b : Nat) : Bool := d.reachState (blkReach b) == 2

/-- The group of cell i's claim for privilege: 1 a STEADY ticket in a calibrating reach, 2 a crossing committed into
it within the next 1 ms, 3 a switch within the last 50 us; 0 none. -/
def Dev.claimOf (d : Dev) (i : Nat) : Nat :=
  let cal := d.calibrating (cellBlk i)
  if cal && (d.through i).any (fun x => x.2.cls == 0) then 1
  else if cal && d.allXings.any (fun x => x.stage == .committed && decide (x.instant ≤ d.now + 1000000)
      && (x.makes.any (fun t => (d.tkt t).path.any (fun h => h.cell == i)) || x.parts.any (fun p => p.cells.any (fun c => c.1 == i))
        || (x.moves ++ x.restores).any (fun m => (hops (d.tkt m.1).ends m.2).any (fun h => h.cell == i)))) then 2
  else match (d.loop i).switched with
    | some t => if d.now < t + 50000 then 3 else 0
    | none => 0

/-- While a reach calibrates, every loop of a block that is not in the set and has no claim under (a) or (b) is HELD, but those of
parked cells (R166). -/
def Dev.holdLoops (d : Dev) (b : Nat) : Dev :=
  (blkCells b).foldl (fun d i =>
    let l := d.loop i
    if l.mode != 5 && l.mode != 6 && !l.priv && d.claimOf i != 1 && d.claimOf i != 2 then d.setLoop i (l.enter 5) else d) d

/-- A HELD loop runs again: in the mode of its light, ACQUIRE with no ratio yet where that is a loop's, OPEN where it was held in open
water (R161, R166). (Log entry 80 DEDUCED.) -/
def Dev.unhold (d : Dev) (i : Nat) : Dev :=
  let l := d.loop i
  if l.mode = 5 then d.setLoop i { l.enter (if l.opened then 4 else d.litMode i) with rValid := false, lockRun := 0 } else d

/-- HELD loops of block b whose cells have got a claim under (a) or (b) run again (R166). -/
def Dev.freeClaims (d : Dev) (b : Nat) : Dev :=
  (blkCells b).foldl (fun d i => if d.claimOf i = 1 ∨ d.claimOf i = 2 then d.unhold i else d) d

/-- The set of block b worked out afresh: members stay while their claim holds, free places go to claims in order of
group, last switch, stage and row. Empty while the block adopts or is adopted (R177). -/
def Dev.refreshPriv (d : Dev) (b : Nat) : Dev :=
  let d := if d.calibrating b then d.freeClaims b else d
  let p := if d.on (CAP_BLK_STATUS_ADOPTING b) || d.on (CAP_BLK_STATUS_ADOPTED b) then 0 else d.get (CAP_PRIV_BUDGET b)
  let cand := ((blkCells b).filter (fun i => (d.loop i).mode == 1 || (d.loop i).mode == 2)).filterMap
    (fun i => if d.claimOf i = 0 then none else some (d.claimOf i, (d.loop i).switched.getD 0, i))
  let stay := (cand.filter (fun c => (d.loop c.2.2).priv)).take p
  let rest := (cand.filter (fun c => !(d.loop c.2.2).priv)).mergeSort
    (fun a c => if a.1 ≠ c.1 then decide (a.1 < c.1) else if a.2.1 ≠ c.2.1 then decide (a.2.1 < c.2.1)
      else decide (a.2.2 ≤ c.2.2))
  let inSet := (stay ++ rest.take (p - stay.length)).map (·.2.2)
  let d := (blkCells b).foldl (fun d i =>
    if (d.loop i).priv = inSet.contains i then d else d.setLoop i { d.loop i with priv := inSet.contains i }) d
  if d.calibrating b then d.holdLoops b else d

/-- The sets of every block of a reach that calibrates, whose claims follow tickets and commits. -/
def Dev.refreshCal (d : Dev) : Dev := (List.range 96).foldl (fun d b => if d.calibrating b then d.refreshPriv b else d) d

/-! ## Loops and VOAs that follow a circuit (R60, R161, R165, R175) -/

/-- The loop of cell i after its lines may have become lit or unlit (R161, R162). -/
def Dev.relight (d : Dev) (i : Nat) : Dev :=
  let l := d.loop i
  if d.litLines i ≠ 0 then
    if l.mode = 0 then d.setLoop i { l.enter (d.litMode i) with rValid := false, lockRun := 0 } else d
  else if l.mode = 1 ∨ l.mode = 2 ∨ l.mode = 3 then
    let d := d.setLoop i (l.enter 0)
    if l.priv then d.refreshPriv (cellBlk i) else d
  else d

/-- Every cell of a list relit. -/
def Dev.relightAll (d : Dev) : List Nat → Dev
  | [] => d
  | i :: l => (d.relight i).relightAll l

/-- The VOA of OUT(o) driven to DARK (R60): zero drive, which its read-back shows; it is idle from here on (R320). -/
def Dev.darken (d : Dev) (o : Nat) : Dev :=
  let d := ((d.setB (FAB_VOA_STATUS_DARK o) true).set (FAB_VOA_STATUS_ATTEN o) 0xFFFF).setOutP o
    { d.outP o with cmdCode := 0xFFFF, rbCode := 0xFFFF }
  { d with ilk := { d.ilk with idle := d.ilk.idle.put false o true } }

/-- An attenuation in 0.01 dB applied to the VOA of OUT(o), unless a dark line holds it (R314). -/
def Dev.attenuate (d : Dev) (o a : Nat) : Dev :=
  if d.darkLine o then d else
  ((d.setB (FAB_VOA_STATUS_DARK o) false).set (FAB_VOA_STATUS_ATTEN o) a).setOutP o
    { d.outP o with cmdCode := a, rbCode := a }

/-- A_MAX, 30.00 dB (R171). -/
def aMax : Nat := 3000

/-- The VOA leaves DARK at A_MAX, its integrator following (R175). -/
def Dev.undark (d : Dev) (o : Nat) : Dev :=
  (d.attenuate o aMax).setGroup o { d.group o with applied := aMax, integ := aMax * 65536 }

/-- The ramp of R175 starts: S is taken from the first output-port reading at least 100 ns later. -/
def Dev.startRamp (d : Dev) (o : Nat) : Dev :=
  (d.setGroup o { d.group o with rampAt := some d.now }).setB (CAP_PORT_STATUS_RAMPING o) true

/-- The gate of LF(b) closed or opened (R59); without its circuit the monitor of a reach that calibrates is STALE again (R197). -/
def Dev.gate (d : Dev) (b : Nat) (on : Bool) : Dev :=
  let d := d.setB (FAB_LAMP_MON_GATE b) (on && !d.fab.lamp.off)
  if !on && d.calibrating b then d.setB (FAB_LAMP_MON_STALE b) true else d

/-! ## One record (R81, R90) -/

/-- The time counters carried to now: LIT_NS runs in LIT and DEGRADED, DEGR_NS in DEGRADED (R81). -/
def Ticket.settle (t : Ticket) (now : Nat) : Ticket :=
  { t with litNs := t.litNs + (if t.state = 3 ∨ t.state = 4 then now - t.settled else 0),
           degrNs := t.degrNs + (if t.state = 4 then now - t.settled else 0), settled := now }

/-- Two records agree in every field at 0x00-0x1F but VERSION. -/
def Ticket.sameHead (a b : Ticket) : Bool :=
  (List.range 8).all (fun w => a.word w == { b with version := a.version }.word w)

/-- A record changed: VERSION rises by one when a field at 0x00-0x1F changes (R81). -/
def Dev.updTkt (d : Dev) (t : Nat) (f : Ticket → Ticket) : Dev :=
  let a := (d.tkt t).settle d.now
  let b := f a
  d.putTkt t { b with version := if a.sameHead b then a.version else (a.version + 1) % 256 }

/-- The word at 4w of ticket t's record as a read finds it. -/
def Dev.tktWord (d : Dev) (t w : Nat) : Nat := ((d.tkt t).settle d.now).word w

/-- The CAUSE bits that hold for a ticket whose circuit is in place (R92); AWAIT_RESTORE is kept in the record, and LONG_OPEN
until the ticket is restored off its cell. (Log entry 16 DEDUCED.) -/
def Dev.causeOf (d : Dev) (t : Ticket) : Nat :=
  let cs := t.path
  let bs := if t.valid then t.blocks else []
  b2n (cs.any (fun h => (d.loop h.cell).opened))
    + b2n (bs.any (fun b => d.moored b || !d.inService b)) * 2
    + b2n (bs.any (fun b => d.isolated b || d.clockLost b)) * 4
    + b2n (cs.any (fun h => (d.cell h.cell).drvSat)) * 8
    + b2n (bit t.cause 4) * 16
    + b2n (bit t.cause 5 || cs.any (fun h => (d.cell h.cell).longOpen)) * 32

/-- LIT and DEGRADED follow the CAUSE bits, each change with its event (R90, R92, R221). -/
def Dev.recause (d : Dev) (t : Nat) : Dev :=
  let a := d.tkt t
  if a.inPlace then
    let c := d.causeOf a
    if a.state = 3 ∧ c ≠ 0 then
      (d.updTkt t (fun r => { r with cause := c, state := 4, degrEvents := min 65535 (r.degrEvents + 1) })).tktEvent t 4 0 c
    else if a.state = 4 ∧ c = 0 then (d.updTkt t (fun r => { r with cause := 0, state := 3 })).tktEvent t 5 0 0
    else if c = a.cause then d
    else d.updTkt t (fun r => { r with cause := c })
  else d

/-- Every ticket of a list. -/
def Dev.recauseAll (d : Dev) : List Nat → Dev
  | [] => d
  | t :: l => (d.recause t).recauseAll l

/-- Every ticket in place. -/
def Dev.refresh (d : Dev) : Dev := d.recauseAll (d.litTkts.map (·.1))

/-- AWAIT_RESTORE set or cleared in a ticket (R92, R98). -/
def Dev.awaitRestore (d : Dev) (t : Nat) (on : Bool) : Dev :=
  (d.updTkt t (fun r => { r with cause := putBit r.cause 4 on })).recause t

/-! ## Crossings that hold a ticket -/

/-- Ticket t taken out of every waiting crossing: its makes, restores, moves and breaks. A make that was committed
counts as withdrawn (R101, R113). -/
def Xing.without (x : Xing) (t : Nat) : Xing :=
  { x with makes := x.makes.erase t, unsolved := x.unsolved.erase t, breaks := x.breaks.erase t, room := x.room.erase t,
           moves := x.moves.filter (fun m => m.1 != t), restores := x.restores.filter (fun m => m.1 != t),
           withdrawn := if x.makes.contains t ∨ x.restores.any (fun m => m.1 == t) then x.withdrawn ++ [t] else x.withdrawn }

/-- Every crossing changed by one function. -/
def Dev.mapXings (d : Dev) (f : Xing → Xing) : Dev :=
  d.allXings.foldl (fun e x => e.setXing x.id (some (f x))) d

/-- Ticket t taken out of every waiting crossing and of the open restore crossing. -/
def Dev.forget (d : Dev) (t : Nat) : Dev :=
  let d := d.mapXings (fun x => x.without t)
  { d with tk := { d.tk with gather := d.tk.gather.filter (fun m => m.1 != t),
                             gMoves := d.tk.gMoves.filter (fun m => m.1 != t),
                             gBreaks := d.tk.gBreaks.erase t, gRoom := d.tk.gRoom.erase t } }

/-! ## The restoration list (R97, R98, R100) -/

/-- Order on the list: class (STEADY, MOVABLE), then PRIO high first, then EPOCH oldest first (R98). -/
def Ticket.before (a b : Ticket) : Bool :=
  if a.cls ≠ b.cls then decide (a.cls < b.cls)
  else if a.prio ≠ b.prio then decide (b.prio < a.prio)
  else decide (a.epoch ≤ b.epoch)

/-- The list sorted afresh, each ticket once. -/
def Dev.sortList (d : Dev) (l : List Nat) : List Nat :=
  l.eraseDups.mergeSort (fun a b => (d.tkt a).before (d.tkt b))

/-- CMD_STATUS.RESTORE_RUN: the list or the open restore crossing holds something. -/
def Dev.running (d : Dev) : Bool :=
  !d.tk.list.isEmpty || !d.tk.gather.isEmpty || !d.tk.gBreaks.isEmpty

/-- The list set. -/
def Dev.setList (d : Dev) (l : List Nat) : Dev :=
  let d := { d with tk := { d.tk with list := l } }
  d.setB CMD_STATUS_RESTORE_RUN d.running

/-- A ticket off the list: RESTORING clears (R98, R100). -/
def Dev.offList (d : Dev) (t : Nat) : Dev :=
  (d.updTkt t (fun r => { r with restoring := false })).setList (d.tk.list.erase t)

/-- RESTORING set on each ticket, AWAIT_RESTORE too where it is LIT or DEGRADED (R98). -/
def Dev.markRestoring (d : Dev) : List Nat → Dev
  | [] => d
  | t :: l =>
    let d := d.updTkt t (fun r => { r with restoring := true })
    (if (d.tkt t).state = 3 ∨ (d.tkt t).state = 4 then d.awaitRestore t true else d).markRestoring l

/-- A later return of capacity lists every STRANDED ticket with STRAND = NO_PATH (R97). -/
def Dev.capacity (d : Dev) : Dev :=
  let l := (d.allTkts.filter (fun x => x.2.state == 5 && x.2.strand == 1)).map (·.1)
  if l.isEmpty then d else (d.markRestoring l).setList (d.sortList (d.tk.list ++ l))

/-! ## Entering and leaving the states of R90 -/

/-- A ticket becomes FREE. Its record keeps what no rule clears; the lines it lit and its gate follow; with a reason,
the event of R91; capacity returns. (Log entry 15 DESIGN CHOICE.) -/
def Dev.freeTkt (d : Dev) (t reason : Nat) : Dev :=
  let a := d.tkt t
  let d := (d.forget t).updTkt t (fun r => { r with
    state := 0, committed := false, restoring := false, tableOwned := false, cause := 0, strand := 0, valid := false,
    brk := 0 })
  let d := if d.tk.list.contains t then d.setList (d.tk.list.erase t) else d
  let d := if a.srcLamp && a.inPlace then d.gate (a.src % 32) false else d
  let d := if a.state = 5 ∧ a.dstDrain = false ∧ d.outLit a.dst = false then d.darken a.dst else d
  let d := d.relightAll (a.path.map (·.cell))
  let d := if reason = 0 then d else d.tktEvent t 2 reason 0
  d.capacity

/-- A ticket becomes STRANDED, with its event (R90, R91). STRAND: 1 NO_PATH, 2 INTERLOCK, 3 PARK. -/
def Dev.strandTkt (d : Dev) (t strand : Nat) : Dev :=
  let a := d.tkt t
  let d := (d.forget t).updTkt t (fun r => { r with
    state := 5, strand, committed := false, restoring := false, cause := 0, brk := 0 })
  let d := if d.tk.list.contains t then d.setList (d.tk.list.erase t) else d
  let d := d.relightAll (a.path.map (·.cell))
  d.tktEvent t 1 strand 0

/-- A CLOSING ticket's break does not execute: it returns to what it was, or to DEGRADED with a cause (R90). -/
def Dev.reopenTkt (d : Dev) (t : Nat) : Dev :=
  let was := (d.tkt t).was
  if (d.tkt t).state = 6 then
    let c := d.causeOf (d.tkt t)
    let d := d.updTkt t (fun r => { r with state := if c ≠ 0 then 4 else 3, cause := c, brk := 0, committed := false,
                                           degrEvents := if c ≠ 0 then min 65535 (r.degrEvents + 1) else r.degrEvents })
    if c ≠ 0 ∧ was = 3 then d.tktEvent t 4 0 c else d
  else d

/-! ## Ticket IDs and epochs (R79, R84) -/

/-- IDs reserved by running tables (R123). -/
def Dev.reserved (d : Dev) : List Nat := (d.tide.runs.cells.filterMap (·.2)).flatMap (·.ids)

/-- The lowest FREE ID from 0 to 16,351 that no run has reserved. -/
def Dev.freeId (d : Dev) : Option Nat :=
  (List.range 16352).find? (fun t => (d.tkt t).state == 0 && !d.reserved.contains t)

/-- How many FREE IDs remain for makes. -/
def Dev.freeIds (d : Dev) : Nat :=
  16352 - ((d.allTkts.filter (fun x => decide (x.1 < 16352))).map (·.1) ++ d.reserved).eraseDups.length

/-- Epochs given afresh from 1 upward in the old order, those of running tables with them (R84). -/
def Dev.renumber (d : Dev) : Dev :=
  let runs := (List.range 4).filterMap (fun s => (d.run s).map (fun u => (s, u)))
  let l := ((d.allTkts.map (·.2.epoch) ++ runs.map (·.2.epoch)).mergeSort (fun a b => decide (a ≤ b))).eraseDups
  let new := fun e => l.idxOf e + 1
  let d := d.allTkts.foldl (fun (d : Dev) x => d.updTkt x.1 (fun r => { r with epoch := new r.epoch })) d
  let d := runs.foldl (fun (d : Dev) (x : Nat × Run) => d.setRun x.1 (some { x.2 with epoch := new x.2.epoch })) d
  let d := { d with tk := { d.tk with epoch := l.length + 1 } }
  (d.logL0 73 0 0 0 []).eventPf0 0x31 0

/-- The epoch of an admission drawn, the counter carried on. -/
def Dev.drawEpoch (d : Dev) : Dev :=
  let d := { d with tk := { d.tk with epoch := d.tk.epoch + 1 } }
  if 0xF0000000 ≤ d.tk.epoch then d.renumber else d

/-- A ticket enters ADMITTED with its epoch (R84, R90); the counters of its lease start at 0. (Log entry 15 DESIGN CHOICE.) -/
def Dev.admitTkt (d : Dev) (t : Nat) (r : Ticket) : Dev :=
  let e := d.tk.epoch
  (d.updTkt t (fun a => { r with
    state := 1, epoch := e, version := a.version, settled := d.now,
    inPwr := a.inPwr, outPwr := a.outPwr, pathLoss := a.pathLoss, voaAtt := a.voaAtt, stale := a.stale,
    floor := a.floor })).drawEpoch

/-- A route written into a ticket's record (R90). -/
def Dev.setRoute (d : Dev) (t : Nat) (r : Route) : Dev :=
  d.updTkt t (fun a => { a with mid := r.mid, ing := r.ing, midc := r.midc, egr := r.egr, valid := true })

end Sys2Proof.Machine
end

