-- ==== Sys2Proof/Machine/Solver.lean ====
section
/-! DEFINITION. The route solver (R93, R94): candidate paths, tiers, moves, and the refusal codes. -/

namespace Sys2Proof.Machine

/-- A circuit that holds cells in a solve: the ticket (none for a table's compiled step, R123), its class, whether R88
and R93 let the solver move or break it, its ends, its route and the path on it. -/
structure Claim where
  id      : Option Nat
  cls     : Nat
  movable : Bool
  prio    : Nat
  epoch   : Nat
  ends    : Ends
  mid     : Nat
  path    : List Hop
  deriving DecidableEq, Repr

/-- What one solve looks for: the class served, its ends, the make instant, the tickets left out of the pattern, and
how the second and third searches of R94 count STEADY holders and cells of isolated reaches. -/
structure Search where
  cls      : Nat
  ends     : Ends
  make     : Nat
  steadyOk : Bool
  isoFree  : Bool
  deriving DecidableEq, Repr

/-- What a solve answers: a route with the moves and SURVEY breaks it needs, or a status of R225. -/
inductive Solved where
  | route (r : Route) (moves : List (Nat × Route)) (room : List Nat)
  | refused (status : Nat)
  deriving DecidableEq, Repr

/-- The moves and restores that wait for a ticket: planned instant and new route. -/
def Dev.pendingRoutes (d : Dev) (u : Nat) : List (Nat × Route) :=
  (d.allXings.flatMap fun x =>
    ((x.moves ++ x.restores).filter (fun m => m.1 == u)).map (fun m => (d.planAt x, m.2)))
  ++ ((d.tk.gather ++ d.tk.gMoves).filter (fun m => m.1 == u)).map (fun m => (d.now + 8000, m.2))

/-- The routes ticket u stands on from instant t onward: its own until a waiting move at or before t, and the new
one. -/
def Dev.routesFrom (d : Dev) (u : Nat) (k : Ticket) (t : Nat) : List Route :=
  match d.pendingRoutes u with
  | [] => [k.route]
  | (ti, r) :: _ => if ti ≤ t then [r] else [k.route, r]

/-- A ticket holds its cells from instant t onward (R94): ROUTED, LIT, DEGRADED or STRANDED with a solved route, or
CLOSING with its break after t. -/
def Ticket.holds (k : Ticket) (t : Nat) : Bool :=
  k.valid && (k.state == 2 || k.state == 3 || k.state == 4 || k.state == 5
    || (k.state == 6 && (k.brk == 0 || decide (t < nearInst t k.brk))))

/-- Ticket u may be moved at instant t: it is not moved in the 1 ms before, nor does a move wait for it within 1 ms (R88). -/
def Dev.notMoved (d : Dev) (u t : Nat) : Bool :=
  (d.tkt u).lastMove.elim true (fun m => decide (m + 1000000 ≤ t))
    && (d.pendingRoutes u).all (fun m => decide (m.1 + 1000000 ≤ t ∨ t + 1000000 ≤ m.1))

/-- R88 and R93 let a solve for class cls move or break ticket u at instant t: a SURVEY one always; a MOVABLE circuit
in place for STEADY, or for MOVABLE under REARRANGE_MOVABLE, not moved in the preceding 1 ms; none that a crossing
already changes, and none of a running table. (Log entry 17 DEDUCED.) -/
def Dev.canMove (d : Dev) (cls t i : Nat) (u : Ticket) : Bool :=
  !u.tableOwned && !u.committed &&
    (if u.cls = 2 then u.state == 2 || u.state == 3 || u.state == 4
     else u.cls == 1 && (u.state == 3 || u.state == 4) && (cls == 0 || (cls == 1 && d.rearrange))
       && d.notMoved i t)

/-- The circuits that hold cells for a search, all tickets of out left aside. (Log entry 17 DEDUCED.) -/
def Dev.claims (d : Dev) (s : Search) (out : List Nat) : List Claim :=
  (d.allTkts.flatMap fun x =>
    let k := x.2
    if out.contains x.1 || !k.holds s.make then [] else
    (d.routesFrom x.1 k s.make).map fun r =>
      { id := some x.1, cls := k.cls, movable := d.canMove s.cls s.make x.1 k || (s.steadyOk && k.cls == 0), prio := k.prio,
        epoch := k.epoch, ends := k.ends, mid := r.mid, path := hops k.ends r })
  ++ ((d.tide.runs.cells.filterMap (·.2)).flatMap fun u =>
    if !u.active then [] else
    match d.table u.table with
    | none => []
    | some tb => tb.steps.flatMap fun st => st.circs.map fun c =>
        let e : Ends := { b := c.src / 16, p := c.src % 16, k := c.dst / 16, z := c.dst % 16 }
        { id := none, cls := tb.cls, movable := s.steadyOk && tb.cls == 0, prio := tb.prio, epoch := u.epoch, ends := e,
          mid := c.route.mid, path := hops e c.route })

/-- The cell is fixed for a search; the third search frees the cells of isolated reaches. -/
def Dev.fixedFor (d : Dev) (s : Search) (i : Nat) : Bool :=
  if s.isoFree && d.isolated (cellBlk i) then
    let b := cellBlk i
    !d.inService b || d.moored b || d.clockLost b || (d.cell i).worn || (d.cell i).failed
  else d.fixed i

/-- One cell needed in a state (R93): none where inadmissible, else its tier, whether it changes state, and the
claims in conflict. -/
def Dev.judge (d : Dev) (s : Search) (cl : List Claim) (h : Hop) : Option (Nat × Bool × List Claim) :=
  if d.lostCell h.cell || d.lostMid (cellBlk h.cell - 32) && isMiddle (cellBlk h.cell) then none else
  let now := d.planned h.cell s.make
  if d.fixedFor s h.cell && now != h.cross then none else
  let on := cl.filter (fun c => c.path.any (fun g => g.cell == h.cell))
  let against := on.filter (fun c => c.path.any (fun g => g.cell == h.cell && g.cross != h.cross))
  if against.isEmpty then
    some (if on.any (fun c => c.cls == 0) then 1 else 0, now != h.cross, [])
  else if on.all (fun c => c.movable) then
    some (if on.all (fun c => c.cls == 2) then 2 else 3, now != h.cross, against)
  else none

/-- The tier, the count of changing cells and the conflicts of a path in one block. -/
def Dev.judgePath (d : Dev) (s : Search) (cl : List Claim) : List Hop → Option (Nat × Nat × List Claim)
  | [] => some (0, 0, [])
  | h :: l =>
    match d.judge s cl h, d.judgePath s cl l with
    | some (t, f, k), some (t', n, k') => some (max t t', n + b2n f, k ++ k')
    | _, _ => none

/-- The choice of a block: lowest tier, then fewest cells changing state, then lowest c; none above tier cap. -/
def Dev.choose (d : Dev) (s : Search) (cl : List Claim) (cap b p z : Nat) : Option (Nat × Nat × Nat × List Claim) :=
  (List.range 16).foldl (fun best c =>
    match d.judgePath s cl (blockHops b p z c) with
    | none => best
    | some (t, n, k) =>
      if cap < t then best else
      match best with
      | none => some (t, n, c, k)
      | some (t0, n0, c0, k0) => if t < t0 ∨ (t = t0 ∧ n < n0) then some (t, n, c, k) else some (t0, n0, c0, k0)) none

/-- The claims on the lines of a candidate middle block (R45). -/
def lineHolders (cl : List Claim) (e : Ends) (m : Nat) : List Claim :=
  cl.filter (fun c => c.mid == m && (c.ends.b == e.b || c.ends.k == e.k))

/-- A middle block can be a candidate: in service, not held as a spare, not lost (R94). (Log entry 17 DEDUCED.) -/
def Dev.candidate (d : Dev) (m : Nat) : Bool :=
  d.inService (32 + m) && !d.on (MAN_BLK_CTL_SPARE_HELD (32 + m)) && !d.lostMid m

/-- One middle block tried: tier, changing cells, route and conflicts. -/
def Dev.tryMid (d : Dev) (s : Search) (cl : List Claim) (cap m : Nat) : Option (Nat × Nat × Route × List Claim) :=
  if !d.candidate m then none else
  let lh := lineHolders cl s.ends m
  if lh.any (fun c => !c.movable) || (cap < 2 && !lh.isEmpty) then none else
  match d.choose s cl cap s.ends.b s.ends.p m, d.choose s cl cap (32 + m) s.ends.b s.ends.k,
        d.choose s cl cap (64 + s.ends.k) m s.ends.z with
  | some (t1, n1, c1, k1), some (t2, n2, c2, k2), some (t3, n3, c3, k3) =>
    let tl := if lh.isEmpty then 0 else if lh.all (fun c => c.cls == 2) then 2 else 3
    some (max (max t1 t2) (max t3 tl), n1 + n2 + n3, { mid := m, ing := c1, midc := c2, egr := c3 },
      k1 ++ k2 ++ k3 ++ lh)
  | _, _, _ => none

/-- The tickets to be moved, MOVABLE before SURVEY, then PRIO high first, then EPOCH oldest first. -/
def Claim.before (a b : Claim) : Bool :=
  if a.cls ≠ b.cls then decide (a.cls < b.cls)
  else if a.prio ≠ b.prio then decide (b.prio < a.prio)
  else decide (a.epoch ≤ b.epoch)

/-- Each conflicting ticket re-solved in turn with tiers 0 and 1 only, placed holding what is placed: first in its own
middle block, then in order. None: a MOVABLE ticket finds no route; a STEADY one, in the second search, counts as broken (R96). -/
def Dev.relocate (d : Dev) (s : Search) (others : List Claim) :
    List Claim → List Claim → Option (List (Nat × Route) × List Nat)
  | _, [] => some ([], [])
  | placed, u :: l =>
    let su : Search := { s with cls := u.cls, ends := u.ends, steadyOk := false, isoFree := false }
    let ms := u.mid :: (List.range 32).filter (fun m => m != u.mid)
    let inPlace := (u.id.elim true (fun i => (d.tkt i).inPlace))
    match (if inPlace then ms.findSome? (fun m => d.tryMid su (others ++ placed) 1 m) else none) with
    | some (_, _, r, _) =>
      let c : Claim := { u with movable := false, mid := r.mid, path := hops u.ends r }
      match d.relocate s others (placed ++ [c]) l with
      | some (mv, rm) => some (((u.id.getD 0), r) :: mv, rm)
      | none => none
    | none =>
      if u.cls = 2 ∨ (s.steadyOk = true ∧ u.cls = 0) then
        match d.relocate s others placed l with
        | some (mv, rm) => some (mv, (u.id.getD 0) :: rm)
        | none => none
      else none

/-- A candidate middle block worked out whole: its ranking, its route, its moves and its breaks. -/
def Dev.workMid (d : Dev) (s : Search) (cl : List Claim) (m : Nat) :
    Option ((Nat × Nat × Nat × Nat × Nat) × Route × List (Nat × Route) × List Nat) :=
  match d.tryMid s cl 3 m with
  | none => none
  | some (t, n, r, k) =>
    let through := (cl.filter (fun c => c.mid == m && c.id.isSome)).length
    if t < 2 then some ((t, 0, n, through, m), r, [], []) else
    let us := k.eraseDups.mergeSort Claim.before
    let others := cl.filter (fun c => !us.any (fun u => u == c || (u.id.isSome && u.id == c.id)))
    let me : Claim := { id := none, cls := s.cls, movable := false, prio := 0, epoch := 0, ends := s.ends, mid := r.mid,
                        path := hops s.ends r }
    match d.relocate s others [me] us with
    | none => none
    | some (mv, rm) =>
      let hs := (me.path ++ mv.flatMap (fun x => (us.filter (fun u => u.id == some x.1)).flatMap (fun u => hops u.ends x.2))).map
        (fun h => (h.cell, h.cross))
      let n' := (hs.eraseDups.filter (fun h => d.planned h.1 s.make != h.2)).length
      if 8 < mv.length then none else some ((t, mv.length, n', through, m), r, mv, rm)

/-- The ranking of R94: lowest tier, fewest moved, fewest cells changing, fewest circuits through m, lowest m. -/
def rankLt (a b : Nat × Nat × Nat × Nat × Nat) : Bool :=
  if a.1 ≠ b.1 then decide (a.1 < b.1)
  else if a.2.1 ≠ b.2.1 then decide (a.2.1 < b.2.1)
  else if a.2.2.1 ≠ b.2.2.1 then decide (a.2.2.1 < b.2.2.1)
  else if a.2.2.2.1 ≠ b.2.2.2.1 then decide (a.2.2.2.1 < b.2.2.2.1)
  else decide (a.2.2.2.2 < b.2.2.2.2)

/-- One search over all middle blocks. (Log entry 17 DEDUCED.) -/
def Dev.search (d : Dev) (s : Search) (out : List Nat) : Option (Route × List (Nat × Route) × List Nat) :=
  let cl := d.claims s out
  ((List.range 32).foldl (fun best m =>
    match d.workMid s cl m with
    | none => best
    | some (k, r) =>
      match best with
      | none => some (k, r)
      | some (k0, r0) => if rankLt k k0 then some (k, r) else some (k0, r0)) none).map (·.2)

/-- The solve of R94 for a circuit, self left out of the pattern: REACH_ISOLATED (0x14) before any search where the
egress block's reach is isolated; else the first search, and the code that the further ones choose. -/
def Dev.solveFor (d : Dev) (cls : Nat) (e : Ends) (make : Nat) (self : List Nat) : Solved :=
  let s : Search := { cls, ends := e, make, steadyOk := false, isoFree := false }
  if d.isolated (64 + e.k) then .refused 0x14 else
  match d.search s self with
  | some (r, mv, rm) => .route r mv rm
  | none =>
    if (d.search { s with steadyOk := true } self).isSome then .refused 0x21
    else if (d.search { s with isoFree := true } self).isSome then .refused 0x14
    else .refused 0x20

/-- A route at tiers 0 and 1 that moves nothing, as table compilation wants it (R120). -/
def Dev.solveStill (d : Dev) (cls : Nat) (e : Ends) (make : Nat) (out : List Nat) (placed : List Claim) : Option Route :=
  let s : Search := { cls, ends := e, make, steadyOk := false, isoFree := false }
  let cl := d.claims s out ++ placed
  ((List.range 32).foldl (fun (best : Option ((Nat × Nat × Nat × Nat × Nat) × Route)) m =>
    match d.tryMid s cl 1 m with
    | none => best
    | some (t, n, r, _) =>
      let k := (t, 0, n, (cl.filter (fun c => c.mid == m)).length, m)
      match best with
      | none => some (k, r)
      | some (k0, r0) => if rankLt k k0 then some (k, r) else some (k0, r0)) none).map (·.2)

end Sys2Proof.Machine
end

