-- ==== Sys2Proof/Machine/Fabric.lean ====
section
/-! DEFINITION. How cells switch and blocks park, the privileged set, the lamp and reach runs that end early, and the crossing from its parts to its flip. -/

namespace Sys2Proof.Machine

/-! ## Cells (R19, R54, R74, R75, R115, R165) -/

/-- A value put in the selected berth: the driver output moves by the difference (R19), clamped (R54). -/
def Dev.writeSel (d : Dev) (i : Nat) (v : Int) : Dev := d.setCell i ((d.cell i).putSel (clampI codeMin codeMax v))

/-- One state change counted in the pending counter; at 65,535 it stops and WEAR_LOST is set (R75). -/
def Dev.countWear (d : Dev) (i : Nat) : Dev :=
  let c := d.cell i
  let d := d.setCell i { c with pend := min 65535 (c.pend + 1) }
  if 65535 ≤ c.pend + 1 then d.setB (FAB_BLK_STATUS_WEAR_LOST (cellBlk i)) true else d

/-- The selector of cell i switched onto its idle berth, which holds v for state st: a state change counts (R74). -/
def Dev.switchCell (d : Dev) (i : Nat) (st : Bool) (v : Int) : Dev :=
  let c := d.cell i
  let c' := { (c.putIdle v) with selB := !c.selB, cross := st, parked := false }
  let d := d.setCell i c'
  if c.cross = st then d else d.countWear i

/-- The loop of a cell at the instant it is switched (R165): OPEN stays, its new berth at ff of the new state; a lit cell goes to ACQUIRE or SHADOWED with
the integrator at the trim of the new state, an unlit one to UNLIT. -/
def Dev.loopSwitched (d : Dev) (i : Nat) : Dev :=
  let l := { d.loop i with switched := some d.now }
  let s := (d.cell i).cross
  if l.mode = 4 then (d.setLoop i l).writeSel i (d.ffVal i s) else
  let l := if s then { l with integC := l.trimC } else { l with integB := l.trimB }
  d.setLoop i { l.enter (d.litMode i) with rValid := false, lockRun := 0 }

/-- Every cell of a list. -/
def Dev.loopsSwitched (d : Dev) : List Nat → Dev
  | [] => d
  | i :: l => (d.loopSwitched i).loopsSwitched l

/-! ## The lamp and a reach run that aborts (R27, R59, R197, R199) -/

/-- The readings of reach n marked STALE, or fresh again (R197). -/
def Dev.staleReach (d : Dev) (n : Nat) (on : Bool) : Dev :=
  (List.range 128).foldl (fun d j =>
    if n < 4 then
      let d := d.setB (FAB_IN_POWER_STALE (n * 128 + j)) on
      if j < 8 && !(on && d.litTkts.any (fun x => x.2.srcLamp && x.2.src % 32 == n * 8 + j)) then
        d.setB (FAB_LAMP_MON_STALE (n * 8 + j)) on else d
    else if 8 ≤ n then d.setB (FAB_DRAIN_POWER_STALE ((n - 8) * 128 + j)) on
    else d) d

/-- Every HELD loop of reach n returns to ACQUIRE (R166), or to the mode of its light (R161); one held in open water to OPEN. (Log entry 80 DEDUCED.) -/
def Dev.releaseHeld (d : Dev) (n : Nat) : Dev :=
  (List.range 1152).foldl (fun d j => d.unhold (n * 1152 + j)) d

/-- What the lamp gives (R27); dark, THM_LAMP shows OFF and no power (R214). -/
def Dev.shine (d : Dev) (x : Shine) : Dev :=
  let d := (d.setLamp { d.fab.lamp with shine := x }).setB THM_LAMP_OFF (x == .dark)
  if x = .dark then d.set THM_LAMP_POWER 0x8000 else d

/-- The lamp returned: idle at its minimum power until the next grant (R27), unless it is off. -/
def Dev.releaseLamp (d : Dev) (n : Nat) : Dev :=
  let l := d.fab.lamp
  let d := d.setLamp { l with owner := if l.owner = some n then none else l.owner, queue := l.queue.erase n }
  if l.owner = some n ∧ l.shine ≠ .dark then d.shine .minimum else d

/-- A run of reach n is requested, of some cells alone or of all: it waits for the lamp, or is held as one further
run (R193). -/
def Dev.requestRun (d : Dev) (n : Nat) (only : Option (List Nat)) : Dev :=
  if !(List.range 8).any (fun j => d.inService (8 * n + j)) then d
  else if d.reachState n ≠ 0 then
    (d.setReachRun n { d.reachRun n with again := true }).set CAL_REACH_REQ (putBit (d.get CAL_REACH_REQ) n true)
  else
    let l := d.fab.lamp
    ((d.setReachState n 1).setReachRun n { reachRun0 with only }).setLamp { l with queue := if l.queue.contains n then l.queue else l.queue ++ [n] }

/-- The run of reach n is over: the reach goes IDLE, and a further run held meanwhile is requested (R193, R194). -/
def Dev.runOver (d : Dev) (n : Nat) : Dev :=
  let again := (d.reachRun n).again
  let d := ((d.setReachState n 0).setReachRun n reachRun0).set CAL_REACH_REQ (putBit (d.get CAL_REACH_REQ) n false)
  if again then d.requestRun n none else d

/-- The tickets of the lamp circuits, which only the reach owning the lamp places. -/
def Dev.lampTkts (d : Dev) : List Nat := (d.allTkts.filter (fun x => x.2.srcLamp)).map (·.1)

/-- A lamp circuit broken to make room leaves its cells of the reach to a further run (R96, R195). -/
def Dev.lampLost (d : Dev) (t : Nat) : Dev :=
  match (d.tkt t).srcLamp, d.fab.lamp.owner with
  | true, some n =>
    let r := d.reachRun n
    d.setReachRun n { r with lost := r.lost ++ ((d.tkt t).path.map (fun h => h.cell)).filter (fun i => i / 1152 == n) }
  | _, _ => d

/-- A running reach's run aborted (R199): new entries discarded, lamp circuits broken, the lamp released, ABORTED set,
CAL_ABORT logged at L0; the reach goes IDLE. A PENDING reach waits on. (Log entry 27 DEDUCED.) -/
def Dev.abortRun (d : Dev) (n : Nat) : Dev :=
  if d.reachState n = 2 then
    let d := d.lampTkts.foldl (fun d t => d.freeTkt t 0) d
    let d := (d.releaseLamp n).setB (CAL_RCH_CELLS_ABORTED n) true
    let d := ((d.runOver n).staleReach n false).releaseHeld n
    d.logL0 39 4 n 0 []
  else d

/-! ## Parking (R65, R66, R67) -/

/-- The park value of a cell: feed-forward for its park state from the tables in force. -/
def Dev.parkVal (d : Dev) (i : Nat) : Int := d.ffVal i (parkState i)

/-- The park decision for blocks: lamp off, gates closed, VOAs of egress blocks to DARK, idle berths loaded. (Log entry 27 DEDUCED.) -/
def Dev.startPark (d : Dev) (l : List Nat) : Dev :=
  let d := d.shine .dark
  let d := (l.map blkReach).eraseDups.foldl (fun d n => d.recEvent n 6 0) d
  l.foldl (fun d b =>
    let d := if isIngress b then d.gate b false else d
    let d := if isEgress b then (List.range 16).foldl (fun d j => d.darken ((b - 64) * 16 + j)) d else d
    let d := (blkCells b).foldl (fun d i => d.setCell i ((d.cell i).putIdle (d.parkVal i))) d
    d.setBlk b { d.blk b with parking := some d.now }) d

/-- An instant at which cells switch, told to the recorders of their reaches: the blocks, each with how many of its cells do (R432). (Log entry 48 DESIGN CHOICE.) -/
def Dev.recSwitch (d : Dev) (l : List (Nat × Nat)) : Dev :=
  (List.range 12).foldl (fun d n =>
    let q := l.filter (fun x => blkReach x.1 == n)
    if q.isEmpty then d else d.recEvent n 1 ((q.map (fun x => 2 ^ (x.1 % 8))).sum + (q.map (·.2)).sum * 256)) d

/-- The blocks of parts, with their switched cells. -/
def switches (ps : List Part) : List (Nat × Nat) := ps.map (fun p => (p.blk, p.cells.length))

/-- All selectors of the parking blocks switched: every cell PARKED, port loops stopped (R66, R167). -/
def Dev.switchPark (d : Dev) (l : List Nat) : Dev :=
  l.foldl (fun d b =>
    let d := (blkCells b).foldl (fun d i =>
      let d := d.switchCell i (parkState i) (d.parkVal i)
      let d := d.setCell i { d.cell i with parked := true, drvSat := false }
      d.setLoop i { (d.loop i).enter 6 with priv := false, rValid := false, switched := some d.now }) d
    let d := d.setB (FAB_BLK_STATUS_PARKED b) true
    d.setBlk b { d.blk b with parking := none, reload := [] }) (d.recSwitch (l.map (fun b => (b, 144))))

/-! ## Crossings: parts, commit, withdrawal (R103-R116) -/

/-- A new crossing with the next number. -/
def Dev.addXing (d : Dev) (x : Xing) : Dev :=
  let n := d.cmd.nextX
  { (d.setXing n (some { x with id := n })) with cmd := { (d.setXing n (some { x with id := n })).cmd with nextX := n + 1 } }

/-- A crossing that holds nothing yet. -/
def xing0 (k : XKind) : Xing :=
  { id := 0, kind := k, stage := .solve, asap := true, stamp := 0, instant := 0, makes := [], unsolved := [], breaks := [],
    room := [], moves := [], restores := [], parts := [], withdrawn := [], gone := [], byPf0 := false, flips := 0 }

/-- The paths a crossing lights, of its makes, moves and restores. -/
def Dev.newPaths (d : Dev) (x : Xing) : List Hop :=
  x.makes.flatMap (fun t => (d.tkt t).path) ++ (x.moves ++ x.restores).flatMap (fun m => hops (d.tkt m.1).ends m.2)

/-- The cells a crossing switches, with their new states and berth values (stage 4 of R107), block by block. -/
def Dev.partsOf (d : Dev) (x : Xing) : List Part :=
  let t := d.planAt x
  let hs := ((d.newPaths x).map (fun h => (h.cell, h.cross))).eraseDups.filter (fun h => d.planned h.1 t != h.2)
  let bs := (hs.map (fun h => cellBlk h.1)).eraseDups.mergeSort (fun a b => decide (a ≤ b))
  bs.map fun b =>
    { blk := b, cells := (hs.filter (fun h => cellBlk h.1 == b)).map (fun h => (h.1, h.2, d.berthVal h.1 h.2)),
      ready := false, held := false, done := false }

/-- The outputs a crossing lights, and those it breaks, customer outputs only. -/
def Dev.litOuts (d : Dev) (x : Xing) : List Nat :=
  (x.makes ++ (x.moves ++ x.restores).map (·.1)).filterMap (fun t =>
    if (d.tkt t).dstDrain then none else some (d.tkt t).dst)
def Dev.brokenOuts (d : Dev) (x : Xing) : List Nat :=
  (x.breaks ++ x.room).filterMap (fun t => if (d.tkt t).dstDrain then none else some (d.tkt t).dst)

/-- Stage 4 of a crossing begins (R107): its berth values are those of the tables, temperatures and trims of this moment (R198,
R211), its cell state changes are counted (R231). -/
def Dev.startCompute (d : Dev) (x : Xing) : Dev :=
  let d := d.setXing x.id (some { x with parts := [] })
  let ps := d.partsOf { x with parts := [] }
  d.setXing x.id (some { x with stage := .compute, parts := ps, flips := (ps.map (fun p => p.cells.length)).sum })

/-- The parts of a crossing that has passed stage 4 worked out afresh for the routes its tickets have now: a block with the same part
as before keeps its readiness. -/
def Dev.repart (d : Dev) (x : Xing) : Dev :=
  if x.stage != .compute && x.stage != .distribute then d.setXing x.id (some x) else
  let d := d.setXing x.id (some { x with parts := [] })
  let ps := (d.partsOf { x with parts := [] }).map (fun p =>
    { p with ready := x.parts.any (fun q => q.blk == p.blk && q.ready && q.cells == p.cells) })
  (d.setXing x.id (some { x with parts := ps, flips := (ps.map (fun p => p.cells.length)).sum }))

/-- A make or break needs a cell or port VOA of an isolated reach to change (R106); a safety break is never refused for it (R314). -/
def Dev.needsIsolated (d : Dev) (x : Xing) : Bool :=
  (match x.kind with | .safety _ => false | _ => true) && (x.parts.any (fun p => d.isolated p.blk)
    || (d.litOuts x ++ d.brokenOuts x).any (fun o => d.isolated (64 + o / 16)))

/-- The instants of other committed or executed switches of the cells a crossing switches (R112). -/
def Dev.otherSwitches (d : Dev) (x : Xing) : List Nat :=
  x.parts.flatMap fun p => p.cells.flatMap fun c =>
    (d.loop c.1).switched.toList ++ d.allXings.flatMap (fun y =>
      if y.id == x.id || y.stage != .committed then [] else
      if y.parts.any (fun q => !q.done && q.cells.any (fun e => e.1 == c.1)) then [y.instant] else [])

/-- Two instants lie less than 1.000 us apart. -/
def tooClose (a b : Nat) : Bool := decide (a < b + 1000 ∧ b < a + 1000)

/-- The first instant at or after t that meets the spacing of R112; n bounds the search by the switches to avoid. -/
def spaced (l : List Nat) : Nat → Nat → Nat
  | 0, t => t
  | n + 1, t =>
    match l.filter (tooClose t) with
    | [] => t
    | s :: r => spaced l n (r.foldl max s + 1000)

/-- The crossing committed for an instant: COMMITTED set and the instants written in its tickets (R81, R108, R109). -/
def Dev.commitAt (d : Dev) (x : Xing) (t : Nat) : Dev :=
  let d := if t ≠ x.stamp then d.inc XNG_CNT_ASAP else d
  let x := { x with stage := .committed, instant := t, parts := x.parts.map (fun p => { p with ready := true }) }
  let d := d.setXing x.id (some x)
  let d := x.makes.foldl (fun d u => d.updTkt u (fun r => { r with committed := true, make := stampOf t })) d
  let d := (x.breaks ++ x.room).foldl (fun d u => d.updTkt u (fun r => { r with committed := true, brk := stampOf t })) d
  ((x.moves ++ x.restores).foldl (fun d u => d.updTkt u.1 (fun r => { r with committed := true })) d).refreshCal

/-- The idle berths of a crossing's cells loaded, or reloaded after it has gone (R109, R115). -/
def Dev.loadParts (d : Dev) (ps : List Part) : Dev :=
  ps.foldl (fun d p => p.cells.foldl (fun d c => d.loadIdle c.1) d) d

/-- The earliest instant a crossing can be committed for now, spacing kept (R109, R112). -/
def Dev.earliest (d : Dev) (x : Xing) : Nat :=
  let l := d.otherSwitches x
  spaced l (l.length + 1) (max x.stamp (d.now + 8000))

/-- Tickets whose restore crossing has not gone join the restoration list again (R98). -/
def Dev.relist (d : Dev) (l : List Nat) : Dev :=
  if l.isEmpty then d else (d.markRestoring l).setList (d.sortList (d.tk.list ++ l))

/-- A crossing taken out of every stage and block it has reached: idle berths reloaded, makes FREE, those of a STRANDED ticket's
retry STRANDED again, a make that re-entered to be solved again, breaks back to what they were, moves not made, restores to be solved again (R90, R98, R109, R111). -/
def Dev.dropXing (d : Dev) (x : Xing) : Dev :=
  let d := (d.setXing x.id none).loadParts x.parts
  let d := if x.kind = .remake then d.relist x.makes
    else x.makes.foldl (fun d t => if (d.tkt t).restoring then d.strandTkt t 1 else d.freeTkt t 0) d
  let d := d.relist (x.restores.map (·.1))
  let d := (x.breaks ++ x.room).foldl (fun d t => d.reopenTkt t) d
  let d := (x.breaks ++ x.room ++ (x.moves ++ x.restores).map (·.1)).foldl
    (fun d t => d.updTkt t (fun r => { r with committed := false, brk := 0 })) d
  { d with cmd := { d.cmd with ready := ⟨d.cmd.ready.cells.map (fun c => (c.1, c.2.erase (.xing x.id)))⟩ } }

/-! ## The flip (R60, R88, R90, R98, R115, R116) -/

/-- A part cannot execute at its instant: the idle berth of a switched cell does not hold its value, its reload being still owed
(R116); or its drivers hold, their reach without a clock (R37) or their block moored (R38). (Log entry 77 DEDUCED.) -/
def Dev.notLoaded (d : Dev) (p : Part) : Bool :=
  d.clockLost p.blk || d.moored p.blk || p.cells.any (fun c => (d.blk p.blk).reload.contains c.1)

/-- A ticket of a crossing passes a block, by its record or by its new route. -/
def Dev.passes (d : Dev) (x : Xing) (t b : Nat) : Bool :=
  (d.tkt t).blocks.contains b
    || (x.moves ++ x.restores).any (fun m => m.1 == t && { (d.tkt t) with mid := m.2.mid }.blocks.contains b)

/-- Every selector of a part switched; its cells then await their reload. -/
def Dev.switchPart (d : Dev) (p : Part) : Dev :=
  let d := p.cells.foldl (fun d c => d.switchCell c.1 c.2.1 c.2.2) d
  d.setBlk p.blk { d.blk p.blk with reload := (d.blk p.blk).reload ++ p.cells.map (·.1), reloadAt := d.now }

/-- The cells of a lamp circuit that the run it serves can sweep (R195): those of its reach. -/
def Dev.lampReached (d : Dev) (t : Nat) : Dev :=
  match d.fab.lamp.owner with
  | some n =>
    let r := d.reachRun n
    d.setReachRun n { r with reached := (r.reached ++ ((d.tkt t).path.map (fun h => h.cell)).filter (fun i => i / 1152 == n)).eraseDups }
  | none => d

/-- A make takes effect: LIT, its VOA or its gate follows (R60, R59, R90). -/
def Dev.lightTkt (d : Dev) (t : Nat) : Dev :=
  let k := d.tkt t
  let d := d.updTkt t (fun r => { r with state := 3, committed := false, cause := 0, strand := 0 })
  let d := d.relightAll (k.path.map (·.cell))
  let d := if k.srcLamp then (d.gate (k.src % 32) true).lampReached t else d
  if k.dstDrain then d else
  let d := d.setOutP k.dst { d.outP k.dst with lossDark := none }
  (if d.on (FAB_VOA_STATUS_DARK k.dst) then d.undark k.dst else d).startRamp k.dst

/-- A break takes effect: the ticket FREE, or STRANDED by a safety break. The output is DARK unless a circuit is made
on it at the same instant; a safety break cannot reach the VOA of an isolated reach (R314). -/
def Dev.breakTkt (d : Dev) (x : Xing) (t reason : Nat) : Dev :=
  let k := d.tkt t
  let far := match x.kind with | .safety _ => d.isolated (64 + k.dst / 16) && !d.darkLine k.dst | _ => false
  let d := if k.dstDrain || (d.litOuts x).contains k.dst || far then d else d.darken k.dst
  match x.kind with
  | .safety r => d.strandTkt t r
  | _ => if k.state = 5 then d.updTkt t (fun r => { r with committed := false }) else d.freeTkt t reason

/-- A move or a restore takes effect: the ticket on its new route, its old cells unlit (R88, R98). -/
def Dev.reroute (d : Dev) (t : Nat) (r : Route) : Dev :=
  let old := (d.tkt t).path
  let off := !(hops (d.tkt t).ends r).any (fun h => (d.cell h.cell).longOpen)
  let d := (d.setRoute t r).updTkt t (fun k => { k with committed := false, cause := if off then putBit k.cause 5 false else k.cause })
  let d := if (d.tkt t).srcLamp then d.gate ((d.tkt t).src % 32) true else d
  let o := (d.tkt t).dst
  let d := if (d.tkt t).dstDrain = false ∧ (d.outP o).lossDark = some t then
      ((d.setOutP o { d.outP o with lossDark := none }).undark o).startRamp o else d
  d.relightAll ((old ++ (d.tkt t).path).map (·.cell))

/-- The gates of a crossing's lamp circuits closed before any of their cells changes (R59). -/
def Dev.closeGates (d : Dev) (l : List Nat) : Dev :=
  l.foldl (fun d t => if (d.tkt t).srcLamp then d.gate ((d.tkt t).src % 32) false else d) d

/-- The tickets of a crossing changed, those that skip picks left for later: makes, breaks, moves, restores. The
reason a break's owner is told is 4 OPERATOR where PF0 breaks another function's ticket (R219). -/
def Dev.applyTkts (d : Dev) (x : Xing) (skip : Nat → Bool) : Dev :=
  let d := (x.breaks.filter (fun t => !skip t)).foldl
    (fun d t => d.breakTkt x t (if x.byPf0 && (d.tkt t).tenant != 0 then 4 else 0)) d
  let d := (x.room.filter (fun t => !skip t)).foldl (fun d t => (d.lampLost t).breakTkt x t 5) d
  let d := (x.moves.filter (fun m => !skip m.1)).foldl (fun d m =>
    let d := (d.reroute m.1 m.2).updTkt m.1 (fun k => { k with hits := min 65535 (k.hits + 1), lastMove := some d.now })
    (d.tktEvent m.1 3 0 (d.tkt m.1).hits).recause m.1) d
  let d := (x.restores.filter (fun m => !skip m.1)).foldl (fun d m =>
    let d := (d.reroute m.1 m.2).updTkt m.1 (fun k => { k with restoring := false })
    (d.awaitRestore m.1 false).tktEvent m.1 6 0 0) d
  (x.makes.filter (fun t => !skip t)).foldl (fun d t =>
    let restored := (d.tkt t).restoring
    let d := (d.updTkt t (fun k => { k with restoring := false })).lightTkt t
    let d := if restored then d.tktEvent t 6 0 0 else d
    d.recause t) d

/-- Every ticket that a crossing makes, breaks, moves or restores. -/
def Xing.tickets (x : Xing) : List Nat := x.makes ++ x.breaks ++ x.room ++ (x.moves ++ x.restores).map (·.1)

/-- The customer outputs of tickets. -/
def Dev.custOuts (d : Dev) (l : List Nat) : List Nat := l.filterMap (fun t => if (d.tkt t).dstDrain then none else some (d.tkt t).dst)

/-- The instant of a crossing (R115, R116): parts that cannot execute are held back, the outputs of the tickets that pass them
DARK, each of those tickets' owners told (R106); every other part switches, and the tickets of the crossing change. The code of that
event is a free value. (Log entry 81 DESIGN CHOICE.) -/
def Dev.flip (d : Dev) (x : Xing) : Dev :=
  let held := x.parts.filter (fun p => d.notLoaded p)
  let go := x.parts.filter (fun p => !d.notLoaded p)
  let skip := fun t => held.any (fun p => d.passes x t p.blk)
  let d := d.closeGates (x.room ++ x.breaks ++ x.moves.map (·.1))
  let d := (go.foldl (fun d p => d.switchPart p) d).recSwitch (switches go)
  let d := held.foldl (fun d _ => d.inc XNG_CNT_HELDBACK) d
  let late := x.tickets.filter skip
  let d := (d.custOuts late).foldl (fun d o => (d.darken o).setOutP o { (d.darken o).outP o with heldDark := some x.id }) d
  let d := late.foldl (fun d t => d.useFresh.tktEvent t (Config.freeNat d.fresh % 256) 0 0) d
  let d := d.applyTkts x skip
  let d := d.loopsSwitched (go.flatMap (fun p => p.cells.map (·.1)))
  let d := ((go.map (·.blk)).foldl (fun d b => d.refreshPriv b) d).refreshCal
  if held.isEmpty then d.setXing x.id none
  else d.setXing x.id (some { x with
    stage := .flipped,
    makes := x.makes.filter skip, breaks := x.breaks.filter skip, room := x.room.filter skip,
    moves := x.moves.filter (fun m => skip m.1), restores := x.restores.filter (fun m => skip m.1),
    parts := held.map (fun p => { p with held := true }) })

/-- A held-back part executes (R116): its selectors switch; once no part of the crossing is held its tickets change
and its outputs return under R60. -/
def Dev.flipHeld (d : Dev) (x : Xing) (p : Part) : Dev :=
  let d := ((d.switchPart p).recSwitch (switches [p])).loopsSwitched (p.cells.map (·.1))
  let x := { x with parts := x.parts.filter (fun q => q.blk != p.blk) }
  let skip := fun t => x.parts.any (fun q => d.passes x t q.blk)
  let outs := d.custOuts (x.tickets.filter (fun t => !skip t))
  let d := outs.foldl (fun d o => d.setOutP o { d.outP o with heldDark := none }) d
  let d := d.applyTkts x skip
  let d := (outs.filter (fun o => d.outLit o && d.on (FAB_VOA_STATUS_DARK o))).foldl (fun d o => (d.undark o).startRamp o) d
  let d := (d.refreshPriv p.blk).refreshCal
  if x.parts.isEmpty then d.setXing x.id none
  else d.setXing x.id (some { x with
    makes := x.makes.filter skip, breaks := x.breaks.filter skip, room := x.room.filter skip,
    moves := x.moves.filter (fun m => skip m.1), restores := x.restores.filter (fun m => skip m.1) })

end Sys2Proof.Machine
end

