-- ==== Sys2Proof/Machine/Lost.lean ====
section
/-! DEFINITION. Lost units and what follows: withdrawn makes, the restoration list, tables that go HELD, blocks that leave service, spares (R97-R102, R113, R127, R242, R243). -/

namespace Sys2Proof.Machine

/-! ## Tables that go HELD (R127, R129) -/

/-- A running table goes HELD: no further step is committed; the owner and PF0 are told. -/
def Dev.holdTable (d : Dev) (s : Nat) (noResume : Bool) : Dev :=
  match d.run s with
  | none => d
  | some u =>
    if !u.active || u.held then d else
    let d := d.setRun s (some { u with held := true, noResume := u.noResume || noResume })
    let d := (d.set (TID_TBL_STATUS_STATE u.table) 5).setB (TID_RUN_STATUS_HELD s) true
    d.tblEvent u.table (match d.table u.table with | some t => t.owner | none => 0) 0x11

/-- The ends and the path of a compiled circuit. -/
def Circ.ends (c : Circ) : Ends := { b := c.src / 16, p := c.src % 16, k := c.dst / 16, z := c.dst % 16 }
def Circ.path (c : Circ) : List Hop := hops c.ends c.route

/-- A compiled circuit uses one of the lost cells or middle blocks. -/
def Circ.uses (c : Circ) (cells mids : List Nat) : Bool :=
  mids.contains c.route.mid || c.path.any (fun h => cells.contains h.cell)

/-- A compiled step of a table uses one of the lost cells or middle blocks. -/
def Table.uses (t : Table) (cells mids : List Nat) : Bool := t.steps.any fun st => st.circs.any fun c => c.uses cells mids

/-- Every running table that uses a lost unit goes HELD (R127). -/
def Dev.holdTables (d : Dev) (cells mids : List Nat) : Dev :=
  (List.range 4).foldl (fun d s =>
    match d.run s with
    | none => d
    | some u =>
      match d.table u.table with
      | none => d
      | some t => if t.uses cells mids then d.holdTable s false else d) d

/-! ## Withdrawal of committed makes (R101, R113) -/

/-- A withdrawal reaches block b at least 1 us before an instant, by the time of its reach (R101). -/
def Dev.inTime (d : Dev) (t b : Nat) : Bool := decide (d.nowIn (blkReach b) + 1000 ≤ t)

/-- The circuits of the step that a crossing is, those withdrawn left out. -/
def Dev.stepCircs (d : Dev) (x : Xing) : List Circ :=
  match x.kind with
  | .step n k =>
    (match (d.table n).bind (fun t => t.steps[k]?) with
      | some st => st.circs.filter (fun c => !x.gone.contains (c.src, c.dst))
      | none => [])
  | _ => []

/-- The paths that a crossing's remaining circuits need. -/
def Dev.keptPaths (d : Dev) (x : Xing) : List Hop :=
  match x.kind with
  | .step _ _ => (d.stepCircs x).flatMap Circ.path
  | _ => d.newPaths x

/-- A crossing's parts, those of the blocks reached in time without the cells that none of its remaining circuits needs. -/
def Dev.trimParts (d : Dev) (x : Xing) : Xing :=
  let hs := d.keptPaths x
  let keep := fun (c : Nat × Bool × Int) => hs.any (fun h => h.cell == c.1 && h.cross == c.2.1)
  let ps := x.parts.map (fun p => if d.inTime x.instant p.blk then { p with cells := p.cells.filter keep } else p)
  { x with parts := ps.filter (fun p => !p.cells.isEmpty) }

/-- The customer output of ticket t held DARK from detection (R101). -/
def Dev.lossDarken (d : Dev) (t : Nat) : Dev :=
  let o := (d.tkt t).dst
  if (d.tkt t).dstDrain then d else (d.darken o).setOutP o { d.outP o with cmdCode := 0xFFFF, rbCode := 0xFFFF, lossDark := some t }

/-- The make or restore of ticket t withdrawn from a committed crossing that has not executed: the blocks reached at least 1 us ahead
drop its cells, the others switch them (R101). -/
def Dev.withdraw (d : Dev) (t : Nat) : Dev :=
  d.allXings.foldl (fun d x =>
    if x.stage != .committed || !(x.makes.contains t || x.restores.any (fun m => m.1 == t)) then d else
    let y := x.without t
    let y := match x.kind with | .step _ _ => { y with gone := y.gone ++ [((d.tkt t).src, (d.tkt t).dst)] } | _ => y
    let d := d.updTkt t (fun r => { r with committed := false })
    (d.setXing x.id (some (d.trimParts y))).loadParts x.parts) d

/-- The restore of ticket t taken out of a crossing that is not committed yet: it is solved again (R100). -/
def Dev.unrestore (d : Dev) (t : Nat) : Dev :=
  d.allXings.foldl (fun d x =>
    if x.stage == .committed || x.stage == .flipped || !x.restores.any (fun m => m.1 == t) then d else
    (d.repart { x with restores := x.restores.filter (fun m => m.1 != t) }).loadParts x.parts) d

/-- The circuits through lost units withdrawn from committed steps whose tickets are not formed yet (R113, R127). -/
def Dev.withdrawSteps (d : Dev) (cells mids : List Nat) : Dev :=
  d.allXings.foldl (fun d x =>
    if x.stage != .committed || !x.makes.isEmpty then d else
    let l := (d.stepCircs x).filter (fun c => c.uses cells mids)
    if l.isEmpty then d else
    (d.setXing x.id (some (d.trimParts { x with gone := x.gone ++ l.map (fun c => (c.src, c.dst)) }))).loadParts x.parts) d

/-- The ticket cannot be rerouted: its ingress or egress block is out of service, or that block's reach is isolated or
without a clock (R37, R102). -/
def Dev.stuck (d : Dev) (k : Ticket) : Bool :=
  let bs := [k.ends.b, 64 + k.ends.k]
  bs.any (fun b => !d.inService b || d.isolated b || d.clockLost b)

/-- The ticket's route, or a restore or move that waits for it, uses a lost unit. -/
def Dev.usesLost (d : Dev) (t : Nat) (k : Ticket) (cells mids : List Nat) : Bool :=
  let rs := (if k.valid then [k.route] else []) ++ (d.pendingRoutes t).map (·.2)
  rs.any (fun r => mids.contains r.mid || (hops k.ends r).any (fun h => cells.contains h.cell))

/-- Units are lost (R97, R98, R100): where a withdrawal comes too late, every customer output fed through them goes DARK (R101);
SURVEY tickets through them are broken at once with their event, committed makes are withdrawn, and every other ROUTED, LIT or
DEGRADED ticket joins the restoration list, sorted afresh. (Log entry 82 DEDUCED.) -/
def Dev.loseUnits (d : Dev) (cells mids : List Nat) : Dev :=
  let hit := d.allTkts.filter (fun x =>
    (x.2.state == 2 || ((x.2.state == 3 || x.2.state == 4) && !d.stuck x.2)) && d.usesLost x.1 x.2 cells mids)
  let late := d.allXings.any (fun x => x.stage == .committed && x.parts.any (fun p => !d.inTime x.instant p.blk)
    && hit.any (fun t => x.makes.contains t.1 || x.restores.any (fun m => m.1 == t.1)))
  let fed := (d.allTkts.filter (fun x => ((x.2.state == 2 && x.2.committed) || x.2.inPlace) && d.usesLost x.1 x.2 cells mids)).map (·.1)
  let d := if late then fed.foldl (fun d t => d.lossDarken t) d else d
  let d := (hit.filter (fun x => x.2.cls == 2)).foldl (fun d x => (d.lampLost x.1).freeTkt x.1 1) d
  let rest := (hit.filter (fun x => x.2.cls != 2)).map (·.1)
  let d := rest.foldl (fun d t =>
    let d := (d.withdraw t).unrestore t
    let d := { d with tk := { d.tk with gather := d.tk.gather.filter (fun m => m.1 != t) } }
    d) d
  let d := if rest.isEmpty then d else (d.markRestoring rest).setList (d.sortList (d.tk.list ++ rest))
  ((d.withdrawSteps cells mids).holdTables cells mids).refresh

/-! ## Blocks that leave service (R38, R39, R242, R243) -/

/-- The lowest-numbered held spare released and asked back to service (R243). -/
def Dev.releaseSpare (d : Dev) : Dev :=
  match (List.range 32).find? (fun m => d.on (MAN_BLK_CTL_SPARE_HELD (32 + m))) with
  | none => d
  | some m =>
    ((d.setB (MAN_BLK_CTL_SPARE_HELD (32 + m)) false).setB (MAN_BLK_CTL_SPARE_RELEASED (32 + m)) true).setB
      (MAN_BLK_CTL_RETURN_HELD (32 + m)) true

/-- A ticket that is not FREE passes block b on its route, or holds one of its ports (R242). -/
def Dev.blkTkts (d : Dev) (b : Nat) : List Nat :=
  (d.allTkts.filter (fun x => (x.2.valid && x.2.blocks.contains b)
    || (isIngress b && !x.2.srcLamp && x.2.src / 16 == b)
    || (isEgress b && x.2.dst / 16 == b - 64))).map (·.1)

/-- A ticket that is ROUTED, LIT, DEGRADED or CLOSING passes block b, by its route or by one that waits. -/
def Dev.passing (d : Dev) (b : Nat) : Bool :=
  d.allTkts.any (fun x => (x.2.state == 2 || x.2.inPlace) &&
    ((x.2.valid && x.2.blocks.contains b) || (d.pendingRoutes x.1).any (fun m => 32 + m.2.mid == b)))

/-- A block out of service parks once nothing holds it: a middle block when no ticket passes and no restoration run
goes on, another when its ports are free (R242). -/
def Dev.parkIfClear (d : Dev) (b : Nat) : Dev :=
  if !(d.blk b).outPend then d else
  let clear := if isMiddle b then !d.passing b && !d.running else (d.blkTkts b).isEmpty
  if clear then
    let d := d.setMoor b 3 false
    (d.setBlk b { d.blk b with outPend := false }).startPark [b]
  else d

/-- The sibling of a block. -/
def sibling (b : Nat) : Nat := if b % 2 = 0 then b + 1 else b - 1

/-- The converters of block b that have not failed. -/
def Dev.convsLeft (d : Dev) (b : Nat) : Nat := ((List.range 8).filter (fun c => !(d.adc (b * 8 + c)).failed)).length

/-- The sibling of block b can adopt its loops: in service, its capstan sound, adopting nothing, adoption enabled, and
at least 2 converters of b left (R38, R39, R178). -/
def Dev.adoptable (d : Dev) (b : Nat) : Bool :=
  let k := sibling b
  d.inService k && !d.on (CAP_BLK_STATUS_FAILED k) && !d.on (CAP_BLK_STATUS_ADOPTING k)
    && !d.on (CAP_BLK_STATUS_ADOPTED k) && d.adoptEn b && decide (2 ≤ d.convsLeft b)

/-- Block b waits for its adoption, which has become impossible (R39). -/
def Dev.orphan (d : Dev) (b : Nat) : Bool :=
  d.inService b && d.on (CAP_BLK_STATUS_FAILED b) && !d.on (CAP_BLK_STATUS_ADOPTED b) && !d.adoptable b

/-- One block out of service (R242): moored while tickets hold it, a return withdrawn, its adoption over. -/
def Dev.outOne (d : Dev) (b : Nat) : Dev :=
  if !d.inService b then d.setB (MAN_BLK_CTL_RETURN_HELD b) false else
  let d := d.setB (FAB_BLK_STATUS_IN_SERVICE b) false
  let d := (d.setB (MAN_BLK_CTL_RETURN_HELD b) false).setB (MAN_BLK_CTL_SPARE_RELEASED b) false
  let sib := sibling b
  let d := if d.on (CAP_BLK_STATUS_ADOPTED b) then
      ((d.setB (CAP_BLK_STATUS_ADOPTED b) false).setB (CAP_BLK_STATUS_ADOPTING sib) false).refreshPriv sib else d
  let d := (d.setMoor b 0 false).setBlk b { (d.setMoor b 0 false).blk b with outPend := true }
  let d := d.setMoor b 3 true
  let d := if isMiddle b then (d.releaseSpare).loseUnits [] [b - 32] else d.refresh
  d.parkIfClear b

/-- A block leaves service; where it was adopting its sibling, or was to adopt it, the sibling leaves in the same way (R39). -/
def Dev.leaveService (d : Dev) (b : Nat) : Dev :=
  let sib := sibling b
  let adopting := d.on (CAP_BLK_STATUS_ADOPTING b)
  let d := (d.setB (CAP_BLK_STATUS_ADOPTING b) false).outOne b
  if adopting then (d.setB (CAP_BLK_STATUS_ADOPTED sib) false).outOne sib
  else if d.orphan sib then d.outOne sib else d

/-- Every block that waits to park looked at again. -/
def Dev.parkClear (d : Dev) : Dev := (List.range 96).foldl (fun d b => d.parkIfClear b) d

end Sys2Proof.Machine
end

