-- ==== Sys2Proof/Machine/RegTable.lean ====
section
/-! DEFINITION. The register tables of the spec as data: for each register its offset, its repetition (R494), its width, and each field's access code, class, permitted values and the unit it waits for. -/

namespace Sys2Proof.Machine

/-- The access codes of R10. w1call is a W1C field that any write of 1 clears whole (R201, R253, R395); sk is a key
word, written under SL and read as 0 (R265). -/
inductive Access where
  | rw | ro | w1c | w1call | w1s | wo | rc | sl | sk
  deriving DecidableEq, Repr

/-- One field of a register table: its place, its access code, the values it may take (none listed: any), whether it
is STAGED, the enable bit of the unit it is FROZEN with (none: LIVE), and whether a row of its own writes it. -/
structure RegField where
  fld    : Fld
  acc    : Access
  ok     : List (Nat × Nat)
  staged : Bool
  frozen : Option Fld
  own    : Bool
  deriving DecidableEq, Repr

/-- One register: the offset of its first instance, its repetitions (count, stride) from the outer one in, whether
it is 64 bits wide, and the fields of its first instance. -/
structure RegRow where
  off    : Nat
  dims   : List (Nat × Nat)
  wide   : Bool
  fields : List RegField
  deriving DecidableEq, Repr

/-- A LIVE field that takes any value. -/
def fld (a : Access) (f : Fld) : RegField := ⟨f, a, [], false, none, false⟩
/-- The same field, taking only the values of the intervals; any other is a reserved encoding (R12). -/
def RegField.within (f : RegField) (l : List (Nat × Nat)) : RegField := { f with ok := l }
/-- The same field, STAGED (R13). -/
def RegField.isStaged (f : RegField) : RegField := { f with staged := true }
/-- The same field, FROZEN with the unit that the enable bit serves (R13, R240). -/
def RegField.frozenBy (f : RegField) (e : Fld) : RegField := { f with frozen := some e }
/-- The same field, written by a row of its own. -/
def RegField.ownRow (f : RegField) : RegField := { f with own := true }

/-- The GBL registers. -/
def rowsGbl : List RegRow := [
  -- GBL_IDENT
    ⟨0x0, [], false, [fld .ro GBL_IDENT_PRODUCT,
      fld .ro GBL_IDENT_STEP,
      fld .ro GBL_IDENT_BAND]⟩,
  -- GBL_SCRATCH
    ⟨0x4, [], false, [fld .rw GBL_SCRATCH]⟩]

/-- The HST registers, part 1. -/
def rowsHst0 : List RegRow := [
  -- HST_STATUS
    ⟨0x8000, [], false, [fld .ro HST_STATUS_LINK_UP,
      fld .ro HST_STATUS_CACHE_EN,
      fld .ro HST_STATUS_RATE,
      fld .ro HST_STATUS_WIDTH,
      fld .ro HST_STATUS_PCIE_ONLY]⟩,
  -- HST_PF0_IRQ
    ⟨0x8004, [], false, [fld .w1c HST_PF0_IRQ_MAN_LOAD,
      fld .w1c HST_PF0_IRQ_MAN_COMMIT,
      fld .w1c HST_PF0_IRQ_CAL_LOAD,
      fld .w1c HST_PF0_IRQ_CAL_DUMP,
      fld .w1c HST_PF0_IRQ_CAL_ADC,
      fld .w1c HST_PF0_IRQ_SEAL,
      fld .w1c HST_PF0_IRQ_HOST_ERR]⟩,
  -- HST_PF0_VEC0
    ⟨0x8008, [], false, [fld .rw HST_PF0_VEC0_MAN_VEC,
      fld .rw HST_PF0_VEC0_CAL_VEC]⟩,
  -- HST_PF0_VEC1
    ⟨0x800c, [], false, [fld .rw HST_PF0_VEC1_SEAL_VEC,
      fld .rw HST_PF0_VEC1_ERR_VEC]⟩,
  -- HST_ERR_INFO
    ⟨0x8010, [], false, [fld .ro HST_ERR_INFO_KIND,
      fld .ro HST_ERR_INFO_FUNC,
      fld .w1c HST_ERR_INFO_VALID,
      fld .ro HST_ERR_INFO_COUNT]⟩,
  -- HST_ERR_TIME
    ⟨0x8018, [], true, [fld .ro HST_ERR_TIME]⟩,
  -- HST_ERR_HDR
    ⟨0x8020, [(4, 0x4)], false, [fld .ro (HST_ERR_HDR 0)]⟩,
  -- HST_CNT_UR
    ⟨0x8030, [], false, [fld .rc HST_CNT_UR]⟩,
  -- HST_CNT_CA
    ⟨0x8034, [], false, [fld .rc HST_CNT_CA]⟩,
  -- HST_CNT_POISON
    ⟨0x8038, [], false, [fld .rc HST_CNT_POISON]⟩,
  -- HST_CNT_READFAIL
    ⟨0x803c, [], false, [fld .rc HST_CNT_READFAIL]⟩,
  -- HST_MGMT_CTL
    ⟨0x8040, [], false, [fld .rw HST_MGMT_CTL_EN,
      fld .ro HST_MGMT_CTL_LINK]⟩]

/-- The HST registers, part 2. -/
def rowsHst1 : List RegRow := [
  -- HST_MGMT_MAC
    ⟨0x8048, [], true, [fld .rw HST_MGMT_MAC]⟩,
  -- HST_MGMT_IPV4
    ⟨0x8050, [], false, [fld .rw HST_MGMT_IPV4]⟩,
  -- HST_MGMT_SEAL
    ⟨0x8058, [], true, [fld .sl HST_MGMT_SEAL_MAC,
      fld .sl HST_MGMT_SEAL_EN]⟩,
  -- HST_MGMT_CNT_RX
    ⟨0x8060, [], false, [fld .rc HST_MGMT_CNT_RX]⟩,
  -- HST_MGMT_CNT_DROP
    ⟨0x8064, [], false, [fld .rc HST_MGMT_CNT_DROP]⟩,
  -- HST_MGMT_CNT_FCS
    ⟨0x8068, [], false, [fld .rc HST_MGMT_CNT_FCS]⟩,
  -- HST_WIN_DEV
    ⟨0x8100, [(64, 0x20)], true, [(fld .rw (HST_WIN_DEV 0) |>.frozenBy (HST_WIN_CTL_EN 0))]⟩,
  -- HST_WIN_HPA
    ⟨0x8108, [(64, 0x20)], true, [(fld .rw (HST_WIN_HPA 0) |>.frozenBy (HST_WIN_CTL_EN 0))]⟩,
  -- HST_WIN_SIZE
    ⟨0x8110, [(64, 0x20)], false, [(fld .rw (HST_WIN_SIZE 0) |>.within [(1, 0x10000000)] |>.frozenBy (HST_WIN_CTL_EN 0))]⟩,
  -- HST_WIN_CTL
    ⟨0x8114, [(64, 0x20)], false, [fld .rw (HST_WIN_CTL_EN 0),
      (fld .rw (HST_WIN_CTL_FUNC 0) |>.frozenBy (HST_WIN_CTL_EN 0))]⟩]

/-- The HST registers. -/
def rowsHst : List RegRow := rowsHst0 ++ rowsHst1

/-- The MAN registers. -/
def rowsMan : List RegRow := [
  -- MAN_CTL
    ⟨0x10000, [], false, [(fld .wo MAN_CTL_LOAD |>.ownRow),
      (fld .wo MAN_CTL_COMMIT |>.ownRow),
      (fld .wo MAN_CTL_DISCARD |>.ownRow)]⟩,
  -- MAN_STATUS
    ⟨0x10004, [], false, [fld .ro MAN_STATUS_LOADED,
      fld .ro MAN_STATUS_LOAD_BUSY,
      fld .ro MAN_STATUS_COMMIT_BUSY,
      fld .ro MAN_STATUS_PENDING,
      fld .w1c MAN_STATUS_PART_APPLIED,
      fld .w1call MAN_STATUS_ERR,
      fld .w1call MAN_STATUS_COMMIT_ERR,
      fld .ro MAN_STATUS_SECTION]⟩,
  -- MAN_ADDR
    ⟨0x10008, [], true, [fld .rw MAN_ADDR]⟩,
  -- MAN_LEN
    ⟨0x10010, [], false, [fld .rw MAN_LEN]⟩,
  -- MAN_COMMITS
    ⟨0x10014, [], false, [fld .ro MAN_COMMITS]⟩,
  -- MAN_SERIAL
    ⟨0x10018, [], true, [fld .ro MAN_SERIAL]⟩,
  -- MAN_DIGEST
    ⟨0x10020, [(8, 0x4)], false, [fld .ro (MAN_DIGEST 0)]⟩,
  -- MAN_FLD_SEL
    ⟨0x10040, [], false, [(fld .rw MAN_FLD_SEL_SECTION |>.within [(1, 13)]),
      fld .rw MAN_FLD_SEL_VIEW,
      fld .rw MAN_FLD_SEL_INDEX]⟩,
  -- MAN_FLD_DATA
    ⟨0x10044, [], false, [(fld .rw MAN_FLD_DATA |>.ownRow)]⟩,
  -- MAN_FROZEN_CNT
    ⟨0x10048, [], false, [fld .rc MAN_FROZEN_CNT]⟩,
  -- MAN_FROZEN_LAST
    ⟨0x1004c, [], false, [fld .ro MAN_FROZEN_LAST_SECTION,
      fld .ro MAN_FROZEN_LAST_INDEX]⟩,
  -- MAN_BLK_CTL
    ⟨0x10100, [(96, 0x4)], false, [(fld .wo (MAN_BLK_CTL_OUT 0) |>.ownRow),
      (fld .wo (MAN_BLK_CTL_IN 0) |>.ownRow),
      (fld .wo (MAN_BLK_CTL_FORCE 0) |>.ownRow),
      fld .ro (MAN_BLK_CTL_SPARE_HELD 0),
      fld .ro (MAN_BLK_CTL_SPARE_RELEASED 0),
      fld .ro (MAN_BLK_CTL_RETURN_HELD 0),
      fld .ro (MAN_BLK_CTL_RESULT 0)]⟩]

/-- The SEAL registers, part 1. -/
def rowsSeal0 : List RegRow := [
  -- SEAL_CTL
    ⟨0x18000, [], false, [(fld .wo SEAL_CTL_CLOSE |>.ownRow),
      (fld .wo SEAL_CTL_PROPOSE |>.ownRow),
      (fld .wo SEAL_CTL_WITHDRAW |>.ownRow),
      (fld .wo SEAL_CTL_APPROVE_A |>.ownRow)]⟩,
  -- SEAL_STATUS
    ⟨0x18004, [], false, [fld .ro SEAL_STATUS_CLOSED,
      fld .ro SEAL_STATUS_KEY_A,
      fld .ro SEAL_STATUS_KEY_B,
      fld .ro SEAL_STATUS_STAGED,
      fld .ro SEAL_STATUS_HAVE_A,
      fld .ro SEAL_STATUS_HAVE_B,
      fld .ro SEAL_STATUS_COMMITTING,
      fld .ro SEAL_STATUS_BAD_MACS]⟩,
  -- SEAL_WINDOW
    ⟨0x18008, [], false, [(fld .rw SEAL_WINDOW |>.within [(1, 600)])]⟩,
  -- SEAL_PROP_ADDR
    ⟨0x18010, [], true, [fld .rw SEAL_PROP_ADDR]⟩,
  -- SEAL_PROP_LEN
    ⟨0x18018, [], false, [fld .rw SEAL_PROP_LEN]⟩,
  -- SEAL_PROP_SEQ
    ⟨0x18020, [], true, [fld .ro SEAL_PROP_SEQ]⟩,
  -- SEAL_SEQ_HIGH
    ⟨0x18028, [], true, [fld .ro SEAL_SEQ_HIGH]⟩,
  -- SEAL_PROP_EXPIRY
    ⟨0x18030, [], true, [fld .ro SEAL_PROP_EXPIRY]⟩,
  -- SEAL_PROP_DIGEST
    ⟨0x18040, [(8, 0x4)], false, [fld .ro (SEAL_PROP_DIGEST 0)]⟩,
  -- SEAL_APPR_SEQ
    ⟨0x18060, [], true, [fld .rw SEAL_APPR_SEQ]⟩,
  -- SEAL_APPR_MAC
    ⟨0x18068, [(4, 0x4)], false, [fld .rw (SEAL_APPR_MAC 0)]⟩,
  -- SEAL_KEY_A
    ⟨0x18080, [(8, 0x4)], false, [fld .sk (SEAL_KEY_A 0)]⟩]

/-- The SEAL registers, part 2. -/
def rowsSeal1 : List RegRow := [
  -- SEAL_KEY_B
    ⟨0x180a0, [(8, 0x4)], false, [fld .sk (SEAL_KEY_B 0)]⟩,
  -- SEAL_CNT_REFUSED
    ⟨0x180c0, [], false, [fld .rc SEAL_CNT_REFUSED]⟩,
  -- SEAL_LAST_INFO
    ⟨0x180c4, [], false, [fld .ro SEAL_LAST_INFO_REASON,
      fld .ro SEAL_LAST_INFO_PARTY]⟩,
  -- SEAL_LAST_TIME
    ⟨0x180c8, [], true, [fld .ro SEAL_LAST_TIME]⟩,
  -- SEAL_CNT_APPLIED
    ⟨0x180d0, [], false, [fld .ro SEAL_CNT_APPLIED]⟩]

/-- The SEAL registers. -/
def rowsSeal : List RegRow := rowsSeal0 ++ rowsSeal1

/-- The WHL registers, part 1. -/
def rowsWhl0 : List RegRow := [
  -- WHL_STATUS
    ⟨0x20000, [], false, [fld .ro WHL_STATUS_ACTIVE,
      fld .ro WHL_STATUS_MODE,
      fld .ro WHL_STATUS_TOKEN,
      fld .ro WHL_STATUS_REVOKED,
      fld .w1c WHL_STATUS_SWAP_REFUSED,
      fld .ro WHL_STATUS_STATE_A,
      fld .ro WHL_STATUS_STATE_B]⟩,
  -- WHL_CTL
    ⟨0x20004, [], false, [(fld .wo WHL_CTL_SWAP |>.ownRow),
      (fld .wo WHL_CTL_RESYNC_A |>.ownRow),
      (fld .wo WHL_CTL_RESYNC_B |>.ownRow),
      (fld .wo WHL_CTL_FAIL_A |>.ownRow),
      (fld .wo WHL_CTL_FAIL_B |>.ownRow)]⟩,
  -- WHL_CLAIM
    ⟨0x20008, [], false, [fld .ro WHL_CLAIM]⟩,
  -- WHL_CPN
    ⟨0x20010, [], true, [fld .ro WHL_CPN]⟩,
  -- WHL_LEASE
    ⟨0x20018, [], false, [fld .ro WHL_LEASE]⟩,
  -- WHL_HEALTH_A
    ⟨0x20020, [], false, [fld .ro WHL_HEALTH_A_OK,
      fld .ro WHL_HEALTH_A_BIST_FAIL,
      fld .ro WHL_HEALTH_A_KAT_FAIL,
      fld .ro WHL_HEALTH_A_INJ_FAIL,
      fld .ro WHL_HEALTH_A_SLICE,
      fld .ro WHL_HEALTH_A_AGE_MS]⟩,
  -- WHL_HEALTH_B
    ⟨0x20024, [], false, [fld .ro WHL_HEALTH_B_OK,
      fld .ro WHL_HEALTH_B_BIST_FAIL,
      fld .ro WHL_HEALTH_B_KAT_FAIL,
      fld .ro WHL_HEALTH_B_INJ_FAIL,
      fld .ro WHL_HEALTH_B_SLICE,
      fld .ro WHL_HEALTH_B_AGE_MS]⟩,
  -- WHL_WATCH
    ⟨0x20030, [], false, [fld .ro WHL_WATCH_BB_A,
      fld .ro WHL_WATCH_WIRE_A,
      fld .ro WHL_WATCH_BB_B,
      fld .ro WHL_WATCH_WIRE_B]⟩,
  -- WHL_CNT_SWITCH
    ⟨0x20040, [], false, [fld .ro WHL_CNT_SWITCH]⟩,
  -- WHL_CNT_DIVERGE
    ⟨0x20044, [], false, [fld .rc WHL_CNT_DIVERGE]⟩,
  -- WHL_CNT_STALE
    ⟨0x20048, [], false, [fld .rc WHL_CNT_STALE]⟩,
  -- WHL_LAST_CAUSE
    ⟨0x2004c, [], false, [fld .ro WHL_LAST_CAUSE_CAUSE,
      fld .ro WHL_LAST_CAUSE_FROM]⟩]

/-- The WHL registers, part 2. -/
def rowsWhl1 : List RegRow := [
  -- WHL_LAST_SWITCH
    ⟨0x20050, [], true, [fld .ro WHL_LAST_SWITCH]⟩,
  -- WHL_INLET_SEQ
    ⟨0x20058, [], true, [fld .ro WHL_INLET_SEQ]⟩]

/-- The WHL registers. -/
def rowsWhl : List RegRow := rowsWhl0 ++ rowsWhl1

/-- The CMD and TOL registers, part 1. -/
def rowsCmd0 : List RegRow := [
  -- CMD_STATUS
    ⟨0x30000, [], false, [fld .ro CMD_STATUS_RESTORE_RUN,
      fld .ro CMD_STATUS_TOLL_ON_CHANGE,
      fld .ro CMD_STATUS_REARRANGE_MOVABLE]⟩,
  -- CMD_CNT_ADMITTED
    ⟨0x30008, [], true, [fld .ro CMD_CNT_ADMITTED]⟩,
  -- CMD_CNT_REFUSED
    ⟨0x30010, [], false, [fld .rc CMD_CNT_REFUSED]⟩,
  -- CMD_FN_QUOTA
    ⟨0x31000, [(64, 0x4)], false, [(fld .rw (CMD_FN_QUOTA 0) |>.within [(16, 16384)])]⟩,
  -- RING_CFG
    ⟨0x32000, [(64, 0x40)], false, [fld .rw (RING_CFG_SQ_EN 0),
      (fld .rw (RING_CFG_SQ_COH 0) |>.frozenBy (RING_CFG_SQ_EN 0)),
      fld .rw (RING_CFG_CQ_EN 0),
      fld .rw (RING_CFG_EQ_EN 0),
      (fld .rw (RING_CFG_SQ_SIZE 0) |>.within [(0, 10)] |>.frozenBy (RING_CFG_SQ_EN 0)),
      (fld .rw (RING_CFG_CQ_SIZE 0) |>.within [(0, 10)] |>.frozenBy (RING_CFG_CQ_EN 0)),
      (fld .rw (RING_CFG_EQ_SIZE 0) |>.within [(0, 10)] |>.frozenBy (RING_CFG_EQ_EN 0))]⟩,
  -- SQ_BASE
    ⟨0x32008, [(65, 0x40)], true, [(fld .rw (SQ_BASE 0) |>.frozenBy (RING_CFG_SQ_EN 0))]⟩,
  -- CQ_BASE
    ⟨0x32010, [(64, 0x40)], true, [(fld .rw (CQ_BASE 0) |>.frozenBy (RING_CFG_CQ_EN 0))]⟩,
  -- EQ_BASE
    ⟨0x32018, [(64, 0x40)], true, [(fld .rw (EQ_BASE 0) |>.frozenBy (RING_CFG_EQ_EN 0))]⟩,
  -- SQ_TAIL
    ⟨0x32020, [(65, 0x40)], false, [(fld .rw (SQ_TAIL 0) |>.ownRow)]⟩,
  -- SQ_HEAD
    ⟨0x32024, [(65, 0x40)], false, [fld .ro (SQ_HEAD 0)]⟩,
  -- CQ_HEAD
    ⟨0x32028, [(64, 0x40)], false, [(fld .rw (CQ_HEAD 0) |>.ownRow)]⟩,
  -- EQ_HEAD
    ⟨0x3202c, [(64, 0x40)], false, [(fld .rw (EQ_HEAD 0) |>.ownRow)]⟩]

/-- The CMD and TOL registers, part 2. -/
def rowsCmd1 : List RegRow := [
  -- RING_VEC
    ⟨0x32030, [(64, 0x40)], false, [fld .rw (RING_VEC_CQ_VEC 0),
      fld .rw (RING_VEC_EQ_VEC 0)]⟩,
  -- RING_STATUS
    ⟨0x32034, [(64, 0x40)], false, [fld .w1c (RING_STATUS_SQ_ERR 0),
      fld .ro (RING_STATUS_CQ_FULL 0),
      fld .ro (RING_STATUS_QUOTA_STOP 0),
      fld .ro (RING_STATUS_OUTSTANDING 0)]⟩,
  -- RING_LOST
    ⟨0x32038, [(64, 0x40)], false, [fld .rc (RING_LOST 0)]⟩,
  -- RING_CFG of group 64, the bulk ring (R215)
    ⟨0x33000, [], false, [fld .rw (RING_CFG_SQ_EN 64),
      (fld .rw (RING_CFG_SQ_COH 64) |>.frozenBy (RING_CFG_SQ_EN 64)),
      (fld .rw (RING_CFG_SQ_SIZE 64) |>.within [(0, 10)] |>.frozenBy (RING_CFG_SQ_EN 64))]⟩,
  -- RING_STATUS of group 64
    ⟨0x33034, [], false, [fld .w1c (RING_STATUS_SQ_ERR 64),
      fld .ro (RING_STATUS_QUOTA_STOP 64),
      fld .ro (RING_STATUS_OUTSTANDING 64)]⟩,
  -- TOL_RATE
    ⟨0x34000, [(64, 0x20)], false, [(fld .rw (TOL_RATE 0) |>.ownRow)]⟩,
  -- TOL_DEPTH
    ⟨0x34004, [(64, 0x20)], false, [(fld .rw (TOL_DEPTH 0) |>.ownRow)]⟩,
  -- TOL_DEBT
    ⟨0x34008, [(64, 0x20)], false, [(fld .rw (TOL_DEBT 0) |>.ownRow)]⟩,
  -- TOL_WEIGHT
    ⟨0x3400c, [(64, 0x20)], false, [(fld .rw (TOL_WEIGHT 0) |>.ownRow)]⟩,
  -- TOL_CREDIT
    ⟨0x34010, [(64, 0x20)], false, [fld .ro (TOL_CREDIT 0)]⟩,
  -- TOL_DEFICIT
    ⟨0x34014, [(64, 0x20)], false, [fld .ro (TOL_DEFICIT 0)]⟩,
  -- TOL_CNT_WAIT
    ⟨0x34018, [(64, 0x20)], false, [fld .rc (TOL_CNT_WAIT 0)]⟩]

/-- The CMD and TOL registers. -/
def rowsCmd : List RegRow := rowsCmd0 ++ rowsCmd1

/-- The XNG and TID registers, part 1. -/
def rowsXng0 : List RegRow := [
  -- XNG_CFG
    ⟨0x40000, [], false, [fld .rw XNG_CFG_HOLDOVER_VOTE]⟩,
  -- XNG_SYS_LEAD
    ⟨0x40004, [], false, [(fld .rw XNG_SYS_LEAD |>.within [(30, 10000)])]⟩,
  -- XNG_VOTE_GAP
    ⟨0x40008, [], false, [(fld .rw XNG_VOTE_GAP |>.within [(10, 5000)])]⟩,
  -- XNG_STATUS
    ⟨0x40010, [], false, [fld .ro XNG_STATUS_OUTSTANDING,
      fld .ro XNG_STATUS_FETCH_STOP,
      fld .ro XNG_STATUS_COMMITTED_MAX]⟩,
  -- XNG_CNT_DONE
    ⟨0x40020, [], true, [fld .ro XNG_CNT_DONE]⟩,
  -- XNG_CNT_LATE
    ⟨0x40028, [], false, [fld .rc XNG_CNT_LATE]⟩,
  -- XNG_CNT_ASAP
    ⟨0x4002c, [], false, [fld .rc XNG_CNT_ASAP]⟩,
  -- XNG_CNT_MISSED
    ⟨0x40030, [], false, [fld .rc XNG_CNT_MISSED]⟩,
  -- XNG_CNT_DECISION_LOST
    ⟨0x40034, [], false, [fld .rc XNG_CNT_DECISION_LOST]⟩,
  -- XNG_CNT_HELDBACK
    ⟨0x40038, [], false, [fld .rc XNG_CNT_HELDBACK]⟩,
  -- XNG_MISS_ID
    ⟨0x40040, [], true, [fld .ro XNG_MISS_ID]⟩,
  -- XNG_MISS_INFO
    ⟨0x40048, [], false, [fld .ro XNG_MISS_INFO_MODULE,
      fld .ro XNG_MISS_INFO_REASON]⟩]

/-- The XNG and TID registers, part 2. -/
def rowsXng1 : List RegRow := [
  -- TID_TBL_STATUS
    ⟨0x44000, [(1024, 0x4)], false, [fld .ro (TID_TBL_STATUS_STATE 0),
      fld .ro (TID_TBL_STATUS_ERR 0),
      fld .ro (TID_TBL_STATUS_STEPS 0),
      fld .ro (TID_TBL_STATUS_SLOT 0)]⟩,
  -- TID_RUN_STATUS
    ⟨0x45000, [(4, 0x20)], false, [fld .ro (TID_RUN_STATUS_TABLE 0),
      fld .ro (TID_RUN_STATUS_STEP 0),
      fld .ro (TID_RUN_STATUS_ACTIVE 0),
      fld .ro (TID_RUN_STATUS_HELD 0),
      fld .ro (TID_RUN_STATUS_STREAMING 0)]⟩,
  -- TID_RUN_NEXT
    ⟨0x45008, [(4, 0x20)], true, [fld .ro (TID_RUN_NEXT 0)]⟩,
  -- TID_RUN_CYCLES
    ⟨0x45010, [(4, 0x20)], true, [fld .ro (TID_RUN_CYCLES 0)]⟩,
  -- TID_RUN_MISSED
    ⟨0x45018, [(4, 0x20)], false, [fld .rc (TID_RUN_MISSED 0)]⟩]

/-- The XNG and TID registers. -/
def rowsXng : List RegRow := rowsXng0 ++ rowsXng1

/-- The TIM registers, part 1. -/
def rowsTim0 : List RegRow := [
  -- TIM_CTL
    ⟨0x50000, [], false, [fld .rw TIM_CTL_SERVO_EN,
      (fld .rw TIM_CTL_SRC |>.ownRow),
      (fld .rw TIM_CTL_FERRY_PORT |>.ownRow),
      (fld .rw TIM_CTL_SUSPEND |>.ownRow),
      (fld .wo TIM_CTL_FORCE |>.ownRow),
      fld .rw TIM_CTL_PTP_DOMAIN,
      fld .rw TIM_CTL_PTP_UDP,
      fld .rw TIM_CTL_PPS_OUT_EN]⟩,
  -- TIM_STATUS
    ⟨0x50004, [], false, [fld .ro TIM_STATUS_STATE,
      fld .ro TIM_STATUS_SUSPENDED,
      fld .w1c TIM_STATUS_JUMP_REFUSED,
      fld .w1c TIM_STATUS_MASTER_CHANGED,
      fld .w1c TIM_STATUS_FORCE_REFUSED,
      fld .ro TIM_STATUS_TCXO_OK,
      fld .ro TIM_STATUS_REFUSED_RUN]⟩,
  -- TIM_JUMP_MAX
    ⟨0x50008, [], false, [(fld .rw TIM_JUMP_MAX |>.within [(1, 1000000)])]⟩,
  -- TIM_LOCK_THRESH
    ⟨0x5000c, [], false, [(fld .rw TIM_LOCK_THRESH |>.within [(1, 1000)])]⟩,
  -- TIM_NOW_NS
    ⟨0x50010, [], false, [fld .ro TIM_NOW_NS]⟩,
  -- TIM_NOW_SEC
    ⟨0x50018, [], true, [fld .ro TIM_NOW_SEC]⟩,
  -- TIM_INCR
    ⟨0x50020, [], true, [fld .ro TIM_INCR]⟩,
  -- TIM_KP
    ⟨0x50028, [], false, [fld .rw TIM_KP]⟩,
  -- TIM_KI
    ⟨0x5002c, [], false, [fld .rw TIM_KI]⟩,
  -- TIM_ADJ_MAX
    ⟨0x50030, [], false, [(fld .rw TIM_ADJ_MAX |>.within [(1, 500)])]⟩,
  -- TIM_OFFSET
    ⟨0x50034, [], false, [fld .ro TIM_OFFSET]⟩,
  -- TIM_PPS_DELAY
    ⟨0x50038, [], false, [fld .rw TIM_PPS_DELAY]⟩]

/-- The TIM registers, part 2. -/
def rowsTim1 : List RegRow := [
  -- TIM_LOSS_TIMEOUT
    ⟨0x5003c, [], false, [(fld .rw TIM_LOSS_TIMEOUT |>.within [(1, 10000)])]⟩,
  -- TIM_FORCE_OFS
    ⟨0x50040, [], true, [fld .rw TIM_FORCE_OFS]⟩,
  -- TIM_CNT_REFUSED
    ⟨0x50048, [], false, [fld .rc TIM_CNT_REFUSED]⟩,
  -- TIM_CAP_PPS
    ⟨0x50050, [], true, [fld .ro TIM_CAP_PPS]⟩]

/-- The TIM registers. -/
def rowsTim : List RegRow := rowsTim0 ++ rowsTim1

/-- The FLT registers. -/
def rowsFlt : List RegRow := [
  -- FLT_STATUS
    ⟨0x60000, [], false, [fld .ro FLT_STATUS_SAFE,
      fld .ro FLT_STATUS_FROZEN,
      fld .ro FLT_STATUS_FAULT_N,
      fld .ro FLT_STATUS_BELL_RUN,
      fld .ro FLT_STATUS_OPEN,
      fld .ro FLT_STATUS_MAX_LEVEL]⟩,
  -- FLT_CTL
    ⟨0x60004, [], false, [(fld .wo FLT_CTL |>.ownRow)]⟩,
  -- FLT_VEC
    ⟨0x60008, [], false, [fld .rw FLT_VEC]⟩,
  -- FLT_ACK
    ⟨0x6000c, [], false, [(fld .wo FLT_ACK_CLASS |>.ownRow),
      (fld .wo FLT_ACK_GO |>.ownRow)]⟩,
  -- FLT_CNT_UNLOGGED
    ⟨0x60010, [], false, [fld .rc FLT_CNT_UNLOGGED]⟩,
  -- FLT_SAFE_CAUSE
    ⟨0x60014, [], false, [fld .ro FLT_SAFE_CAUSE_CLASS,
      fld .ro FLT_SAFE_CAUSE_LEVEL,
      fld .ro FLT_SAFE_CAUSE_VALID]⟩,
  -- FLT_SAFE_TIME
    ⟨0x60018, [], true, [fld .ro FLT_SAFE_TIME]⟩,
  -- FLT_LOG_HEAD
    ⟨0x60020, [], false, [fld .ro FLT_LOG_HEAD_NEXT,
      fld .ro FLT_LOG_HEAD_WRAPPED]⟩,
  -- FLT_OPEN
    ⟨0x60030, [(4, 0x4)], false, [fld .ro (FLT_OPEN 0)]⟩,
  -- FLT_CLS_STATUS
    ⟨0x60100, [(128, 0x10)], false, [fld .ro (FLT_CLS_STATUS_OPEN 0),
      fld .ro (FLT_CLS_STATUS_LEVEL_CFG 0),
      fld .ro (FLT_CLS_STATUS_LEVEL_NOW 0),
      fld .ro (FLT_CLS_STATUS_TIMER_RUN 0),
      fld .ro (FLT_CLS_STATUS_REMAIN_US 0)]⟩,
  -- FLT_CLS_COUNT
    ⟨0x60104, [(128, 0x10)], false, [fld .rc (FLT_CLS_COUNT 0)]⟩,
  -- FLT_CLS_LAST
    ⟨0x60108, [(128, 0x10)], true, [fld .ro (FLT_CLS_LAST 0)]⟩]

/-- The ILK registers, part 1. -/
def rowsIlk0 : List RegRow := [
  -- ILK_STATUS
    ⟨0x68000, [], false, [fld .ro ILK_STATUS_STATE,
      fld .ro ILK_STATUS_SAFE_OK,
      fld .ro ILK_STATUS_WD_OK]⟩,
  -- ILK_CTL
    ⟨0x68004, [], false, [(fld .wo ILK_CTL_RESET |>.ownRow)]⟩,
  -- ILK_DISC
    ⟨0x68008, [], false, [(fld .w1c ILK_DISC |>.ownRow)]⟩,
  -- ILK_CONTACTS
    ⟨0x6800c, [], false, [fld .ro ILK_CONTACTS_A,
      fld .ro ILK_CONTACTS_B,
      fld .ro ILK_CONTACTS_REMOTE]⟩,
  -- ILK_LOCAL_EN
    ⟨0x68010, [], false, [fld .sl ILK_LOCAL_EN]⟩,
  -- ILK_TEST_STATUS
    ⟨0x68014, [], false, [fld .w1c ILK_TEST_STATUS_FAIL,
      fld .ro ILK_TEST_STATUS_UNTESTED,
      fld .ro ILK_TEST_STATUS_LAST_PORT,
      fld .ro ILK_TEST_STATUS_LAST_BLOCK]⟩,
  -- ILK_TEST_LAST
    ⟨0x68018, [], true, [fld .ro ILK_TEST_LAST]⟩,
  -- ILK_CNT_MISMATCH
    ⟨0x68020, [], false, [fld .rc ILK_CNT_MISMATCH]⟩,
  -- ILK_CNT_BADCRC
    ⟨0x68024, [], false, [fld .rc ILK_CNT_BADCRC]⟩,
  -- ILK_EDGE_A
    ⟨0x68100, [(8, 0x20)], true, [fld .ro (ILK_EDGE_A 0)]⟩,
  -- ILK_EDGE_B
    ⟨0x68108, [(8, 0x20)], true, [fld .ro (ILK_EDGE_B 0)]⟩,
  -- ILK_OPENED
    ⟨0x68110, [(8, 0x20)], true, [fld .ro (ILK_OPENED 0)]⟩]

/-- The ILK registers, part 2. -/
def rowsIlk1 : List RegRow := [
  -- ILK_CNT_OPEN
    ⟨0x68118, [(8, 0x20)], false, [fld .ro (ILK_CNT_OPEN 0)]⟩,
  -- ILK_FWD
    ⟨0x68200, [(16, 0x4)], false, [fld .sl (ILK_FWD_EN 0),
      fld .sl (ILK_FWD_SLOT 0),
      fld .sl (ILK_FWD_MODULE 0),
      fld .ro (ILK_FWD_ACK_A 0),
      fld .ro (ILK_FWD_ACK_B 0)]⟩,
  -- ILK_SRC
    ⟨0x68300, [(8, 0x10), (4, 0x4)], false, [fld .sl (ILK_SRC_EN 0 0),
      fld .sl (ILK_SRC_INTERLOCK 0 0),
      fld .sl (ILK_SRC_MODULE 0 0),
      fld .ro (ILK_SRC_OK_A 0 0),
      fld .ro (ILK_SRC_OK_B 0 0)]⟩,
  -- ILK_HELD
    ⟨0x68400, [(32, 0x4)], false, [fld .ro (ILK_HELD 0)]⟩]

/-- The ILK registers. -/
def rowsIlk : List RegRow := rowsIlk0 ++ rowsIlk1

/-- The FRY registers, part 1. -/
def rowsFry0 : List RegRow := [
  -- FRY_CTL
    ⟨0x70000, [], false, [(fld .rw FRY_CTL_TIME_INT |>.within [(1, 8000)])]⟩,
  -- FRY_STATUS
    ⟨0x70004, [], false, [fld .ro FRY_STATUS_PORT_UP,
      fld .ro FRY_STATUS_MODULE_ID]⟩,
  -- FRY_TEL_CFG
    ⟨0x70008, [], false, [(fld .rw FRY_TEL_CFG_INT_MS |>.within [(1, 1000)]),
      fld .rw FRY_TEL_CFG_DST,
      fld .rw FRY_TEL_CFG_EN]⟩,
  -- FRY_TEL_PORTS
    ⟨0x7000c, [], false, [fld .rw FRY_TEL_PORTS]⟩,
  -- FRY_TEL_RING_BASE
    ⟨0x70010, [], true, [(fld .rw FRY_TEL_RING_BASE |>.frozenBy (FRY_TEL_RING_CFG_EN))]⟩,
  -- FRY_TEL_RING_CFG
    ⟨0x70018, [], false, [fld .rw FRY_TEL_RING_CFG_EN,
      (fld .rw FRY_TEL_RING_CFG_SIZE |>.within [(0, 8)] |>.frozenBy (FRY_TEL_RING_CFG_EN)),
      fld .rw FRY_TEL_RING_CFG_VEC]⟩,
  -- FRY_TEL_RING_TAIL
    ⟨0x7001c, [], false, [fld .ro FRY_TEL_RING_TAIL]⟩,
  -- FRY_TEL_RING_HEAD
    ⟨0x70020, [], false, [fld .rw FRY_TEL_RING_HEAD]⟩,
  -- FRY_TEL_CNT_DROP
    ⟨0x70024, [], false, [fld .rc FRY_TEL_CNT_DROP]⟩,
  -- FRY_SEAL_SRC
    ⟨0x70028, [], false, [fld .sl FRY_SEAL_SRC_MODULE,
      fld .sl FRY_SEAL_SRC_EN]⟩,
  -- FRY_CNT_NOROUTE
    ⟨0x70030, [], false, [fld .rc FRY_CNT_NOROUTE]⟩,
  -- FRY_PORT_CTL
    ⟨0x70100, [(8, 0x40)], false, [(fld .rw (FRY_PORT_CTL_ENABLE 0) |>.ownRow),
      fld .rw (FRY_PORT_CTL_FWD_BCAST 0)]⟩]

/-- The FRY registers, part 2. -/
def rowsFry1 : List RegRow := [
  -- FRY_PORT_WIN
    ⟨0x70104, [(8, 0x40)], false, [(fld .rw (FRY_PORT_WIN_PERIOD 0) |>.within [(200, 65535)] |>.frozenBy (FRY_PORT_CTL_ENABLE 0)),
      (fld .rw (FRY_PORT_WIN_LEN 0) |>.within [(100, 32767)] |>.frozenBy (FRY_PORT_CTL_ENABLE 0))]⟩,
  -- FRY_PORT_ASYM
    ⟨0x70108, [(8, 0x40)], false, [fld .rw (FRY_PORT_ASYM 0)]⟩,
  -- FRY_PORT_STATUS
    ⟨0x7010c, [(8, 0x40)], false, [fld .ro (FRY_PORT_STATUS_STATE 0),
      fld .ro (FRY_PORT_STATUS_CAUSE 0),
      fld .ro (FRY_PORT_STATUS_PEER 0),
      fld .ro (FRY_PORT_STATUS_PEER_VALID 0)]⟩,
  -- FRY_PORT_VIOL_RATE
    ⟨0x70110, [(8, 0x40)], false, [fld .ro (FRY_PORT_VIOL_RATE 0)]⟩,
  -- FRY_PORT_CNT_REPLAY
    ⟨0x70114, [(8, 0x40)], false, [fld .rc (FRY_PORT_CNT_REPLAY 0)]⟩,
  -- FRY_PORT_CNT_QFULL
    ⟨0x70118, [(8, 0x40)], false, [fld .rc (FRY_PORT_CNT_QFULL 0)]⟩,
  -- FRY_PORT_CNT_VIOL
    ⟨0x70120, [(8, 0x40), (6, 0x4)], false, [fld .rc (FRY_PORT_CNT_VIOL 0 0)]⟩,
  -- FRY_PORT_CNT_NAKRX
    ⟨0x70138, [(8, 0x40)], false, [fld .rc (FRY_PORT_CNT_NAKRX 0)]⟩,
  -- FRY_LANE_STATUS
    ⟨0x70400, [(16, 0x10)], false, [fld .ro (FRY_LANE_STATUS_LOCK 0),
      fld .ro (FRY_LANE_STATUS_ALIGNED 0),
      fld .ro (FRY_LANE_STATUS_SKEW 0)]⟩,
  -- FRY_LANE_FEC_CORR
    ⟨0x70404, [(16, 0x10)], false, [fld .rc (FRY_LANE_FEC_CORR 0)]⟩,
  -- FRY_LANE_FEC_UNCORR
    ⟨0x70408, [(16, 0x10)], false, [fld .rc (FRY_LANE_FEC_UNCORR 0)]⟩,
  -- FRY_ROUTE
    ⟨0x74000, [(4096, 0x4)], false, [fld .rw (FRY_ROUTE_PORT 0),
      fld .rw (FRY_ROUTE_VALID 0),
      fld .rw (FRY_ROUTE_ALT 0),
      fld .rw (FRY_ROUTE_ALT_VALID 0)]⟩]

/-- The FRY registers. -/
def rowsFry : List RegRow := rowsFry0 ++ rowsFry1

/-- The DMA registers. -/
def rowsDma : List RegRow := [
  -- DMA_ENG_STATUS
    ⟨0x80000, [], false, [fld .ro DMA_ENG_STATUS_MODE,
      fld .ro DMA_ENG_STATUS_BUSY,
      fld .ro DMA_ENG_STATUS_READS]⟩,
  -- DMA_DONE
    ⟨0x80008, [], true, [fld .w1c DMA_DONE]⟩,
  -- DMA_SRC
    ⟨0x80100, [(64, 0x40)], true, [fld .rw (DMA_SRC 0)]⟩,
  -- DMA_DST
    ⟨0x80108, [(64, 0x40)], true, [fld .rw (DMA_DST 0)]⟩,
  -- DMA_CNT
    ⟨0x80110, [(64, 0x40)], false, [fld .rw (DMA_CNT 0)]⟩,
  -- DMA_CTL
    ⟨0x80114, [(64, 0x40)], false, [(fld .wo (DMA_CTL_START 0) |>.ownRow),
      (fld .rw (DMA_CTL_DIS 0) |>.ownRow),
      (fld .rw (DMA_CTL_SRC_SPACE 0) |>.within [(0, 2)]),
      (fld .rw (DMA_CTL_DST_SPACE 0) |>.within [(0, 1)]),
      fld .rw (DMA_CTL_SRC_COH 0),
      fld .rw (DMA_CTL_IRQ_EN 0),
      fld .rw (DMA_CTL_VEC 0)]⟩,
  -- DMA_STATUS
    ⟨0x80118, [(64, 0x40)], false, [fld .ro (DMA_STATUS_STATE 0),
      fld .w1c (DMA_STATUS_DONE 0),
      fld .w1call (DMA_STATUS_ERR 0),
      fld .w1c (DMA_STATUS_SH_LOST 0),
      fld .ro (DMA_STATUS_SEQ 0)]⟩,
  -- DMA_REMAIN
    ⟨0x8011c, [(64, 0x40)], false, [fld .ro (DMA_REMAIN 0)]⟩,
  -- DMA_SH_SRC
    ⟨0x80120, [(64, 0x40)], true, [fld .rw (DMA_SH_SRC 0)]⟩,
  -- DMA_SH_DST
    ⟨0x80128, [(64, 0x40)], true, [fld .rw (DMA_SH_DST 0)]⟩,
  -- DMA_SH_CNT
    ⟨0x80130, [(64, 0x40)], false, [fld .rw (DMA_SH_CNT 0)]⟩,
  -- DMA_SH_CTL
    ⟨0x80134, [(64, 0x40)], false, [(fld .w1s (DMA_SH_CTL_ARM 0) |>.ownRow),
      (fld .rw (DMA_SH_CTL_SRC_SPACE 0) |>.within [(0, 2)]),
      (fld .rw (DMA_SH_CTL_DST_SPACE 0) |>.within [(0, 1)]),
      fld .rw (DMA_SH_CTL_SRC_COH 0),
      fld .rw (DMA_SH_CTL_IRQ_EN 0),
      fld .rw (DMA_SH_CTL_VEC 0)]⟩]

/-- The HLD registers, part 1. -/
def rowsHld0 : List RegRow := [
  -- HLD_CTL
    ⟨0x88000, [], false, [(fld .rw HLD_CTL_EN |>.ownRow),
      (fld .wo HLD_CTL_WEAR_FLUSH |>.ownRow)]⟩,
  -- HLD_STATUS
    ⟨0x88004, [], false, [fld .ro HLD_STATUS_STATE,
      fld .ro HLD_STATUS_FLUSH_BUSY,
      fld .w1c HLD_STATUS_CONTENT_LOST,
      fld .ro HLD_STATUS_RATE,
      fld .ro HLD_STATUS_WIDTH,
      fld .ro HLD_STATUS_ERR]⟩,
  -- HLD_CAPACITY
    ⟨0x88008, [], true, [fld .ro HLD_CAPACITY]⟩,
  -- HLD_HIST_CFG
    ⟨0x88010, [], false, [(fld .rw HLD_HIST_CFG_MIB |>.within [(1, 1024)] |>.frozenBy (HLD_CTL_EN)),
      (fld .rw HLD_HIST_CFG_MS |>.within [(1, 1000)])]⟩,
  -- HLD_SPILL_CFG
    ⟨0x88014, [], false, [(fld .rw HLD_SPILL_CFG |>.within [(0, 4096)] |>.frozenBy (HLD_CTL_EN))]⟩,
  -- HLD_TABLE_CFG
    ⟨0x88018, [], false, [(fld .rw HLD_TABLE_CFG |>.within [(1, 1008)] |>.frozenBy (HLD_CTL_EN))]⟩,
  -- HLD_TABLE_FREE
    ⟨0x8801c, [], false, [fld .ro HLD_TABLE_FREE]⟩,
  -- HLD_HIST_BASE
    ⟨0x88020, [], true, [fld .ro HLD_HIST_BASE]⟩,
  -- HLD_SPILL_BASE
    ⟨0x88028, [], true, [fld .ro HLD_SPILL_BASE]⟩,
  -- HLD_TABLE_BASE
    ⟨0x88030, [], true, [fld .ro HLD_TABLE_BASE]⟩,
  -- HLD_HOST_BASE
    ⟨0x88038, [], true, [fld .ro HLD_HOST_BASE]⟩,
  -- HLD_HIST_HEAD
    ⟨0x88040, [], true, [fld .ro HLD_HIST_HEAD]⟩]

/-- The HLD registers, part 2. -/
def rowsHld1 : List RegRow := [
  -- HLD_CNT_CORR
    ⟨0x88048, [], false, [fld .rc HLD_CNT_CORR]⟩,
  -- HLD_CNT_POISON
    ⟨0x8804c, [], false, [fld .rc HLD_CNT_POISON]⟩]

/-- The HLD registers. -/
def rowsHld : List RegRow := rowsHld0 ++ rowsHld1

/-- The MTX registers. -/
def rowsMtx : List RegRow := [
  -- MTX_STATUS
    ⟨0x90000, [], false, [fld .ro MTX_STATUS_HUNG,
      fld .ro MTX_STATUS_CONFIGURED]⟩,
  -- MTX_HANG_REL
    ⟨0x90004, [], false, [(fld .wo MTX_HANG_REL |>.ownRow)]⟩,
  -- MTX_DECODE_CFG
    ⟨0x90008, [], false, [fld .ro MTX_DECODE_CFG]⟩,
  -- MTX_SLICE
    ⟨0x90010, [(7, 0x4)], false, [fld .ro (MTX_SLICE 0)]⟩,
  -- MTX_ERR_INFO
    ⟨0x90030, [], false, [fld .ro MTX_ERR_INFO_MASTER,
      fld .ro MTX_ERR_INFO_TARGET,
      fld .ro MTX_ERR_INFO_RESP,
      fld .ro MTX_ERR_INFO_WRITE,
      fld .w1c MTX_ERR_INFO_VALID]⟩,
  -- MTX_ERR_ADDR
    ⟨0x90038, [], true, [fld .ro MTX_ERR_ADDR]⟩,
  -- MTX_ERR_TIME
    ⟨0x90040, [], true, [fld .ro MTX_ERR_TIME]⟩,
  -- MTX_CNT_DECODE
    ⟨0x90048, [], false, [fld .rc MTX_CNT_DECODE]⟩,
  -- MTX_CNT_MRESET
    ⟨0x9004c, [], false, [fld .rc MTX_CNT_MRESET]⟩,
  -- MTX_CNT_LINKERR
    ⟨0x90050, [], false, [fld .rc MTX_CNT_LINKERR]⟩,
  -- MTX_CNT_WDROP
    ⟨0x90054, [], false, [fld .rc MTX_CNT_WDROP]⟩,
  -- MTX_MST_OUT
    ⟨0x90100, [(10, 0x4)], false, [fld .ro (MTX_MST_OUT_READS 0),
      fld .ro (MTX_MST_OUT_WRITES 0)]⟩]

/-- The SVY registers, part 1. -/
def rowsSvy0 : List RegRow := [
  -- SVY_OW_CFG
    ⟨0xa0000, [], false, [(fld .rw SVY_OW_CFG_PROBE_THRESH |>.within [(256, 32767)]),
      (fld .rw SVY_OW_CFG_DRIVE_THRESH |>.within [(256, 32767)])]⟩,
  -- SVY_OFF
    ⟨0xa0004, [], false, [fld .ro SVY_OFF]⟩,
  -- SVY_REQ
    ⟨0xa0100, [(24, 0x40)], false, [(fld .wo (SVY_REQ_CHAN 0) |>.ownRow),
      (fld .wo (SVY_REQ_AVG 0) |>.ownRow),
      (fld .wo (SVY_REQ_RAW 0) |>.ownRow),
      (fld .wo (SVY_REQ_CUR 0) |>.ownRow),
      (fld .wo (SVY_REQ_TAG 0) |>.ownRow)]⟩,
  -- SVY_STATUS
    ⟨0xa0104, [(24, 0x40)], false, [fld .ro (SVY_STATUS_STATE 0),
      fld .ro (SVY_STATUS_LATCHED 0),
      fld .ro (SVY_STATUS_REQ_COUNT 0),
      fld .ro (SVY_STATUS_RES_COUNT 0),
      fld .ro (SVY_STATUS_OFF_CAUSE 0)]⟩,
  -- SVY_RES
    ⟨0xa0108, [(24, 0x40)], true, [fld .ro (SVY_RES 0)]⟩,
  -- SVY_INJ_CFG
    ⟨0xa0110, [(24, 0x40)], false, [fld .rw (SVY_INJ_CFG_CHAN 0),
      (fld .rw (SVY_INJ_CFG_AVG 0) |>.within [(0, 8)]),
      fld .rw (SVY_INJ_CFG_RAW 0),
      fld .rw (SVY_INJ_CFG_TIME_EN 0),
      fld .rw (SVY_INJ_CFG_REC_EN 0),
      fld .rw (SVY_INJ_CFG_TAG 0)]⟩,
  -- SVY_INJ_TIME
    ⟨0xa0118, [(24, 0x40)], true, [fld .rw (SVY_INJ_TIME 0)]⟩,
  -- SVY_INJ_PERIOD
    ⟨0xa0120, [(24, 0x40)], false, [(fld .rw (SVY_INJ_PERIOD 0) |>.within [(0, 0), (1000, 0xFFFFFFFF)])]⟩,
  -- SVY_INJ_LAST
    ⟨0xa0128, [(24, 0x40)], true, [fld .ro (SVY_INJ_LAST 0)]⟩,
  -- SVY_CNT_OVERRUN
    ⟨0xa0130, [(24, 0x40)], false, [fld .rc (SVY_CNT_OVERRUN 0)]⟩,
  -- SVY_CNT_RESLOST
    ⟨0xa0134, [(24, 0x40)], false, [fld .rc (SVY_CNT_RESLOST 0)]⟩,
  -- SVY_CNT_REQFULL
    ⟨0xa0138, [(24, 0x40)], false, [fld .rc (SVY_CNT_REQFULL 0)]⟩]

/-- The SVY registers, part 2. -/
def rowsSvy1 : List RegRow := [
  -- SVY_RND_STATUS
    ⟨0xa0800, [(12, 0x20)], false, [fld .ro (SVY_RND_STATUS_RUNNING 0),
      fld .ro (SVY_RND_STATUS_RETEST 0),
      fld .ro (SVY_RND_STATUS_OPEN_BONDS 0),
      fld .ro (SVY_RND_STATUS_CONVS 0)]⟩,
  -- SVY_RND_LAST
    ⟨0xa0804, [(12, 0x20)], false, [fld .ro (SVY_RND_LAST 0)]⟩,
  -- SVY_RND_COUNT
    ⟨0xa0808, [(12, 0x20)], false, [fld .ro (SVY_RND_COUNT 0)]⟩,
  -- SVY_RND_END
    ⟨0xa0810, [(12, 0x20)], true, [fld .ro (SVY_RND_END 0)]⟩]

/-- The SVY registers. -/
def rowsSvy : List RegRow := rowsSvy0 ++ rowsSvy1

/-- The REC registers, part 1. -/
def rowsRec0 : List RegRow := [
  -- REC_CTL
    ⟨0xb1000, [(12, 0x200)], false, [(fld .wo (REC_CTL_ARM 0) |>.ownRow),
      (fld .wo (REC_CTL_DISARM 0) |>.ownRow),
      (fld .wo (REC_CTL_FORCE 0) |>.ownRow),
      fld .rw (REC_CTL_ARM_AT 0)]⟩,
  -- REC_CFG
    ⟨0xb1004, [(12, 0x200)], false, [fld .rw (REC_CFG_SAMPLES 0),
      fld .rw (REC_CFG_SURVEY 0),
      fld .rw (REC_CFG_EVENTS 0),
      fld .rw (REC_CFG_SPILL 0),
      fld .rw (REC_CFG_GROUP_EN 0),
      fld .rw (REC_CFG_REMOTE 0),
      fld .rw (REC_CFG_GROUP 0),
      (fld .rw (REC_CFG_LEAD_US 0) |>.within [(0, 1000)])]⟩,
  -- REC_PRE
    ⟨0xb1008, [(12, 0x200)], false, [fld .rw (REC_PRE 0)]⟩,
  -- REC_POST
    ⟨0xb100c, [(12, 0x200)], false, [(fld .rw (REC_POST 0) |>.within [(1, 0xFFFFFFFF)])]⟩,
  -- REC_EVT_EN
    ⟨0xb1010, [(12, 0x200)], false, [fld .rw (REC_EVT_EN 0)]⟩,
  -- REC_MARK
    ⟨0xb1014, [(12, 0x200)], false, [(fld .wo (REC_MARK 0) |>.ownRow)]⟩,
  -- REC_ARM_TIME
    ⟨0xb1018, [(12, 0x200)], true, [fld .rw (REC_ARM_TIME 0)]⟩,
  -- REC_TRIG_TIME
    ⟨0xb1020, [(12, 0x200)], true, [fld .rw (REC_TRIG_TIME 0)]⟩,
  -- REC_STATUS
    ⟨0xb1028, [(12, 0x200)], false, [fld .ro (REC_STATUS_STATE 0),
      fld .ro (REC_STATUS_SEQ 0),
      fld .w1c (REC_STATUS_CLAMPED 0),
      fld .w1c (REC_STATUS_ARM_IGNORED 0),
      fld .w1c (REC_STATUS_LATE 0),
      fld .w1c (REC_STATUS_SPILL_LOST 0)]⟩,
  -- REC_HDR_TRIG
    ⟨0xb1030, [(12, 0x200)], true, [fld .ro (REC_HDR_TRIG 0)]⟩,
  -- REC_HDR_INFO
    ⟨0xb1038, [(12, 0x200)], false, [fld .ro (REC_HDR_INFO_TRIG_ADDR 0),
      fld .ro (REC_HDR_INFO_SRC 0)]⟩,
  -- REC_HDR_SRC
    ⟨0xb103c, [(12, 0x200)], false, [fld .ro (REC_HDR_SRC_MODULE 0),
      fld .ro (REC_HDR_SRC_REACH 0)]⟩]

/-- The REC registers, part 2. -/
def rowsRec1 : List RegRow := [
  -- REC_HDR_END
    ⟨0xb1040, [(12, 0x200)], false, [fld .ro (REC_HDR_END 0)]⟩,
  -- REC_HDR_SPILL
    ⟨0xb1044, [(12, 0x200)], false, [fld .ro (REC_HDR_SPILL 0)]⟩,
  -- REC_CNT_DROP
    ⟨0xb1048, [(12, 0x200)], false, [fld .rc (REC_CNT_DROP 0)]⟩,
  -- REC_CNT_EARLY
    ⟨0xb104c, [(12, 0x200)], false, [fld .rc (REC_CNT_EARLY 0)]⟩,
  -- REC_CMP
    ⟨0xb1050, [(12, 0x200), (4, 0x4)], false, [(fld .rw (REC_CMP_SRC 0 0) |>.within [(0, 33)]),
      fld .rw (REC_CMP_OP 0 0),
      fld .rw (REC_CMP_THRESH 0 0)]⟩,
  -- REC_CNT_LIM
    ⟨0xb1060, [(12, 0x200), (4, 0x8)], false, [fld .rw (REC_CNT_LIM 0 0)]⟩,
  -- REC_CNT_VAL
    ⟨0xb1064, [(12, 0x200), (4, 0x8)], false, [fld .ro (REC_CNT_VAL 0 0)]⟩,
  -- REC_TMR_LEN
    ⟨0xb1080, [(12, 0x200), (2, 0x8)], false, [(fld .rw (REC_TMR_LEN 0 0) |>.within [(1, 0xFFFFFFFF)])]⟩,
  -- REC_TMR_REM
    ⟨0xb1084, [(12, 0x200), (2, 0x8)], false, [fld .ro (REC_TMR_REM 0 0)]⟩,
  -- REC_SEL
    ⟨0xb1100, [(12, 0x200), (32, 0x4)], false, [fld .rw (REC_SEL_EN 0 0),
      fld .rw (REC_SEL_BLOCK 0 0),
      (fld .rw (REC_SEL_CHAN 0 0) |>.within [(0, 320)])]⟩,
  -- REC_SEQ
    ⟨0xb1180, [(12, 0x200), (8, 0x8), (2, 0x4)], false, [(fld .rw (REC_SEQ_COND 0 0 0) |>.within [(0, 6)]),
      fld .rw (REC_SEQ_ARG 0 0 0),
      fld .rw (REC_SEQ_NEXT 0 0 0),
      fld .rw (REC_SEQ_FIRE 0 0 0),
      fld .rw (REC_SEQ_INC 0 0 0),
      fld .rw (REC_SEQ_CLR 0 0 0),
      fld .rw (REC_SEQ_START 0 0 0)]⟩]

/-- The REC registers. -/
def rowsRec : List RegRow := rowsRec0 ++ rowsRec1

/-- The THM registers. -/
def rowsThm : List RegRow := [
  -- THM_CFG
    ⟨0xc0000, [], false, [(fld .rw THM_CFG_WARN |>.within [(6000, 10500)])]⟩,
  -- THM_STATUS
    ⟨0xc0004, [], false, [fld .ro THM_STATUS_WARN_REACH,
      fld .ro THM_STATUS_WARN_WH,
      fld .ro THM_STATUS_SHUTDOWN,
      fld .ro THM_STATUS_BROKEN]⟩,
  -- THM_ROUNDS
    ⟨0xc0008, [], false, [fld .ro THM_ROUNDS]⟩,
  -- THM_LAST
    ⟨0xc0010, [], true, [fld .ro THM_LAST]⟩,
  -- THM_TEMP
    ⟨0xc0100, [(110, 0x4)], false, [fld .ro (THM_TEMP_REPORTED 0),
      fld .ro (THM_TEMP_BROKEN 0),
      fld .ro (THM_TEMP_NOCOUNT 0)]⟩,
  -- THM_RAW
    ⟨0xc0300, [(110, 0x4)], false, [fld .ro (THM_RAW 0)]⟩,
  -- THM_SUPPLY
    ⟨0xc0500, [(9, 0x4)], false, [fld .ro (THM_SUPPLY_MV 0),
      fld .ro (THM_SUPPLY_LOW 0),
      fld .ro (THM_SUPPLY_HIGH 0)]⟩,
  -- THM_LAMP
    ⟨0xc0540, [], false, [fld .ro THM_LAMP_POWER,
      fld .ro THM_LAMP_OFF]⟩]

/-- The CAL registers, part 1. -/
def rowsCal0 : List RegRow := [
  -- CAL_CTL
    ⟨0xd0000, [], false, [(fld .wo CAL_CTL_LOAD |>.ownRow),
      (fld .wo CAL_CTL_DUMP |>.ownRow),
      (fld .wo CAL_CTL_ADC_SELF |>.ownRow),
      (fld .rw CAL_CTL_DELTA_T |>.within [(1, 40)])]⟩,
  -- CAL_STATUS
    ⟨0xd0004, [], false, [fld .ro CAL_STATUS_FACTORY,
      fld .ro CAL_STATUS_TABLES_VALID,
      fld .ro CAL_STATUS_ADC_DONE,
      fld .ro CAL_STATUS_LOAD_BUSY,
      fld .ro CAL_STATUS_DUMP_BUSY,
      fld .ro CAL_STATUS_ADC_BUSY,
      fld .w1call CAL_STATUS_ERR,
      fld .ro CAL_STATUS_ADC_FAILS]⟩,
  -- CAL_AUTO_EN
    ⟨0xd0008, [], false, [fld .rw CAL_AUTO_EN]⟩,
  -- CAL_REACH_REQ
    ⟨0xd000c, [], false, [(fld .w1s CAL_REACH_REQ |>.ownRow)]⟩,
  -- CAL_REACH_STATE
    ⟨0xd0010, [], false, [fld .ro CAL_REACH_STATE]⟩,
  -- CAL_FILE_ADDR
    ⟨0xd0018, [], true, [fld .rw CAL_FILE_ADDR]⟩,
  -- CAL_FILE_LEN
    ⟨0xd0020, [], false, [fld .rw CAL_FILE_LEN]⟩,
  -- CAL_CELL_FLOOR
    ⟨0xd0024, [], false, [(fld .rw CAL_CELL_FLOOR |>.within [(0xEC78, 0xF448)])]⟩,
  -- CAL_ACCEPT
    ⟨0xd0028, [], false, [(fld .rw CAL_ACCEPT |>.within [(64, 5461)])]⟩,
  -- CAL_ACC_SEL
    ⟨0xd0030, [], false, [fld .rw CAL_ACC_SEL_TABLE,
      fld .rw CAL_ACC_SEL_INDEX]⟩,
  -- CAL_ACC_DATA
    ⟨0xd0038, [], true, [(fld .rw CAL_ACC_DATA |>.ownRow)]⟩,
  -- CAL_DIE_ID
    ⟨0xd0040, [(8, 0x4)], false, [fld .ro (CAL_DIE_ID 0)]⟩]

/-- The CAL registers, part 2. -/
def rowsCal1 : List RegRow := [
  -- CAL_RCH_CELLS
    ⟨0xd0100, [(12, 0x20)], false, [fld .ro (CAL_RCH_CELLS_MEASURED 0),
      fld .ro (CAL_RCH_CELLS_REJECTED 0),
      fld .w1c (CAL_RCH_CELLS_ABORTED 0)]⟩,
  -- CAL_RCH_CARRIED
    ⟨0xd0104, [(12, 0x20)], false, [fld .ro (CAL_RCH_CARRIED 0)]⟩,
  -- CAL_RCH_RUNS
    ⟨0xd0108, [(12, 0x20)], false, [fld .ro (CAL_RCH_RUNS 0)]⟩,
  -- CAL_RCH_END
    ⟨0xd0110, [(12, 0x20)], true, [fld .ro (CAL_RCH_END 0)]⟩]

/-- The CAL registers. -/
def rowsCal : List RegRow := rowsCal0 ++ rowsCal1

/-- The RST registers. -/
def rowsRst : List RegRow := [
  -- RST_STATUS
    ⟨0xe0000, [], false, [fld .ro RST_STATUS_LEVEL,
      fld .ro RST_STATUS_SOURCE,
      fld .ro RST_STATUS_BOOT_DONE,
      fld .ro RST_STATUS_LEASE_DONE,
      fld .ro RST_STATUS_HELM_BUSY,
      fld .w1c RST_STATUS_RPT_VALID,
      fld .ro RST_STATUS_HELM_SRC,
      fld .ro RST_STATUS_ARM_MODULE,
      fld .ro RST_STATUS_ARM_HELM]⟩,
  -- RST_CFG
    ⟨0xe0004, [], false, [(fld .rw RST_CFG_MOOR_MS |>.within [(0, 200)])]⟩,
  -- RST_CTL
    ⟨0xe0008, [], false, [(fld .wo RST_CTL_LEASE_GO |>.ownRow)]⟩,
  -- RST_MODULE
    ⟨0xe0010, [], false, [(fld .wo RST_MODULE |>.ownRow)]⟩,
  -- RST_HELM
    ⟨0xe0014, [], false, [(fld .wo RST_HELM |>.ownRow)]⟩,
  -- RST_CNT_HELM
    ⟨0xe0018, [], false, [fld .ro RST_CNT_HELM]⟩,
  -- RST_RPT_TIME
    ⟨0xe0020, [], true, [fld .ro RST_RPT_TIME]⟩,
  -- RST_RPT_CNT0
    ⟨0xe0028, [], false, [fld .ro RST_RPT_CNT0_LIT,
      fld .ro RST_RPT_CNT0_DEGRADED]⟩,
  -- RST_RPT_CNT1
    ⟨0xe002c, [], false, [fld .ro RST_RPT_CNT1_STRANDED,
      fld .ro RST_RPT_CNT1_DROPPED]⟩,
  -- RST_RPT_MAP
    ⟨0xe0800, [(512, 0x4)], false, [fld .ro (RST_RPT_MAP 0)]⟩]

/-- The TST registers, part 1. -/
def rowsTst0 : List RegRow := [
  -- TST_FL_CTL
    ⟨0xe1100, [(16, 0x20)], false, [fld .rw (TST_FL_CTL_GEN_EN 0),
      fld .rw (TST_FL_CTL_CHK_EN 0),
      fld .rw (TST_FL_CTL_PATTERN 0),
      fld .rw (TST_FL_CTL_INV 0),
      (fld .wo (TST_FL_CTL_CLR 0) |>.ownRow),
      (fld .rw (TST_FL_CTL_INJ_RATE 0) |>.within [(0, 0), (10, 40)]),
      (fld .wo (TST_FL_CTL_INJ_COUNT 0) |>.ownRow)]⟩,
  -- TST_FL_STATUS
    ⟨0xe1104, [(16, 0x20)], false, [fld .ro (TST_FL_STATUS_LOCKED 0),
      fld .ro (TST_FL_STATUS_LOCK_LOSS 0)]⟩,
  -- TST_FL_BITS
    ⟨0xe1108, [(16, 0x20)], true, [fld .ro (TST_FL_BITS 0)]⟩,
  -- TST_FL_ERRS
    ⟨0xe1110, [(16, 0x20)], true, [fld .ro (TST_FL_ERRS 0)]⟩,
  -- TST_BB_CTL
    ⟨0xe1400, [(18, 0x20)], false, [fld .rw (TST_BB_CTL_EN 0),
      fld .rw (TST_BB_CTL_MODE 0),
      fld .rw (TST_BB_CTL_PATTERN 0),
      (fld .wo (TST_BB_CTL_CLR 0) |>.ownRow),
      fld .ro (TST_BB_CTL_LOCKED 0),
      fld .rw (TST_BB_CTL_INJ_DIR 0),
      (fld .wo (TST_BB_CTL_INJ 0) |>.ownRow)]⟩,
  -- TST_BB_BITS
    ⟨0xe1408, [(18, 0x20)], true, [fld .ro (TST_BB_BITS 0)]⟩,
  -- TST_BB_ERRS
    ⟨0xe1410, [(18, 0x20)], true, [fld .ro (TST_BB_ERRS 0)]⟩,
  -- TST_BB_PAR_ERRS
    ⟨0xe1418, [(18, 0x20)], false, [fld .ro (TST_BB_PAR_ERRS 0)]⟩,
  -- TST_GW_CTL
    ⟨0xe1800, [], false, [(fld .rw TST_GW_CTL_REACH |>.within [(0, 11)]),
      fld .rw TST_GW_CTL_BLOCKS,
      (fld .rw TST_GW_CTL_KIND |>.within [(1, 3)]),
      (fld .wo TST_GW_CTL_GO |>.ownRow)]⟩,
  -- TST_GW_STATUS
    ⟨0xe1804, [], false, [fld .ro TST_GW_STATUS_BUSY,
      fld .w1c TST_GW_STATUS_ABORTED,
      fld .ro TST_GW_STATUS_TESTED,
      fld .ro TST_GW_STATUS_FAILED]⟩,
  -- TST_GW_SKIPPED
    ⟨0xe1808, [], false, [fld .ro TST_GW_SKIPPED]⟩,
  -- TST_GW_FAIL
    ⟨0xe1840, [(64, 0x4)], false, [fld .ro (TST_GW_FAIL_DIFF 0),
      fld .ro (TST_GW_FAIL_CHAN 0),
      fld .ro (TST_GW_FAIL_VALID 0)]⟩]

/-- The TST registers, part 2. -/
def rowsTst1 : List RegRow := [
  -- TST_HLD_CTL
    ⟨0xe1a00, [], false, [(fld .rw TST_HLD_CTL_MODE |>.ownRow),
      fld .rw TST_HLD_CTL_RATE]⟩]

/-- The TST registers. -/
def rowsTst : List RegRow := rowsTst0 ++ rowsTst1

/-- The block-window registers. -/
def rowsBlk : List RegRow := [
  -- FAB_BLK_STATUS
    ⟨0x201200, [(96, 0x2000)], false, [fld .ro (FAB_BLK_STATUS_IN_SERVICE 0),
      fld .ro (FAB_BLK_STATUS_MOORED 0),
      fld .ro (FAB_BLK_STATUS_PARKED 0),
      fld .ro (FAB_BLK_STATUS_ISOLATED 0),
      fld .ro (FAB_BLK_STATUS_WEAR_ADV_CELLS 0),
      fld .ro (FAB_BLK_STATUS_WORN_CELLS 0),
      fld .ro (FAB_BLK_STATUS_WEAR_LOST 0)]⟩,
  -- FAB_LAMP_MON
    ⟨0x201204, [(32, 0x2000)], false, [fld .ro (FAB_LAMP_MON_POWER 0),
      fld .ro (FAB_LAMP_MON_FLOOR 0),
      fld .ro (FAB_LAMP_MON_STALE 0),
      fld .ro (FAB_LAMP_MON_OVER 0),
      fld .ro (FAB_LAMP_MON_GATE 0)]⟩,
  -- CAP_BLK_CFG
    ⟨0x201300, [(96, 0x2000)], false, [fld .rw (CAP_BLK_CFG_AUTO_RECLOSE 0)]⟩,
  -- CAP_BLK_STATUS
    ⟨0x201304, [(96, 0x2000)], false, [fld .ro (CAP_BLK_STATUS_ADOPTING 0),
      fld .ro (CAP_BLK_STATUS_ADOPTED 0),
      fld .ro (CAP_BLK_STATUS_FAILED 0),
      fld .ro (CAP_BLK_STATUS_PRIV 0),
      fld .ro (CAP_BLK_STATUS_OPEN_CELLS 0),
      fld .ro (CAP_BLK_STATUS_SHADOWED_CELLS 0)]⟩,
  -- CAP_PRIV_BUDGET
    ⟨0x201308, [(96, 0x2000)], false, [fld .ro (CAP_PRIV_BUDGET 0)]⟩,
  -- CAP_KP_CELL
    ⟨0x201310, [(96, 0x2000)], false, [fld .rw (CAP_KP_CELL 0)]⟩,
  -- CAP_KI_CELL
    ⟨0x201314, [(96, 0x2000)], false, [fld .rw (CAP_KI_CELL 0)]⟩,
  -- CAP_TRIM_WIN
    ⟨0x201318, [(96, 0x2000)], false, [(fld .rw (CAP_TRIM_WIN 0) |>.within [(0, 5461)])]⟩,
  -- CAP_KP_EQ
    ⟨0x28131c, [(32, 0x2000)], false, [fld .rw (CAP_KP_EQ 64)]⟩,
  -- CAP_KI_EQ
    ⟨0x281320, [(32, 0x2000)], false, [fld .rw (CAP_KI_EQ 64)]⟩,
  -- CAP_RECLOSE
    ⟨0x201330, [(96, 0x2000)], false, [(fld .wo (CAP_RECLOSE_CELL 0) |>.ownRow),
      (fld .wo (CAP_RECLOSE_GO 0) |>.ownRow)]⟩,
  -- CAP_CNT_OPEN
    ⟨0x201334, [(96, 0x2000)], false, [fld .rc (CAP_CNT_OPEN 0)]⟩]

/-- The port-window registers. -/
def rowsPrt : List RegRow := [
  -- FAB_IN_POWER
    ⟨0x300000, [(512, 0x400)], false, [fld .ro (FAB_IN_POWER_POWER 0),
      fld .ro (FAB_IN_POWER_FLOOR 0),
      fld .ro (FAB_IN_POWER_STALE 0),
      fld .ro (FAB_IN_POWER_OVER 0)]⟩,
  -- FAB_OUT_POWER
    ⟨0x380000, [(512, 0x400)], false, [fld .ro (FAB_OUT_POWER_POWER 0),
      fld .ro (FAB_OUT_POWER_FLOOR 0),
      fld .ro (FAB_OUT_POWER_STALE 0),
      fld .ro (FAB_OUT_POWER_OVER 0)]⟩,
  -- FAB_DRAIN_POWER
    ⟨0x380004, [(512, 0x400)], false, [fld .ro (FAB_DRAIN_POWER_POWER 0),
      fld .ro (FAB_DRAIN_POWER_FLOOR 0),
      fld .ro (FAB_DRAIN_POWER_STALE 0),
      fld .ro (FAB_DRAIN_POWER_OVER 0)]⟩,
  -- FAB_VOA_STATUS
    ⟨0x380008, [(512, 0x400)], false, [fld .ro (FAB_VOA_STATUS_ATTEN 0),
      fld .ro (FAB_VOA_STATUS_DARK 0),
      fld .ro (FAB_VOA_STATUS_RB_ERR 0),
      fld .ro (FAB_VOA_STATUS_LIT 0)]⟩,
  -- CAP_PORT_TARGET
    ⟨0x380040, [(512, 0x400)], false, [fld .rw (CAP_PORT_TARGET_TARGET 0),
      (fld .rw (CAP_PORT_TARGET_RAMP 0) |>.within [(1, 255)])]⟩,
  -- CAP_PORT_LIMIT
    ⟨0x380044, [(512, 0x400)], false, [(fld .rw (CAP_PORT_LIMIT_CEIL 0) |>.isStaged),
      (fld .rw (CAP_PORT_LIMIT_DERATE 0) |>.within [(0, 100)])]⟩,
  -- CAP_PORT_STATUS
    ⟨0x380048, [(512, 0x400)], false, [fld .ro (CAP_PORT_STATUS_WINNER 0),
      fld .ro (CAP_PORT_STATUS_RAMPING 0),
      fld .ro (CAP_PORT_STATUS_DERATING 0),
      (fld .w1c (CAP_PORT_STATUS_FB_LOST 0) |>.ownRow),
      fld .ro (CAP_PORT_STATUS_SETPOINT 0)]⟩,
  -- CAP_PORT_CEIL
    ⟨0x38004c, [(512, 0x400)], false, [fld .ro (CAP_PORT_CEIL 0)]⟩]

/-- The registers of the extent that an offset lies in (R493, R496, R497). -/
def rowsNear (off : Nat) : List RegRow :=
  if off < 0x8000 then rowsGbl else
  if off < 0x10000 then rowsHst else
  if off < 0x18000 then rowsMan else
  if off < 0x20000 then rowsSeal else
  if off < 0x30000 then rowsWhl else
  if off < 0x40000 then rowsCmd else
  if off < 0x50000 then rowsXng else
  if off < 0x60000 then rowsTim else
  if off < 0x68000 then rowsFlt else
  if off < 0x70000 then rowsIlk else
  if off < 0x80000 then rowsFry else
  if off < 0x88000 then rowsDma else
  if off < 0x90000 then rowsHld else
  if off < 0xA0000 then rowsMtx else
  if off < 0xB0000 then rowsSvy else
  if off < 0xC0000 then rowsRec else
  if off < 0xD0000 then rowsThm else
  if off < 0xE0000 then rowsCal else
  if off < 0xE1000 then rowsRst else
  if off < 0xF0000 then rowsTst else
  if off < 0x200000 then [] else
  if off < 0x2C0000 then rowsBlk else
  if off < 0x300000 then [] else
  if off < 0x400000 then rowsPrt else []

/-- The distance d within the repetitions dims: the start of the instance it is in, when it is at the start of one or,
for a 64-bit register, at its second word (part gives the byte within the register). -/
def instanceAt : List (Nat × Nat) → Nat → Option (Nat × Nat)
  | [], d => some (0, d)
  | (n, st) :: l, d =>
    if d / st < n then
      match instanceAt l (d % st) with
      | some (b, p) => some (d / st * st + b, p)
      | none => none
    else none

/-- The register at an offset: its row, the distance of this instance from the first, and the byte within it (0, or 4
for the high word of a 64-bit register). None: the offset holds no register. -/
def findRow (off : Nat) : Option (RegRow × Nat × Nat) :=
  (rowsNear off).findSome? fun r =>
    if off < r.off then none else
    match instanceAt r.dims (off - r.off) with
    | some (d, p) => if p = 0 ∨ (p = 4 ∧ r.wide = true) then some (r, d, p) else none
    | none => none

/-- A field of a register's first instance, at the instance d bytes further on. -/
def Fld.at (f : Fld) (d : Nat) : Fld := { f with off := f.off + d }

end Sys2Proof.Machine
end

