-- ==== Sys2Proof/Machine/Faults.lean ====
section
/-! DEFINITION. The fault collector: classes, snapshots, occurrences and levels, the actions of L2, module safe and the decision for a module reset (R287-R305). -/

namespace Sys2Proof.Machine

/-! ## The classes (R293, R294) -/

/-- The actions of L2. -/
inductive Act where
  | none | cellLost | portDrain | blkMoor | blkOut | rchMoor | heatMin | lampOff | unitOff | tableHeld | suspend
  deriving DecidableEq, Repr

/-- One row of R293: the range of levels, E (none: no timer), and the L2 action. -/
structure ClassRow where
  lo  : Nat
  hi  : Nat
  e   : Option Nat
  act : Act
  deriving DecidableEq, Repr

/-- R293; none for a number without an entry. (Log entry 23 DESIGN CHOICE.) -/
def classRow : Nat → Option ClassRow
  | 0 => some ⟨0, 2, some 2, .cellLost⟩
  | 1 => some ⟨0, 2, some 2, .cellLost⟩
  | 2 => some ⟨0, 2, some 2, .cellLost⟩
  | 3 => some ⟨1, 2, some 2, .cellLost⟩
  | 4 => some ⟨0, 2, some 2, .cellLost⟩
  | 8 => some ⟨0, 2, some 2, .portDrain⟩
  | 9 => some ⟨0, 2, some 2, .portDrain⟩
  | 10 => some ⟨2, 3, some 2, .portDrain⟩
  | 11 => some ⟨2, 3, some 2, .lampOff⟩
  | 16 => some ⟨1, 3, some 2, .none⟩
  | 17 => some ⟨1, 3, some 2, .none⟩
  | 18 => some ⟨1, 3, some 2, .blkOut⟩
  | 19 => some ⟨0, 2, some 2, .blkMoor⟩
  | 20 => some ⟨2, 3, some 2, .blkOut⟩
  | 32 => some ⟨2, 4, some 2, .none⟩
  | 33 => some ⟨2, 4, some 2, .none⟩
  | 34 => some ⟨0, 3, some 2, .heatMin⟩
  | 35 => some ⟨0, 2, some 2, .none⟩
  | 36 => some ⟨3, 3, none, .none⟩
  | 37 => some ⟨1, 4, some 3, .none⟩
  | 38 => some ⟨1, 3, some 2, .rchMoor⟩
  | 39 => some ⟨0, 0, none, .none⟩
  | 40 => some ⟨0, 0, none, .none⟩
  | 41 => some ⟨0, 2, some 2, .unitOff⟩
  | 42 => some ⟨0, 1, none, .none⟩
  | 43 => some ⟨0, 1, none, .none⟩
  | 48 => some ⟨0, 3, none, .none⟩
  | 49 => some ⟨0, 3, none, .none⟩
  | 50 => some ⟨0, 1, none, .none⟩
  | 51 => some ⟨0, 2, none, .none⟩
  | 52 => some ⟨0, 3, none, .none⟩
  | 53 => some ⟨0, 3, none, .none⟩
  | 54 => some ⟨1, 4, some 3, .none⟩
  | 64 => some ⟨0, 1, none, .none⟩
  | 65 => some ⟨0, 1, none, .none⟩
  | 66 => some ⟨0, 1, none, .none⟩
  | 67 => some ⟨2, 4, some 3, .unitOff⟩
  | 68 => some ⟨3, 4, none, .none⟩
  | 69 => some ⟨1, 3, some 2, .tableHeld⟩
  | 70 => some ⟨3, 4, none, .none⟩
  | 71 => some ⟨0, 1, none, .none⟩
  | 72 => some ⟨0, 0, none, .none⟩
  | 73 => some ⟨0, 0, none, .none⟩
  | 80 => some ⟨2, 4, some 2, .none⟩
  | 81 => some ⟨0, 1, none, .none⟩
  | 82 => some ⟨2, 4, some 2, .unitOff⟩
  | 83 => some ⟨0, 1, none, .none⟩
  | 88 => some ⟨2, 4, some 3, .suspend⟩
  | 89 => some ⟨0, 0, none, .none⟩
  | 90 => some ⟨0, 1, none, .none⟩
  | 91 => some ⟨0, 1, none, .none⟩
  | 92 => some ⟨0, 1, none, .none⟩
  | 96 => some ⟨0, 2, some 2, .unitOff⟩
  | 97 => some ⟨0, 1, none, .none⟩
  | 104 => some ⟨1, 1, none, .none⟩
  | 112 => some ⟨2, 3, some 2, .none⟩
  | 113 => some ⟨2, 3, some 3, .none⟩
  | 114 => some ⟨3, 3, none, .none⟩
  | 115 => some ⟨2, 3, some 2, .none⟩
  | 116 => some ⟨3, 3, none, .none⟩
  | 120 => some ⟨3, 3, none, .none⟩
  | _ => none

/-- The safety classes (R295). -/
def safetyClass (c : Nat) : Bool := [10, 11, 36, 70, 104, 112, 113, 114, 115, 116].contains c

/-- The level a class acts at: its FAULTS entry, or the lowest of its range before the first load (R287). -/
def Dev.levelOf (d : Dev) (c : Nat) : Nat :=
  match classRow c with
  | some r => if d.manLoaded then d.manA 9 c 0 else r.lo
  | none => 0

/-! ## Snapshots (R305) -/

/-- A register's word as its fields are stored. -/
def Dev.rawReg (d : Dev) (off : Nat) : Nat :=
  match findRow off with
  | some (r, dist, _) => r.fields.foldl (fun n f => n + d.get (f.fld.at dist) * 2 ^ f.fld.lo) 0
  | none => 0

/-- The four newest raw code pairs of a cell's probes as snapshot words. -/
def rawWords (l : List (Int × Int)) : List Nat :=
  (List.range 4).map (fun j => let x := l.getD j (0, 0); uns 16 x.1 + uns 16 x.2 * 65536)

/-- The ten words of a location's snapshot; detail gives what the detecting unit alone knows (failing address,
syndrome, failing word, its status word). (Log entries 22 DESIGN CHOICE, 23 DESIGN CHOICE.) -/
def Dev.snap (d : Dev) (unit ix : Nat) (detail : List Nat) : List Nat :=
  let g := fun j => detail.getD j 0
  let l : List Nat := match unit with
    | 1 => [d.cellStateW ix, d.cellBerthW ix, d.cellLoopW ix, d.cellTrimW ix] ++ rawWords (d.loop ix).raws
        ++ [d.get (THM_TEMP_REPORTED (cellBlk ix)), d.blkStatusW (cellBlk ix)]
    | 2 =>
      let o := ix - 512
      let t := if ix < 512 then d.tktOnIn ix else d.tktOnOut o
      let id := (t.map (·.1)).getD 0
      let st := match t with | some x => x.2.word 1 | none => 0
      if ix < 512 then [d.inPowerW ix, 0, 0, 0, 0, 0, id, st, 0]
      else [d.outPowerW o, d.drainPowerW o, d.voaW o, d.portTargetW o, d.portLimitW o, d.portStatusW o, id, st,
            (d.outP o).cmdCode + (d.outP o).rbCode * 65536]
    | 3 => [d.blkStatusW ix, d.capStatusW ix, g 0, g 1, d.partsIn ix, d.get (THM_TEMP_REPORTED ix)]
    | 4 => [Config.freeNat d.fresh % 2 ^ 32, Config.freeNat (d.fresh + 1) % 2 ^ 32, g 0, g 1,
            (List.range 8).foldl (fun m j => max m (d.partsIn (8 * ix + j))) 0, d.get (THM_TEMP_REPORTED (96 + ix))]
    | 5 => [d.rawReg 0x20000, d.get WHL_CLAIM, d.get WHL_CPN % 2 ^ 32, d.get WHL_CPN / 2 ^ 32,
            d.get WHL_INLET_SEQ % 2 ^ 32, d.get WHL_INLET_SEQ / 2 ^ 32,
            d.get WHL_WATCH_BB_A + d.get WHL_WATCH_WIRE_A * 2 + d.get WHL_WATCH_BB_B * 4 + d.get WHL_WATCH_WIRE_B * 8, g 0]
    | 8 => [d.get (THM_TEMP_REPORTED ix) + d.get (THM_TEMP_BROKEN ix) * 65536 + d.get (THM_TEMP_NOCOUNT ix) * 131072,
            d.get (THM_RAW ix)]
    | 9 => [d.get (THM_SUPPLY_MV ix) + d.get (THM_SUPPLY_LOW ix) * 65536 + d.get (THM_SUPPLY_HIGH ix) * 131072,
            d.thm.prev.get 0 ix]
    | _ => [g 0, g 1, g 2, g 3, g 4]
  (l ++ List.replicate 10 0).take 10

/-- The snapshot taken: a reach's first two words are free values, which count. -/
def Dev.snapped (d : Dev) (unit : Nat) : Dev := if unit = 4 then d.useFresh.useFresh else d

/-- TIM_STATUS.SUSPENDED (R150). -/
def Dev.suspended (d : Dev) : Bool :=
  d.on TIM_CTL_SUSPEND
    && !d.allXings.any (fun x => x.stage == .committed || x.stage == .flipped || x.kind == .restore)
    && d.tk.gather.isEmpty && d.tk.gBreaks.isEmpty
    && !(d.tide.runs.cells.filterMap (·.2)).any (fun u => u.active)

/-- SAFE_OK is asserted. (Log entry 56 DESIGN CHOICE.) -/
def Dev.safeOk (d : Dev) : Bool :=
  !d.rst.cold && d.rst.phase == 0 && !d.safe && d.manLoaded && !d.ilk.wd && (d.occ 113).level == 0 && (d.occ 116).level == 0
    && d.ilk.late.isEmpty

/-- The status word of the unit that detects a fault (R305, other kinds): a converter, a ferry lane or port, an interlock
slot, a table or ring; for the module, the status register of the chapter that raises the class. (Log entry 23 DESIGN CHOICE.) -/
def Dev.statusWord (d : Dev) (cls unit ix : Nat) : Nat :=
  let ilk := ((d.setB ILK_STATUS_SAFE_OK d.safeOk).rawReg 0x68000)
  match unit with
  | 7 => d.capStatusW (ix / 8)
  | 10 => if ix < 16 then d.rawReg (0x70400 + ix * 16) else d.rawReg (0x7010C + (ix - 16) * 64)
  | 11 => ilk
  | 14 => if ix < 1024 then d.rawReg (0x44000 + ix * 4) else d.rawReg (0x32034 + (ix - 1024) * 64)
  | 0 =>
    if cls = 54 then d.rawReg 0x20000
    else if cls = 71 then d.rawReg 0x10004
    else if cls = 80 ∨ cls = 81 then d.rawReg 0x8000
    else if cls = 82 then d.rawReg 0x88004
    else if 88 ≤ cls ∧ cls ≤ 91 then (d.setB TIM_STATUS_SUSPENDED d.suspended).rawReg 0x50004
    else if cls = 104 then d.rawReg 0x18004
    else if cls = 114 ∨ cls = 116 then ilk
    else if cls = 120 then d.rawReg 0x60000
    else 0
  | _ => 0

/-! ## Safety breaks of Q0 (R226, R294) -/

/-- The circuit of ticket t is to be broken by a Q0 crossing, its ticket STRANDED for a reason: a ROUTED one has no
light to wait for and is STRANDED at once. (Log entry 19 DESIGN CHOICE.) -/
def Dev.safetyBreak (d : Dev) (t reason : Nat) : Dev :=
  let k := d.tkt t
  if k.state = 2 then (d.withdraw t).strandTkt t reason
  else if k.state = 3 ∨ k.state = 4 then
    let d := d.forget t
    let n := d.cmd.nextX
    let d := d.addXing { xing0 (.safety reason) with breaks := [t] }
    d.setReady 0 (d.ready 0 ++ [.xing n])
  else d

/-! ## The actions of L2 (R294) -/

/-- Every gate closed, the lamp off, every reach run aborted: LAMP_OFF. -/
def Dev.lampOff (d : Dev) : Dev :=
  let d := (List.range 12).foldl (fun d n => d.abortRun n) d
  let d := (d.setLamp { d.fab.lamp with off := true }).shine .dark
  (List.range 32).foldl (fun d b => d.gate b false) d

/-- Tables RUNNING under suspension go HELD, never to be resumed, once no committed step of theirs waits (R129). -/
def Dev.holdSuspended (d : Dev) : Dev :=
  if !d.on TIM_CTL_SUSPEND then d else
  (List.range 4).foldl (fun d s =>
    match d.run s with
    | some u =>
      if d.allXings.any (fun x => match x.kind with | .step n _ => n == u.table && x.stage == .committed | _ => false)
      then d else d.holdTable s true
    | none => d) d

/-- What a ferry port holds is discarded (R341). -/
def FryPort.emptied (p : FryPort) : FryPort :=
  { p with retry := [], rptSeq := 0, rptCnt := 0, tc0 := [], tc1 := [], tc2 := [], tc3 := [], hello := false, clean := 0,
           discard := false, serving := false, taker := none }

/-- FRY_STATUS.PORT_UP follows the states. -/
def Dev.markUp (d : Dev) : Dev :=
  d.set FRY_STATUS_PORT_UP ((List.range 8).foldl (fun n k => putBit n k (d.get (FRY_PORT_STATUS_STATE k) == 2)) 0)

/-- A unit disabled (UNIT_OFF, R294): the hold port, a ferry port, a survey converter; the island beyond a failed
link is cut off by the link's failure itself. -/
def Dev.unitOff (d : Dev) (cls unit ix : Nat) : Dev :=
  if cls = 82 then { d with hld := { d.hld with off := true } }
  else if cls = 96 then
    let k := if ix < 16 then ix / 2 else ix - 16
    let p := d.fryP k
    let p := if d.get (FRY_PORT_STATUS_STATE k) = 3 then p else { p.emptied with cause := 0, downAt := d.tick }
    (((d.set (FRY_PORT_STATUS_STATE k) 3).set (FRY_PORT_STATUS_CAUSE k) 5).setFryP k { p with off := true }).markUp
  else if cls = 41 ∧ unit = 7 then (d.setConv (ix - 768) { d.conv (ix - 768) with fault := true }).svyAbort (ix - 768)
  else d

/-- The L2 action of a class at a location of a unit kind: what acts on a cell, a port, a block or a reach asks for a location of that
kind (R294, R304). (Log entry 23 DESIGN CHOICE.) -/
def actAt (cls unit : Nat) : Option Act :=
  (classRow cls).map (fun (r : ClassRow) =>
    let kind := match r.act with
      | .cellLost => some 1
      | .portDrain => some 2
      | .blkMoor => some 3
      | .blkOut => some 3
      | .rchMoor => some 4
      | .heatMin => some 4
      | _ => none
    if kind.any (fun k => k != unit) then .none else r.act)

/-- The L2 action of a class applied to one location. -/
def Dev.act (d : Dev) (cls unit ix : Nat) : Dev :=
  match actAt cls unit with
  | some .cellLost =>
    if (d.cell ix).failed then d else (d.setCell ix { d.cell ix with failed := true }).loseUnits [ix] []
  | some .portDrain =>
    let t := if ix < 512 then d.tktOnIn ix else d.tktOnOut (ix - 512)
    let d := if ix < 512 then d.setInP ix { d.inP ix with barred := true }
             else d.setOutP (ix - 512) { d.outP (ix - 512) with barred := true }
    match t with
    | some x => d.safetyBreak x.1 3
    | none => d
  | some .blkMoor => (d.setMoor ix 1 true).refresh
  | some .blkOut => d.leaveService ix
  | some .rchMoor => ((List.range 8).foldl (fun d j => d.setMoor (8 * ix + j) 2 true) d).refresh
  | some .heatMin => d.setRch ix { d.rch ix with heatMin := true }
  | some .lampOff => d.lampOff
  | some .unitOff => d.unitOff cls unit ix
  | some .tableHeld => (List.range 4).foldl (fun d s => d.holdTable s false) d
  | some .suspend =>
    let d := d.setB TIM_CTL_SUSPEND true
    ({ d with tim := { d.tim with hold := true } }).holdSuspended
  | _ => d

/-- The L2 action applied to every location of a list. -/
def Dev.actAll (d : Dev) (cls : Nat) : List (Nat × Nat) → Dev
  | [] => d
  | (u, i) :: l => (d.act cls u i).actAll cls l

/-! ## FAULT_N, module safe, L4 (R297, R299, R301) -/

/-- FAULT_N follows the open occurrences at L2 or above, module safe and a module reset under way (R301, R449); a change of the
pin is put out. -/
def Dev.updFaultN (d : Dev) : Dev :=
  let on := d.still || (d.flt.occs.cells.any (fun c => decide (2 ≤ c.2.level)))
  if d.on FLT_STATUS_FAULT_N = on then d else (d.setB FLT_STATUS_FAULT_N on).emit (.pin 1 on)

/-- The park decision of a module reset (R449, R450): the moor ends, every block parks. -/
def Dev.endMoor (d : Dev) : Dev :=
  if d.rst.phase = 1 then
    ({ d with rst := { d.rst with phase := 2, parkAt := d.tick } }).startPark (List.range 96)
  else d

/-- The module is taken safe (R297): the logbook frozen after the entry that caused it, the cause and the instant
recorded, BELL still, committed parts discarded, reach runs aborted, every block parking. -/
def Dev.goSafe (d : Dev) (cls level : Nat) : Dev :=
  let d := ((d.setB FLT_STATUS_SAFE true).setB FLT_STATUS_FROZEN true).setB FLT_STATUS_BELL_RUN false
  let d := d.sets [(FLT_SAFE_CAUSE_CLASS, cls), (FLT_SAFE_CAUSE_LEVEL, level), (FLT_SAFE_CAUSE_VALID, 1),
    (FLT_SAFE_TIME, stampOf d.now)]
  let d : Dev := { d with flt := { d.flt with safeAt := some d.tick } }
  let d := d.mapXings (fun x => { x with parts := [] })
  let d := (List.range 12).foldl (fun d n => d.abortRun n) d
  if d.rst.phase = 1 then d.endMoor else d.startPark (List.range 96)

/-- An occurrence stands at a level: L3 takes the module safe, L4 decides the module reset too. Of several in one tick the cause is the
one at L4 before one at L3, then the lowest class (R292); an L4 while L3 holds raises the recorded level (R299). (Log entry 34 DESIGN CHOICE.) -/
def Dev.atLevel (d : Dev) (cls level : Nat) : Dev :=
  let d := if 3 ≤ level then
      if !d.safe then d.goSafe cls level
      else
        let was := d.get FLT_SAFE_CAUSE_LEVEL
        let d := if d.flt.safeAt = some d.tick ∧ (was < level ∨ level = was ∧ cls < d.get FLT_SAFE_CAUSE_CLASS)
          then d.set FLT_SAFE_CAUSE_CLASS cls else d
        d.set FLT_SAFE_CAUSE_LEVEL (max was level)
    else d
  let d := if level = 4 ∧ d.flt.l4At = none then { d with flt := { d.flt with l4At := some d.tick } } else d
  d.updFaultN

/-! ## A fault raised (R287-R290) -/

/-- A fault of a class at a location, with a sub-code: it opens the class's occurrence, joins it, or is logged at
L0. A parity error of a reach's calibration store aborts its run first (R199). (Log entries 23 DESIGN CHOICE, 35 DESIGN CHOICE.) -/
def Dev.raise (d : Dev) (cls unit ix sub : Nat) (detail : List Nat) : Dev :=
  match classRow cls with
  | none => d
  | some row =>
    let d := if cls = 38 ∧ unit = 4 then d.abortRun ix else d
    let detail := if detail.isEmpty ∧ (unit = 0 ∨ unit = 7 ∨ unit = 10 ∨ unit = 11 ∨ unit = 14) then [d.statusWord cls unit ix] else detail
    let d := (d.set (FLT_CLS_LAST cls) (stampOf d.now)).recFault cls unit ix
    let o := d.occ cls
    if o.level = 0 then
      let lv := d.levelOf cls
      if lv = 0 then (d.logIt cls 3 0 sub unit ix (d.snap unit ix detail)).snapped unit
      else
        let d := (d.logIt cls 0 lv sub unit ix (d.snap unit ix detail)).snapped unit
        let dl := match row.e with
          | some e => if lv < e ∧ d.manLoaded = true then some (d.tick + d.manA 9 cls 4 * 1000) else none
          | none => none
        let d := (d.setOcc cls { level := lv, unit, index := ix, locs := [(unit, ix)], deadline := dl }).msix 0 (d.get FLT_VEC)
        let d := if 2 ≤ lv then d.act cls unit ix else d
        d.atLevel cls lv
    else
      let lv := max o.level (min (o.level + 1) row.hi)
      let d := d.logIt cls 1 lv sub unit ix (List.replicate 10 0)
      let locs := if o.locs.contains (unit, ix) then o.locs else o.locs ++ [(unit, ix)]
      let stop := match row.e with | some e => decide (e ≤ lv) | none => true
      let d := d.setOcc cls { o with level := lv, locs, deadline := if stop then none else o.deadline }
      let d := if 2 ≤ lv then (if o.level < 2 then d.actAll cls locs else d.act cls unit ix) else d
      d.atLevel cls lv

/-- A refused FROZEN write of a register: MAN_FROZEN_WRITE (R13). -/
def Dev.frozenWrite (d : Dev) : Dev := (d.inc MAN_FROZEN_CNT).raise 71 0 0 0 []

/-- CELL_WEAR where a cell's count, the hold's value with what is pending, has just reached a limit: ADVISORY is L0 only (R75, R76,
R293, R296). -/
def Dev.wearLimits (d : Dev) (i : Nat) (before : Cell) : Dev :=
  let c := d.cell i
  let past := fun (n : Nat) => decide (before.count < n ∧ n ≤ c.count)
  let d := if past 80000000000 then d.logL0 4 1 i 1 (d.snap 1 i []) else d
  if past 100000000000 then d.raise 4 1 i 2 [] else d

/-- The limits looked at for every cell of a list, with what it held before. (Log entry 24 DEDUCED.) -/
def Dev.wearCheck (d : Dev) : List (Nat × Cell) → Dev
  | [] => d
  | (i, c) :: l => (d.wearLimits i c).wearCheck l

/-- The switches of cells that have led from one device to another looked at: wear limits reached, drivers clamped, the tickets that
follow (R54, R76, R92). -/
def Dev.switched (d old : Dev) (l : List Nat) : Dev := d.wearCheck (l.map (fun i => (i, old.cell i)))

/-- A driver clamp noted: DRV_SAT set, and CELL_DRV_SAT raised where it was not (R54). Cleared when the value is
back in range. -/
def Dev.satCheck (d : Dev) (i : Nat) : Dev :=
  let c := d.cell i
  let s := d.clamps i c.cross
  if s = c.drvSat then d
  else
    let d := d.setCell i { c with drvSat := s }
    if s then d.raise 2 1 i 0 [] else d

/-- Every cell of a list. -/
def Dev.satCheckAll (d : Dev) : List Nat → Dev
  | [] => d
  | i :: l => (d.satCheck i).satCheckAll l

/-! ## Berths that follow the tables, the temperature and the trim (R157, R161) -/

/-- The capstan of block b runs: its own, or its sibling for it (R177), with a clock, the block in service, no moor of R449
under way. -/
def Dev.loopsRun (d : Dev) (b : Nat) : Bool :=
  d.rst.phase == 0 && d.inService b && !d.clockLost b && (!d.on (CAP_BLK_STATUS_FAILED b) || d.on (CAP_BLK_STATUS_ADOPTED b))

/-- The tickets through a cell looked at again. -/
def Dev.recauseCell (d : Dev) (i : Nat) : Dev := d.recauseAll ((d.through i).map (·.1))

/-- The selected berth takes ff + trim, and a clamp is noted. -/
def Dev.writeLoop (d : Dev) (i : Nat) : Dev :=
  ((d.writeSel i (d.berthVal i (d.cell i).cross)).satCheck i).recauseCell i

/-- The berths of block b follow ff(s, T) + trim, in every mode but HELD and PARKED, while its capstan runs (R161, R210). -/
def Dev.followTemp (d : Dev) (b : Nat) : Dev :=
  if !d.loopsRun b then d else
  (blkCells b).foldl (fun d i => if (d.loop i).mode = 5 ∨ (d.loop i).mode = 6 then d else d.writeLoop i) d

end Sys2Proof.Machine
end

