-- ==== Sys2Proof/Machine/Respond.lean ====
section
/-! DEFINITION. Where an access of the internal matrix goes, and how an error response is handled (R397, R398, R403-R406, R411, R492, R500). -/

namespace Sys2Proof.Machine

/-! ## Targets -/

/-- The index of an offset within n instances of a group. -/
def groupIx (off base n stride : Nat) : Option Nat :=
  if base ≤ off ∧ off < base + n * stride then some ((off - base) / stride) else none

/-- An offset outside every register block, window and aperture (R492): a decode error in the matrix. -/
def unassigned (off : Nat) : Bool :=
  (decide (0xF0000 ≤ off) && decide (off < 0x100000)) || (decide (0x2C0000 ≤ off) && decide (off < 0x300000))
    || (decide (0x400000 ≤ off) && decide (off < 0x1000000)) || decide (0x4000000 ≤ off)

/-- The index of an offset that is exactly a register of a repeated group. -/
def regIx (off base n stride : Nat) : Option Nat :=
  match groupIx off base n stride with
  | some i => if (off - base) % stride = 0 then some i else none
  | none => none

/-- The reach whose port serves an offset. -/
def reachAt (off : Nat) : Option Nat :=
  if 0x200000 ≤ off ∧ off < 0x2C0000 then some ((off - 0x200000) / 0x2000 / 8)
  else if 0x300000 ≤ off ∧ off < 0x380000 then some ((off - 0x300000) / 0x400 / 128)
  else if 0x380000 ≤ off ∧ off < 0x400000 then some (8 + (off - 0x380000) / 0x400 / 128)
  else if 0x1000000 ≤ off ∧ off < 0x4000000 then some ((off - 0x1000000) / 0x400000)
  else none

/-- The matrix target that serves an offset. -/
def targetAt (off : Nat) : Nat :=
  match reachAt off with
  | some n => 3 + n
  | none =>
    if 0x10000 ≤ off ∧ off < 0x20000 then 0
    else if 0x60000 ≤ off ∧ off < 0x68000 then 17
    else if 0xA0000 ≤ off ∧ off < 0xB0000 then 19
    else if 0x100000 ≤ off ∧ off < 0x200000 then 1
    else 16

/-- The backbone pair that the time island forwards a register block's accesses over: the host, hold and ferry islands
hold the registers of their own units (R28), the host island the command rings, queues and tolls among them. (Log entry 61 DESIGN CHOICE.) -/
def forwardPair (off : Nat) : Option Nat :=
  if (0x8000 ≤ off ∧ off < 0x10000) ∨ (0x30000 ≤ off ∧ off < 0x40000) then some 15
  else if 0x70000 ≤ off ∧ off < 0x80000 then some 17
  else if 0x80000 ≤ off ∧ off < 0x88000 then some 15
  else if 0x88000 ≤ off ∧ off < 0x90000 then some 16
  else none

/-- A link of a backbone pair has failed. -/
def Dev.pairFailed (d : Dev) (p : Nat) : Bool := (d.link (2 * p)).failed || (d.link (2 * p + 1)).failed

/-- The response of an access at an offset: 0 OK, 1 DECODE, 2 LINK (R403). (Log entry 61 DESIGN CHOICE.) -/
def Dev.respAt (d : Dev) (off : Nat) : Nat :=
  if unassigned off then 1
  else match reachAt off with
  | some n => if (d.rch n).isolated then 2 else 0
  | none => match forwardPair off with
    | some p => if d.pairFailed p then 2 else 0
    | none => 0

/-- The master that carries a requester's access. -/
def masterOf : Requester → Nat
  | .fn _ => 6
  | .master m => m.val

/-- The first error response since VALID was cleared captured (R405). -/
def Dev.captureErr (d : Dev) (m target resp addr : Nat) (wr : Bool) : Dev :=
  if d.on MTX_ERR_INFO_VALID then d else
  d.sets [(MTX_ERR_INFO_MASTER, m), (MTX_ERR_INFO_TARGET, if resp = 1 then 31 else target), (MTX_ERR_INFO_RESP, resp),
    (MTX_ERR_INFO_WRITE, b2n wr), (MTX_ERR_INFO_VALID, 1), (MTX_ERR_ADDR, addr), (MTX_ERR_TIME, stampOf d.now)]

/-- An error response handed on to its master: to the host as CA, a host write dropped (R404). -/
def Dev.handOn (d : Dev) (m resp addr : Nat) (wr : Bool) : Dev :=
  if m = 6 then (if wr then d.inc MTX_CNT_WDROP else (d.inc HST_CNT_CA).emit (.pcie 1 0)) else d.emit (.refuse (64 + m) addr resp)

/-- A decode error counted and raised (R405). -/
def Dev.decodeErr (d : Dev) (m addr : Nat) : Dev := (d.inc MTX_CNT_DECODE).raise 64 13 m 0 [addr % 2 ^ 32]

/-- An error response given to a master: counted, captured, handed on; a decode error raised (R404, R405, R411). -/
def Dev.respond (d : Dev) (m target resp addr : Nat) (wr : Bool) : Dev :=
  let d := if resp = 1 then d.decodeErr m addr else if resp = 2 then d.inc MTX_CNT_LINKERR else d
  (d.captureErr m target resp addr wr).handOn m resp addr wr

/-! ## Accesses that wait (R399, R411) -/

/-- The BAR0 offset that a function's or a master's address names; none for what only a VF's BAR0 holds. -/
def pf0Off : Requester → Nat → Option Nat
  | .master _, off => some off
  | .fn f, off =>
    if f.val = 0 then some off
    else if off < 0x40 then some (0x32000 + f.val * 0x40 + off)
    else if off = 0x100 then some 0
    else if off = 0x120 then some (TOL_CREDIT f.val).off
    else if off = 0x124 then some (TOL_RATE f.val).off
    else none

/-- The address space of the matrix that an address lies in: 0 the BAR0 map, 1 the boot ROM, 2 the step cache, 3 the hold;
none: no target, or one closed to the master (R398). -/
def spaceOf (m addr : Nat) : Option Nat :=
  let whDbg := m < 2 || m == 8
  if addr < 0x4000000 then some 0
  else if addr < 0x4040000 then (if whDbg then some 1 else none)
  else if 0x10000000 ≤ addr ∧ addr < 0x20000000 then (if whDbg then some 2 else none)
  else if 0x800000000000 ≤ addr ∧ addr < 0x810000000000 then
    (if whDbg || (decide (2 ≤ m) && decide (m ≤ 5)) || m == 7 then some 3 else none)
  else none

/-- The matrix target of a requester's address: 0-19, 31 for a decode error. -/
def targetOf (r : Requester) (addr : Nat) : Nat :=
  match spaceOf (masterOf r) addr with
  | some 0 =>
    (match pf0Off r addr with
      | some o => if unassigned o then 31 else targetAt o
      | none => if 0x8000 ≤ addr ∧ addr < 0x10000 then 1 else 16)
  | some 1 => 18
  | some 2 => 2
  | some _ => 15
  | none => 31

/-- How many reads, or writes, a master may hold outstanding (R400). -/
def mtxLimit : Nat → Bool → Nat
  | 6, _ => 32
  | 7, false => 16
  | 8, _ => 1
  | 9, _ => 16
  | _, _ => 64

/-- The reads, or writes, a master has at the matrix. -/
def Dev.mtxHas (d : Dev) (m : Nat) (wr : Bool) : Nat :=
  ((d.mtx.waits ++ d.mtx.hung).filter (fun q => masterOf q.req == m && q.wr.isSome == wr)).length

/-- Those it has outstanding: the others wait at its own port (R400). -/
def Dev.mtxOut (d : Dev) (m : Nat) (wr : Bool) : Nat := min (d.mtxHas m wr) (mtxLimit m wr)

/-- A waiting access is among its master's outstanding ones: the hung ones and those before it leave it a place (R400). -/
def Dev.mtxPlaced (d : Dev) (q : MtxReq) : Bool :=
  let k := masterOf q.req
  decide (((d.mtx.hung ++ d.mtx.waits.takeWhile (fun x => decide (x ≠ q))).filter
    (fun x => masterOf x.req == k && x.wr.isSome == q.wr.isSome)).length < mtxLimit k q.wr.isSome)

/-! ## Parked ports (R401) -/

/-- The default master of a target port after reset: the active wheelhouse, a DMA port, the CXL ingress. -/
def portHome (t : Nat) : Nat :=
  if t = 15 then 2 else if t = 16 ∨ t = 17 ∨ t = 19 then 6 else 0

/-- The master a target port is parked on, 10 while it arbitrates. -/
def Dev.parkOn (d : Dev) (t : Nat) : Nat := d.mtx.park.get (portHome t) t

/-- A target port parked on a master. -/
def Dev.setPark (d : Dev) (t m : Nat) : Dev := { d with mtx := { d.mtx with park := d.mtx.park.put (portHome t) t m } }

/-- A target port with no request pending parks on its default master. -/
def Dev.parkIdle (d : Dev) (t : Nat) : Dev :=
  if d.mtx.waits.any (fun q => targetOf q.req q.addr == t && d.mtxPlaced q) then d
  else d.setPark t (if portHome t = 0 then d.mtx.home else portHome t)

/-- Every target port without a request parks. -/
def Dev.parkPorts (d : Dev) : Dev := (List.range 20).foldl (fun d t => d.parkIdle t) d

/-- A claim raised for wheelhouse w: the ports parked on a wheelhouse are parked on it. -/
def Dev.reparkWh (d : Dev) (w : Nat) : Dev :=
  (List.range 20).foldl (fun d t => if d.parkOn t < 2 then d.setPark t w else d) { d with mtx := { d.mtx with home := w } }

/-! ## Master resets (R397, R407, R408) -/

/-- Words buffered at the output stages without their END are discarded. -/
def Dev.dropTorn (d : Dev) : Dev :=
  (List.range 99).foldl (fun d i => if (d.stage i).buf = 0 then d else d.setStage i { d.stage i with buf := 0 }) d

/-- Master k reset on its own: its requests withdrawn, its hung accesses and the responses owed to it dropped, a commit point it was
sending discarded; counted and logged. The recorder and the ferry complex never are. (Log entry 62 DESIGN CHOICE.) -/
def Dev.masterReset (d : Dev) (k : Nat) : Dev :=
  if k = 7 ∨ k = 9 then d else
  let other := fun (q : MtxReq) => masterOf q.req != k
  let d := ({ d with mtx := { d.mtx with waits := d.mtx.waits.filter other, hung := d.mtx.hung.filter other } }).parkPorts
  let d := if k < 2 then d.dropTorn else d
  let d := d.set MTX_STATUS_HUNG (putBit (d.get MTX_STATUS_HUNG) k false)
  (d.inc MTX_CNT_MRESET).raise 65 13 k 0 []

/-- Every access outstanding at a target whose link has failed completed with LINK. -/
def Dev.linkOut (d : Dev) (t : Nat) : Dev :=
  let l := d.mtx.waits.filter (fun q => targetOf q.req q.addr == t)
  let d := { d with mtx := { d.mtx with waits := d.mtx.waits.filter (fun q => targetOf q.req q.addr != t) } }
  (l.foldl (fun d q => d.respond (masterOf q.req) t 2 q.addr q.wr.isSome) d).parkPorts

end Sys2Proof.Machine
end

