-- ==== Sys2Proof/Machine/Power.lean ====
section
/-! DEFINITION. The block as a cold reset leaves it (R446, R453), and the registers that a reset keeps. -/

namespace Sys2Proof.Machine

/-- The block after a cold reset that is still held: every register at its reset value, the fabric parked at 0 V (R67), every
dark line asserted (R324), module time 0 (R140). (Log entries 6 DESIGN CHOICE, 7 DESIGN CHOICE.) -/
def dev0 : Dev where
  regs := Tab.empty
  mt := 0
  tick := 0
  out := []
  fresh := 0
  acc := { rlatch := Tab.empty, wlatch := Tab.empty }
  fab := { cells := Tab.empty, blks := Tab.empty, rchs := Tab.empty, inPrt := Tab.empty, outPrt := Tab.empty, links := Tab.empty,
           lamp := { owner := none, queue := [], off := false, shine := .dark, wave := 0 }, readAt := Tab.empty }
  tk := { store := Tab.empty, epoch := 1, list := [], gather := [], gMoves := [], gBreaks := [], gRoom := [] }
  cmd := { ops := Tab.empty, xings := Tab.empty, nextX := 0, heads := Tab.empty, ready := Tab.empty, solving := none,
           rings := Tab.empty, fetching := Tab.empty, turn := 0, between := false, tollAt := Tab.empty, tollChg := [] }
  tide := { tables := Tab.empty, runs := Tab.empty, sys := Tab.empty }
  man := { shadow := Tab.empty, active := Tab.empty, waiting := Tab.empty, commit := none, len := 0, miss := false }
  tps := { wroteA := 0, wroteB := 0, reading := none, prop := none, newKey := none }
  flt := { occs := Tab.empty, log := Tab.empty, seq := 0, l4At := none, safeAt := none, bell := false, agree := true }
  tim := { integ := 0, adj := 0, within := 0, beyond := 0, lastOk := 0, lastAny := 0, samples := [], gm := 0, gmPort := 0,
           master := 0, known := false, thermal := 0, snaps := Tab.empty, replica := Tab.empty, ppsOut := false, hold := false }
  cap := { loops := Tab.empty, groups := Tab.empty, open_ := Tab.empty, ripple := Tab.empty, gridAt := 0 }
  cal := { adc := Tab.empty, factory := Tab.empty, probes := Tab.empty, ff := Tab.empty, tref := Tab.empty, trig := Tab.empty,
           voa := Tab.empty, lamp := [], runs := Tab.empty, miss := false, loops := Tab.empty, waiting := [], dump := none }
  thm := { round := none, next := 0, rails := Tab.empty, prev := Tab.empty }
  whl := { wh := Tab.empty, stages := Tab.empty, inlet := 0, inletR := 0, none_ := false, outbox := [], frames := [], point := none,
           recent := [], lastCpn := 0, swap := false, leaseAt := none, want := false, stepAt := none }
  fry := { ports := Tab.empty, steps := 0, telAt := none, checks := Tab.empty }
  ilk := { slots := Tab.empty, srcs := Tab.empty, fwds := Tab.empty, lines := ⟨(List.range 512).map (fun o => (o, true))⟩,
           unconf := [], late := [], wd := false, rb := false, testAt := none, idle := Tab.empty }
  hld := { off := false, lost := false, cached := [], histAt := none, flush := [], turn := 63, reads := Tab.empty }
  svy := { convs := Tab.empty, rounds := Tab.empty, gw := Tab.empty, gwOn := none }
  rcd := { recs := Tab.empty }
  hst := { d3 := [], vfEn := false, numVfs := 0, ptr := 0, buf := none, pages := Tab.empty, compl := false, msix := Tab.empty, msixCtl := Tab.empty }
  mtx := { waits := [], hung := [], last := Tab.empty, park := Tab.empty, home := 0, cycles := Tab.empty }
  rst := { cold := true, phase := 0, src := 0, moorAt := 0, moorMs := 0, parkAt := 0, rstn := false, armM := none, armH := none,
           perst := true, dropped := 0, lost := [], rails := [] }

/-- Fields taken over from another device. -/
def Dev.carry (d old : Dev) : List Fld → Dev
  | [] => d
  | f :: l => (d.set f (old.get f)).carry old l

end Sys2Proof.Machine
end

