-- ==== Sys2Proof/Machine/State.lean ====
section
/-! DEFINITION. The machine's state, the reasons a step can stop, and the state after a cold reset. -/

namespace Sys2Proof.Machine

/-- Why the machine stops with a fault: the spec gives every command an effect, so there is no reason. -/
inductive Fault : Type
  deriving DecidableEq, Repr

/-- Why a command has no meaning. -/
inductive Refusal where
  /-- A command without a meaning yet, by its mnemonic: raised by exec's refused arms only. Safe: nothing is claimed
  of it. -/
  | notModelled (mnemonic : String)
  deriving DecidableEq, Repr

/-- The bytes of the hold (R379) in one canonical form; how often the HOST region has become undefined (R385), and where
it began then: both the model's own, they say what an unlisted byte reads as. -/
structure Memory where
  cells : List Host.Cell
  gen   : Nat
  host  : Nat
  deriving DecidableEq, Repr

/-- The block: all it holds, the bytes of the hold, and the commands that wait, first in first out. -/
structure State where
  dev     : Dev
  mem     : Memory
  pending : List Instr
  deriving DecidableEq, Repr

/-- The block right after a cold reset that is still held (R446, R453): its parts as dev0 gives them, no byte of the hold
listed, no command waiting. COLD_RESET_RELEASE starts it (R456). (Log entry 6 DESIGN CHOICE.) -/
def State.reset : State := { dev := dev0, mem := { cells := [], gen := 0, host := 0 }, pending := [] }

end Sys2Proof.Machine
end

