-- ==== Sys2Proof/Machine/Upd.lean ====
section
/-! DEFINITION. How a command's effect makes the next state. -/

namespace Sys2Proof.Machine

/-- What a command answers. -/
abbrev Ans := Host.Outcome State Fault Refusal

/-- Nothing but the reset logic runs: the cold reset is held (R446), or the islands of a module reset are (R449). (Log entry 2 DESIGN CHOICE.) -/
def State.held (s : State) : Bool := s.dev.rst.cold || s.dev.rst.phase == 3

/-- The next state, its device changed by f, whatever reset is held. (Log entry 3 DESIGN CHOICE.) -/
def State.updRst (s : State) (f : Dev → Dev) : Ans := .next { s with dev := f s.dev }

/-- The next state, device and hold bytes changed by f, whatever reset is held. -/
def State.updRstMem (s : State) (f : Dev → Memory → Dev × Memory) : Ans :=
  let r := f s.dev s.mem
  .next { s with dev := r.1, mem := r.2 }

/-- The next state, its device changed by f: the hold's bytes and the queue stay. A held reset lets nothing change. (Log entry 3 DESIGN CHOICE.) -/
def State.upd (s : State) (f : Dev → Dev) : Ans := if s.held then .next s else s.updRst f

/-- The next state, device and hold bytes changed by f. (Log entry 3 DESIGN CHOICE.) -/
def State.updMem (s : State) (f : Dev → Memory → Dev × Memory) : Ans :=
  if s.held then .next s else s.updRstMem f

/-- A register access that can change hold bytes too. (Log entry 3 DESIGN CHOICE.) -/
def State.accessMem (s : State) (f : Dev → Memory → Dev × Memory) : Ans :=
  if s.dev.on RST_STATUS_BOOT_DONE then s.updMem f else .next s

/-- A register access: answered from BOOT_DONE on (R456). (Log entries 3 DESIGN CHOICE, 10 DEDUCED.) -/
def State.access (s : State) (f : Dev → Dev) : Ans := if s.dev.on RST_STATUS_BOOT_DONE then s.upd f else .next s

end Sys2Proof.Machine
end

