-- ==== Sys2Proof/Machine/Entry.lean ====
section
/-! DEFINITION. How a register access with a row of its own comes in: who can name the register, how it is answered, and what becomes of the requester's latches (R8, R362, R403, R411, R498-R501). -/

namespace Sys2Proof.Machine

/-! ## Latches (R8, R499) -/

/-- The latches of a requester. -/
def Dev.setRlatch (d : Dev) (r : Requester) (x : Option (Nat × Nat)) : Dev :=
  { d with acc := { d.acc with rlatch := d.acc.rlatch.put none (reqKey r) x } }
def Dev.setWlatch (d : Dev) (r : Requester) (x : Option (Nat × Nat)) : Dev :=
  { d with acc := { d.acc with wlatch := d.acc.wlatch.put none (reqKey r) x } }

/-- The requester has accessed another register: its latched word and its held low word go. -/
def Dev.unlatch (d : Dev) (r : Requester) : Dev := (d.setRlatch r none).setWlatch r none

/-! ## Who reaches a register, and when -/

/-- A toll register's place within its toll place (R235). -/
def tollOffset : TollReg → Nat
  | .rate => 0
  | .depth => 4
  | .debt => 8
  | .weight => 12

/-- The requester can name a PF0 register: PF0 and the masters any, a VF those of its own ring group (R361, R398). -/
def canName (r : Requester) (off : Nat) : Bool :=
  match r with
  | .master _ => true
  | .fn f => f.val == 0 || (decide (0x32000 + f.val * 0x40 ≤ off) && decide (off < 0x32040 + f.val * 0x40))

/-- An access of the debug master to TST registers is answered before BOOT_DONE too. (Log entry 10 DEDUCED.) -/
def debugTst (r : Requester) (off : Nat) : Bool := masterOf r == 8 && decide (0xE1000 ≤ off) && decide (off < 0xF0000)

/-- A write, by requester r, of the PF0 register at off that has a row of its own: an error response where its island cannot be
reached, else the row's effect f. -/
def Dev.ownWrite (d : Dev) (r : Requester) (off : Nat) (f : Dev → Dev) : Dev :=
  if !canName r off then d
  else if d.respAt off ≠ 0 then d.respond (masterOf r) (targetAt off) (d.respAt off) off true
  else f (d.unlatch r)

/-- A read of such a register. -/
def Dev.ownRead (d : Dev) (r : Requester) (off : Nat) (f : Dev → Dev) : Dev :=
  if !canName r off then d
  else if d.respAt off ≠ 0 then d.respond (masterOf r) (targetAt off) (d.respAt off) off false
  else f d

/-- The same where the effect can change bytes of the hold. -/
def Dev.ownWriteMem (d : Dev) (m : Memory) (r : Requester) (off : Nat) (f : Dev → Memory → Dev × Memory) : Dev × Memory :=
  if !canName r off then (d, m)
  else if d.respAt off ≠ 0 then (d.respond (masterOf r) (targetAt off) (d.respAt off) off true, m)
  else f (d.unlatch r) m

/-- A register access at an offset: answered from BOOT_DONE on, or to the debug master's TST accesses. -/
def State.accessBy (s : State) (r : Requester) (off : Nat) (f : Dev → Dev) : Ans :=
  if debugTst r off then s.upd f else s.access f

/-- The row of a register write. -/
def State.own (s : State) (r : Requester) (off : Nat) (f : Dev → Dev) : Ans := s.access (fun d => d.ownWrite r off f)

/-- The row of a register write that can change bytes of the hold. -/
def State.ownMem (s : State) (r : Requester) (off : Nat) (f : Dev → Memory → Dev × Memory) : Ans :=
  s.accessMem (fun d m => d.ownWriteMem m r off f)

end Sys2Proof.Machine
end

