-- ==== Sys2Proof/Machine/Coherent.lean ====
section
/-! DEFINITION. Host events (R368-R370) and the device's coherent reads of host memory through the windows (R356, R364). -/

namespace Sys2Proof.Machine

/-- The attributes of what the device puts on CXL.io (R358): No Snoop, Relaxed Ordering, ID-Based Ordering; none for what is no memory request
there. Reads are not snooped, writes are. -/
def Out.attrs : Out → Option (Bool × Bool × Bool)
  | .hostRead _ _ _ => some (true, false, false)
  | .hostWrite _ _ _ => some (false, false, false)
  | .hostBytes _ _ _ => some (false, false, false)
  | .result _ _ _ => some (false, false, false)
  | .msix _ _ _ _ => some (false, false, false)
  | _ => none

/-- The counter of a kind of host event, if it has one. -/
def Dev.hostCount (d : Dev) (kind : Nat) : Dev :=
  if kind = 1 ∨ kind = 2 then d.inc HST_CNT_UR
  else if kind = 3 then d.inc HST_CNT_CA
  else if kind = 4 then d.inc HST_CNT_POISON
  else if kind = 7 then (d.inc HST_CNT_POISON).inc HST_CNT_READFAIL
  else if kind = 5 ∨ kind = 6 ∨ kind = 8 ∨ kind = 12 then d.inc HST_CNT_READFAIL
  else d

/-- An event of R368 or R369 (KIND as in HST_ERR_INFO) of a function: counted, the first since VALID was cleared
captured with its TLP header, HOST_ERR told, its class raised. (Log entry 59 PRESUMED.) -/
def Dev.hostErr (d : Dev) (kind f : Nat) (hdr : List Nat) (fatal : Bool) : Dev :=
  let d := d.hostCount kind
  let d := if d.on HST_ERR_INFO_VALID then d.addSat HST_ERR_INFO_COUNT 1 else
    (List.range 4).foldl (fun d q => d.set (HST_ERR_HDR q) (hdr.getD q 0))
      (d.sets [(HST_ERR_INFO_KIND, kind), (HST_ERR_INFO_FUNC, f), (HST_ERR_INFO_VALID, 1), (HST_ERR_INFO_COUNT, 0),
        (HST_ERR_TIME, stampOf d.now)])
  (d.irq .hostErr).raise (if fatal then 80 else 81) 0 0 0 []

/-- The lowest-numbered enabled window of function f that contains a 4 KiB page. (Log entry 58 DESIGN CHOICE.) -/
def Dev.windowOf (d : Dev) (f page : Nat) : Option Nat :=
  (List.range 64).find? (fun n => d.on (HST_WIN_CTL_EN n) && d.get (HST_WIN_CTL_FUNC n) == f
    && decide (d.get (HST_WIN_DEV n) ≤ page) && decide (page < d.get (HST_WIN_DEV n) + d.get (HST_WIN_SIZE n)))

/-- The pages of n bytes from an address on. -/
def pagesOf (addr n : Nat) : List Nat :=
  if n = 0 then [] else (List.range ((addr + n - 1) / 4096 + 1 - addr / 4096)).map (fun j => addr / 4096 + j)

/-- Function f's read of one page's part of n bytes at an address, as its window maps it. (Log entry 58 DESIGN CHOICE.) -/
def Dev.cachePage (d : Dev) (f addr n page : Nat) : Dev :=
  match d.windowOf f page with
  | none => d
  | some w =>
    let lo := max addr (page * 4096)
    d.emit (.cacheRead ((d.get (HST_WIN_HPA w) + (page - d.get (HST_WIN_DEV w))) * 4096 + lo % 4096) (min (addr + n) (page * 4096 + 4096) - lo))

/-- A coherent read by function f asked for, each part through its own window; and whether it can go through: it fails as
a plain PCIe endpoint, and outside every window (WINDOW_MISS). (Log entry 58 DESIGN CHOICE.) -/
def Dev.cohRead (d : Dev) (f addr n : Nat) : Dev × Bool :=
  if d.on HST_STATUS_PCIE_ONLY then (d, false)
  else if (pagesOf addr n).any (fun p => (d.windowOf f p).isNone) then (d.hostErr 12 f [] false, false)
  else ((pagesOf addr n).foldl (fun d p => d.cachePage f addr n p) d, true)

end Sys2Proof.Machine
end

