-- ==== Sys2Proof/Machine/Lanes.lean ====
section
/-! DEFINITION. Ferry ports: class queues, sending, acknowledgement and replay, violations, and how a port goes down (R330-R344). -/

namespace Sys2Proof.Machine

/-! ## Frames (R333, R334) -/

/-- A frame type: its class, its length (0: that of R351) and whether it is sequenced. -/
def typeRow (t : Nat) : Option (Nat × Nat × Bool) :=
  if 1 ≤ t ∧ t ≤ 5 then some (0, 64, true)
  else if 0x10 ≤ t ∧ t ≤ 0x12 then some (2, 64, false)
  else if t = 0x20 then some (1, 64, true)
  else if t = 0x40 then some (3, 0, true)
  else if t = 0x50 then some (3, 128, true)
  else if t = 0x70 ∨ t = 0x71 then some (3, 64, false)
  else none

/-- The length is one the type can have. -/
def lengthOk (t n : Nat) : Bool :=
  match typeRow t with
  | some (_, 0, _) => decide (128 ≤ n ∧ n ≤ 640) && n % 64 == 0
  | some (_, b, _) => n == b
  | none => false

/-- A sequenced type. -/
def sequenced (t : Nat) : Bool := match typeRow t with | some (_, _, s) => s | none => false

/-- A frame of this module's own: HOPS 15, padded with zero words up to its CRC. -/
def Dev.frame (d : Dev) (typ : Nat) (bcast : Bool) (dst : Nat) (words : List Nat) : Frame :=
  let r := (typeRow typ).getD (0, 64, false)
  let n := if r.2.1 = 0 then words.length * 4 + 20 else r.2.1
  { typ, cls := r.1, bcast, length := n, hops := 15, src := d.moduleId, dst, lseq := 0,
    words := words ++ List.replicate ((n - 20) / 4 - words.length) 0, crcOk := true, win := decide (r.1 < 3) }

/-- A frame as its words, header and CRC with it (R333). -/
def frameWords (f : Frame) : List Nat :=
  let l := [f.typ % 256 + f.cls % 4 * 256 + b2n f.bcast * 1024 + f.length % 2048 * 4096 + f.hops % 16 * 2 ^ 23,
            f.src % 4096 + f.dst % 4096 * 4096, f.lseq % 4096, 0] ++ f.words
  l ++ [crc32c l]

/-- A frame read from its words: the header, the payload up to the CRC in the last 4 bytes that LENGTH names (R333). -/
def readFrame (x : RawFrame) : Frame :=
  let g := fun j => x.words.getD j 0
  let n := bits (g 0) 12 11
  let m := n / 4 - 1
  { typ := bits (g 0) 0 8, cls := bits (g 0) 8 2, bcast := bit (g 0) 10, length := n, hops := bits (g 0) 23 4, src := bits (g 1) 0 12,
    dst := bits (g 1) 12 12, lseq := bits (g 2) 0 12, words := (x.words.drop 4).take (m - 4),
    crcOk := x.words.length == n / 4 && crc32c (x.words.take m) == g m, win := x.win }

/-- The frame put on the line of port k; the codeword's ACK names the last LSEQ accepted (R327, R339). -/
def Dev.sendOn (d : Dev) (k : Nat) (f : Frame) : Dev := d.emit (.ferry k f.win (((d.fryP k).rx + 4095) % 4096) (frameWords f))

/-! ## Sending (R336, R337, R339, R340, R346) -/

/-- The queue of a class, and with it replaced. -/
def FryPort.queue (p : FryPort) : Nat → List QFrame
  | 0 => p.tc0
  | 1 => p.tc1
  | 2 => p.tc2
  | _ => p.tc3
def FryPort.setQueue (p : FryPort) (c : Nat) (l : List QFrame) : FryPort :=
  match c with
  | 0 => { p with tc0 := l }
  | 1 => { p with tc1 := l }
  | 2 => { p with tc2 := l }
  | _ => { p with tc3 := l }

/-- The bytes of a list of frames in a queue. -/
def queueBytes (l : List QFrame) : Nat := (l.map (fun q => q.frame.length)).sum

/-- A sequenced frame can be sent: it is a replay, or the retry buffer has room (R340). -/
def FryPort.room (p : FryPort) (q : QFrame) : Bool :=
  !sequenced q.frame.typ || q.again
    || (decide (p.retry.length < 1024) && decide ((p.retry.map (fun f => f.length)).sum + q.frame.length ≤ 262144))

/-- One frame put on the line: a sequenced one takes its LSEQ and is held; SYNC takes T1 and DELAY_REQ gives T3. -/
def Dev.transmit (d : Dev) (k : Nat) (q : QFrame) : Dev :=
  let p := d.fryP k
  let f := q.frame
  if q.again then d.sendOn k f
  else if sequenced f.typ then
    let f := { f with lseq := p.tx }
    (d.setFryP k { p with tx := (p.tx + 1) % 4096, retry := p.retry ++ [f],
                          ackTick := if p.retry.isEmpty then d.tick else p.ackTick }).sendOn k f
  else if f.typ = 0x10 then
    let s := stampOf d.now
    let ws := [s % 2 ^ 32, s / 2 ^ 32, d.fine % 65536 + f.words.getD 2 0 / 65536 * 65536] ++ f.words.drop 3
    d.sendOn k { f with words := ws }
  else if f.typ = 0x11 then
    (d.setFryP k { p with taker := p.taker.map (fun t => { t with t3 := some d.fine }) }).sendOn k f
  else d.sendOn k f

/-- TC3 frames sent while the retry buffer has room: they go anywhere in the stream. n bounds the frames. -/
def Dev.pump (d : Dev) (k : Nat) : Nat → Dev
  | 0 => d
  | n + 1 =>
    match (d.fryP k).tc3 with
    | [] => d
    | q :: l =>
      if (d.fryP k).room q then ((d.setFryP k { d.fryP k with tc3 := l }).transmit k q).pump k n else d

/-- A frame for the egress queue of its class on port k; control frames go at once. A full queue drops it (R337). -/
def Dev.enqueue (d : Dev) (k : Nat) (f : Frame) : Dev :=
  if f.typ = 0x70 ∨ f.typ = 0x71 then d.sendOn k f
  else if d.get (FRY_PORT_STATUS_STATE k) ≠ 2 then d
  else
    let p := d.fryP k
    let l := p.queue f.cls
    if 65536 < queueBytes l + f.length then d.inc (FRY_PORT_CNT_QFULL k)
    else
      let d := d.setFryP k (p.setQueue f.cls (l ++ [{ frame := f, again := false, waited := 0 }]))
      if f.cls = 3 then d.pump k (l.length + 1) else d

/-- The class whose head is served next in a window: TC0, TC1, TC2, a TC1 or TC2 head that has waited through 4
windows first. -/
def FryPort.nextClass (p : FryPort) : Option Nat :=
  let old := fun (l : List QFrame) => match l.head? with | some q => decide (4 ≤ q.waited) | none => false
  if old p.tc1 then some 1 else if old p.tc2 then some 2
  else if !p.tc0.isEmpty then some 0 else if !p.tc1.isEmpty then some 1 else if !p.tc2.isEmpty then some 2 else none

/-- Time-critical frames sent in a window with b bytes left, until one does not fit. n bounds the frames. -/
def Dev.fill (d : Dev) (k b : Nat) : Nat → Dev
  | 0 => d
  | n + 1 =>
    let p := d.fryP k
    match p.nextClass with
    | none => d
    | some c =>
      match p.queue c with
      | [] => d
      | q :: l =>
        if q.frame.length ≤ b ∧ p.room q = true then
          ((d.setFryP k (p.setQueue c l)).transmit k q).fill k (b - q.frame.length) n
        else d

/-- Every frame left in the time-critical queues has waited through one more window. -/
def FryPort.age (p : FryPort) : FryPort :=
  let a := fun (l : List QFrame) => l.map (fun q => { q with waited := q.waited + 1 })
  { p with tc0 := a p.tc0, tc1 := a p.tc1, tc2 := a p.tc2 }

/-- A replay of the held frames from LSEQ s onward, each in its own class before what waits there (R340). -/
def FryPort.replay (p : FryPort) (s : Nat) : FryPort :=
  let l := p.retry.dropWhile (fun f => f.lseq != s)
  let again := fun (c : Nat) (q : List QFrame) =>
    (l.filter (fun f => f.cls == c)).map (fun f => ({ frame := f, again := true, waited := 0 } : QFrame))
      ++ q.filter (fun x => !x.again)
  { p with tc0 := again 0 p.tc0, tc1 := again 1 p.tc1, tc2 := again 2 p.tc2, tc3 := again 3 p.tc3,
           rptSeq := s, rptCnt := if p.rptSeq = s ∧ p.rptCnt ≠ 0 then p.rptCnt + 1 else 1 }

/-- A replay is in progress: frames of it have not been sent. -/
def FryPort.replaying (p : FryPort) : Bool := (p.tc0 ++ p.tc1 ++ p.tc2 ++ p.tc3).any (fun q => q.again)

/-! ## A port goes down (R341, R343, R344) -/

/-- A port DOWN with its cause: 1 LOCK, 2 VIOLATIONS, 3 REPLAY, 4 LOOP; FRY_LANE_DOWN at the lane or at 16 + k. -/
def Dev.portDown (d : Dev) (k cause loc : Nat) : Dev :=
  let d := (d.set (FRY_PORT_STATUS_STATE k) 3).set (FRY_PORT_STATUS_CAUSE k) cause
  let d := d.setFryP k { (d.fryP k).emptied with cause, downAt := d.tick }
  d.markUp.raise 96 10 loc 0 []

/-! ## Violations (R342) -/

/-- A violation by the partner: the frame dropped, a NAK sent, the reason and the second's total counted. -/
def Dev.violation (d : Dev) (k reason lseq : Nat) (replay : Bool) : Dev :=
  let d := (d.setFryP k { d.fryP k with viol := (d.fryP k).viol + 1 }).inc (FRY_PORT_CNT_VIOL k reason)
  let d := d.enqueue k (d.frame 0x71 false 0 [lseq % 4096 + reason * 65536 + b2n replay * 1048576])
  d.raise 97 10 (16 + k) 0 []

/-! ## Routing (R331, R349) -/

/-- The port that leads to module m: PORT, else ALT, where its entry is VALID and the port UP; none without. -/
def Dev.portTo (d : Dev) (m : Nat) : Option Nat :=
  let up := fun k => d.get (FRY_PORT_STATUS_STATE k) == 2
  if d.on (FRY_ROUTE_VALID m) && up (d.get (FRY_ROUTE_PORT m)) then some (d.get (FRY_ROUTE_PORT m))
  else if d.on (FRY_ROUTE_ALT_VALID m) && up (d.get (FRY_ROUTE_ALT m)) then some (d.get (FRY_ROUTE_ALT m))
  else none

/-- A frame of this module's own for module m: TYPE and payload, queued at the port that leads there, dropped and
counted without one. Crossing frames wait for an active wheelhouse (R279, R348), but a DECISION_REPORT, which the fault collector
sends too (R449). -/
def Dev.sendFrame (d : Dev) (typ m : Nat) (payload : List Nat) : Dev :=
  if typ ≤ 3 ∧ d.acting = false then { d with whl := { d.whl with outbox := d.whl.outbox ++ [(typ, m, payload)] } }
  else match d.portTo m with
  | some k => d.enqueue k (d.frame typ false m payload)
  | none => d.inc FRY_CNT_NOROUTE

/-- A broadcast of this module's own: on every UP port with FWD_BCAST. -/
def Dev.broadcast (d : Dev) (f : Frame) (skip : Option Nat) : Dev :=
  (List.range 8).foldl (fun d k =>
    if some k ≠ skip ∧ d.on (FRY_PORT_CTL_FWD_BCAST k) = true ∧ d.get (FRY_PORT_STATUS_STATE k) = 2
        ∧ (f.typ ≠ 0x20 ∨ d.safetyA k = true) then d.enqueue k f else d) d

/-- A received frame that is not for this module, forwarded from port k or dropped with NO_ROUTE. -/
def Dev.forward (d : Dev) (k : Nat) (f : Frame) : Dev :=
  let dest := if f.hops = 0 then none else
    match d.portTo f.dst with
    | some j => if f.typ = 0x20 ∧ d.safetyA j = false then none else some j
    | none => none
  match dest with
  | some j => d.enqueue j { f with hops := f.hops - 1, lseq := 0 }
  | none => (d.inc FRY_CNT_NOROUTE).violation k 6 f.lseq false

/-! ## Receiving (R331, R339, R342) -/

/-- Types used by the receiving port only. -/
def linkLocal (t : Nat) : Bool := (decide (0x10 ≤ t) && decide (t ≤ 0x12)) || t == 0x70 || t == 0x71

/-- The LSEQ has passed: it is one of the 2,048 before the next expected. -/
def passed (rx s : Nat) : Bool := decide (1 ≤ (rx + 4096 - s % 4096) % 4096 ∧ (rx + 4096 - s % 4096) % 4096 ≤ 2048)

/-- The LSEQ of a sequenced frame consumed. -/
def Dev.consume (d : Dev) (k : Nat) (f : Frame) : Dev :=
  if sequenced f.typ then d.setFryP k { d.fryP k with rx := ((d.fryP k).rx + 1) % 4096 } else d

/-- A frame received on port k, checked in the order length, CRC, type, LSEQ, class, length of its type; what is for
this module goes to deliver, the rest is forwarded. (Log entry 45 DEDUCED.) -/
def Dev.receive (d : Dev) (k : Nat) (f : Frame) (deliver : Dev → Dev) : Dev :=
  let p := d.fryP k
  if d.get (FRY_PORT_STATUS_STATE k) ≠ 2 ∨ p.discard = true then d
  else if f.length < 64 ∨ 1024 < f.length ∨ f.length % 8 ≠ 0 then
    (d.setFryP k { p with discard := true }).violation k 4 p.rx true
  else if f.crcOk = false then d.violation k 1 p.rx true
  else match typeRow f.typ with
  | none =>
    (if f.lseq = p.rx then d.setFryP k { p with rx := (p.rx + 1) % 4096 } else d).violation k 3 f.lseq false
  | some (c, _, sq) =>
    if sq && passed p.rx f.lseq then d
    else if sq && f.lseq % 4096 != p.rx then d.violation k 2 p.rx true
    else
      let d := d.consume k f
      if f.cls ≠ c ∨ (c < 3 ∧ f.win = false) then d.violation k 3 f.lseq false
      else if !lengthOk f.typ f.length then d.violation k 4 f.lseq false
      else if f.typ = 0x20 ∧ d.safetyA k = false then d.violation k 5 f.lseq false
      else if linkLocal f.typ then deliver d
      else if f.bcast then
        let d := deliver d
        if f.hops = 0 then d else d.broadcast { f with hops := f.hops - 1, lseq := 0 } (some k)
      else if f.dst = d.moduleId then deliver d
      else d.forward k f

/-- A received frame of one type: the row of another type has no effect. -/
def Dev.receiveAs (d : Dev) (typ k : Nat) (f : Frame) (deliver : Dev → Dev) : Dev :=
  if f.typ = typ then d.receive k f deliver else d

end Sys2Proof.Machine
end

