-- ==== Sys2Proof/Machine/Queue.lean ====
section
/-! DEFINITION. Operations from fetch to FINAL completion: queues, tags, tolls, admission, selection, refusal, and the commit of a crossing (R103-R117, R215-R234). -/

namespace Sys2Proof.Machine

/-! ## Tags and counts (R117, R223) -/

/-- Tags in use: of operations, and of completions held on chip. -/
def Dev.tagUsed (d : Dev) (t : Nat) : Bool :=
  (d.op t).isSome || d.cmd.rings.cells.any (fun c => c.2.held.any (fun e => e.tag == t && e.kind == 0))

/-- The lowest free 14-bit tag. -/
def Dev.freeTag (d : Dev) : Option Nat := (List.range 16384).find? (fun t => !d.tagUsed t)

/-- Operations outstanding of a function, of a ring, and in all: until their FINAL entries are written. -/
def Dev.heldFinals (d : Dev) (g : Nat) : Nat := ((d.ring (cqGroup g)).held.filter (fun e => e.kind == 0 && !e.cancel)).length
def Dev.outOf (d : Dev) (f : Nat) : Nat := (d.allOps.filter (fun o => o.fn == f)).length + d.heldFinals f
def Dev.outRing (d : Dev) (g : Nat) : Nat :=
  (d.allOps.filter (fun o => o.ring == g)).length
    + ((d.ring (cqGroup g)).held.filter (fun e => e.kind == 0 && (e.bulk == (g == 64)))).length
def Dev.outAll (d : Dev) : Nat :=
  d.allOps.length + d.cmd.rings.cells.foldl (fun n c => n + (c.2.held.filter (fun e => e.kind == 0)).length) 0

/-- The function of ring group g, and the queue its entries wait in (R215, R226). -/
def ringFn (g : Nat) : Nat := if g = 64 then 0 else g
def queueOf (g : Nat) : Nat := if g = 0 then 1 else if g = 64 then 4 else 4 + g

/-- QUOTA_STOP of every ring of group g's function follows its count (R223). -/
def Dev.quotaMark (d : Dev) (g : Nat) : Dev :=
  let stop := decide (d.get (CMD_FN_QUOTA (ringFn g)) ≤ d.outOf (ringFn g))
  if ringFn g = 0 then (d.setB (RING_STATUS_QUOTA_STOP 0) stop).setB (RING_STATUS_QUOTA_STOP 64) stop
  else d.setB (RING_STATUS_QUOTA_STOP g) stop

/-- Entries being read, of a function and in all: each will be an operation outstanding. -/
def Dev.reads (d : Dev) (g : Nat) : Nat := d.cmd.fetching.get 0 g
def Dev.setReads (d : Dev) (g n : Nat) : Dev := { d with cmd := { d.cmd with fetching := d.cmd.fetching.put 0 g n } }
def Dev.readsOf (d : Dev) (f : Nat) : Nat := d.reads f + (if f = 0 then d.reads 64 else 0)
def Dev.readsAll (d : Dev) : Nat := (d.cmd.fetching.cells.map (·.2)).sum

/-- Fetching of group g goes on: enabled, completions have room, quota and R117 not reached, the module not safe, the
link up and the function in D0; one entry of a group is read at a time. (Log entry 83 DESIGN CHOICE.) -/
def Dev.fetches (d : Dev) (g : Nat) : Bool :=
  d.on (RING_CFG_SQ_EN g) && d.reads g == 0 && d.on (RING_CFG_CQ_EN (cqGroup g)) && !d.cqFull (cqGroup g)
    && (d.ring (cqGroup g)).held.isEmpty && decide (d.outOf (ringFn g) + d.readsOf (ringFn g) < d.get (CMD_FN_QUOTA (ringFn g)))
    && decide (d.outAll + d.readsAll < 16384) && !d.still && d.on HST_STATUS_LINK_UP && d.inletRoom && !d.whl.none_
    && !(d.on (RING_CFG_SQ_COH g) && d.on HST_STATUS_PCIE_ONLY) && !d.hst.d3.contains (ringFn g)

/-- The ring stopped with an error: SQ_ERR set, SQ_EN cleared (R222, R369). -/
def Dev.sqError (d : Dev) (g : Nat) : Dev :=
  ((d.setB (RING_STATUS_SQ_ERR g) true).setB (RING_CFG_SQ_EN g) false).setReads g 0

/-- The read of the next entry issued, where fetching goes on and one waits (R366). -/
def Dev.askEntry (d : Dev) (g : Nat) : Dev :=
  if d.fetches g && d.get (SQ_HEAD g) != d.get (SQ_TAIL g) then
    let a := d.get (SQ_BASE g) * 64 + d.get (SQ_HEAD g) * 64
    if d.on (RING_CFG_SQ_COH g) then
      let r := d.cohRead (ringFn g) a 64
      if r.2 then r.1.setReads g 1 else r.1.sqError g
    else (d.emit (.hostRead (ringFn g) a 64)).setReads g 1
  else d

/-- The quota of function f changed: QUOTA_STOP and the fetching of its rings follow it (R223, R249). -/
def Dev.quotaChanged (d : Dev) (f : Nat) : Dev :=
  let d := (d.quotaMark f).askEntry f
  if f = 0 then d.askEntry 64 else d

/-- Fetching goes on in every group that may (R117, R223). -/
def Dev.askAll (d : Dev) : Dev := (List.range 65).foldl (fun d g => d.askEntry g) d

/-! ## Tolls (R230, R231) -/

/-- The provisional cost of an operation (R231). -/
def Op.cost (o : Op) : Nat :=
  if o.entry.opcode = 1 ∨ o.entry.opcode = 8 then
    ((entryItems o.entry).map (fun w => if itemKind w = 0 then 27 else 1)).sum
  else if o.entry.opcode = 3 then 1 else 0

/-- The signed credit of place f, in 1/256 credit. (Log entry 73 DESIGN CHOICE.) -/
def Dev.credit (d : Dev) (f : Nat) : Int := sgn 32 (d.get (TOL_CREDIT f))
def Dev.setCredit (d : Dev) (f : Nat) (c : Int) : Dev := d.set (TOL_CREDIT f) (uns 32 c)

/-- An operation of cost c that place f can never pay (R230). -/
def Dev.tooDear (d : Dev) (f c : Nat) : Bool := decide (d.get (TOL_DEPTH f) + d.get (TOL_DEBT f) < c)

/-- An operation of cost c does not wait at the toll gate of place f (R230): place 0 has none, and one that the place can never pay is
refused by step 1 of R224. (Log entry 73 DESIGN CHOICE.) -/
def Dev.passesGate (d : Dev) (f c : Nat) : Bool :=
  f == 0 || d.tooDear f c || decide ((c * 256 : Int) ≤ d.credit f)
    || (d.credit f == (d.get (TOL_DEPTH f) * 256 : Nat)
        && decide (-((d.get (TOL_DEBT f) * 256 : Nat) : Int) ≤ d.credit f - (c * 256 : Nat)))

/-- The operation a queue entry stands for. -/
def Dev.opOf (d : Dev) (w : Work) : Option Op := match w with | .op t => d.op t | _ => none

/-- The credit of place f and its wait count carried to the whole microsecond reached. (Log entry 73 DESIGN CHOICE.) -/
def Dev.settleToll (d : Dev) (f : Nat) : Dev :=
  if f = 0 then d else
  let us := d.now / 1000
  let dt := us - d.cmd.tollAt.get 0 f
  let rate := d.get (TOL_RATE f)
  let top : Int := (d.get (TOL_DEPTH f) * 256 : Nat)
  let c := d.credit f
  let busy := !(d.heads (4 + f)).isEmpty || !(d.ready (4 + f)).isEmpty
  let k := if busy then dt else if c < 0 ∧ rate ≠ 0 then min dt (((-c).toNat + rate - 1) / rate) else 0
  let c' := if c < top then min top (c + (k * rate : Nat)) else c
  let waits := match (d.heads (4 + f)).head?.bind d.opOf with
    | some o => if d.passesGate f o.cost then 0 else
      let need := (min ((o.cost * 256 : Nat) : Int) top - c).toNat
      if rate = 0 then dt else min dt ((need + rate - 1) / rate)
    | none => 0
  let d := (d.setCredit f c').set (TOL_CNT_WAIT f) (d.get (TOL_CNT_WAIT f) + waits)
  { d with cmd := { d.cmd with tollAt := d.cmd.tollAt.put 0 f us } }

/-- Every place settled. (Log entry 73 DESIGN CHOICE.) -/
def Dev.settleTolls (d : Dev) : Dev := (List.range 64).foldl (fun d f => d.settleToll f) d

/-- A charge of c credits (negative: a refund) on place f: never below -DEBT, a refund never above DEPTH (R231). -/
def Dev.charge (d : Dev) (f : Nat) (c : Int) : Dev :=
  if f = 0 then d else
  let d := d.settleToll f
  let lo : Int := -((d.get (TOL_DEBT f) * 256 : Nat) : Int)
  let hi : Int := (d.get (TOL_DEPTH f) * 256 : Nat)
  let v := d.credit f - c * 256
  d.setCredit f (if 0 ≤ c then max lo v else min (max hi (d.credit f)) v)

/-! ## Completions (R218, R220, R225) -/

/-- CROSSING and SYS_PART carry makes and breaks. -/
def Op.isCrossing (o : Op) : Bool := o.entry.opcode == 1 || o.entry.opcode == 8

/-- The ticket of each item, in item order: of a make the one it created (0 before that), of a break the one it names. -/
def Op.itemTkts (o : Op) : List Nat :=
  if !o.isCrossing then List.replicate o.entry.items 0 else
  ((List.range o.entry.items).foldl (fun (a : List Nat × List Nat) j =>
    let w := (entryItems o.entry).getD j 0
    if itemKind w = 1 then (a.1 ++ [breakOf w], a.2) else (a.1 ++ [a.2.headD 0], a.2.drop 1)) ([], o.makes)).1

/-- The ticket that an operation's completion carries: that of TKT_PRIO, or its one item's. -/
def Op.oneTicket (o : Op) : Nat :=
  if o.entry.opcode = 3 then bits o.entry.arg 0 14
  else if o.entry.items = 1 then o.itemTkts.headD 0 else 0

/-- A completion entry of an operation. -/
def Op.cqe (o : Op) (kind status instant info : Nat) : Cqe :=
  { tag := o.tag, kind, status, bulk := o.ring == 64, user := o.entry.user,
    instant := if instant = 0 then 0 else stampOf instant, ticket := o.oneTicket,
    table := if 4 ≤ o.entry.opcode ∧ o.entry.opcode ≤ 7 then bits o.entry.arg 0 10 else 0, info, cancel := o.entry.opcode == 2 }

/-- The operation has an item list, with room for a result word of each item (R217, R218). -/
def Op.hasList (o : Op) : Bool := (o.isCrossing || o.entry.opcode == 9) && decide (2 ≤ o.entry.items ∧ o.entry.items ≤ 1024)

/-- The result word of item j written: its ticket, a status and VALID (R218). (Log entry 28 DESIGN CHOICE.) -/
def Dev.resultWord (d : Dev) (o : Op) (j t status : Nat) : Dev :=
  d.emit (.result o.fn (o.entry.list + 4 * o.entry.items + 4 * j) (t % 16384 + status * 65536 + 2147483648))

/-- Every result word of an operation written with status ADMITTED, before its first completion entry (R218). -/
def Dev.results (d : Dev) (o : Op) : Dev :=
  if o.noted || !o.hasList then d else o.itemTkts.zipIdx.foldl (fun d x => d.resultWord o x.2 x.1 2) d

/-- Result words rewritten before a FINAL entry, where an item's outcome is not its status: the items of tickets that the
crossing made or broke, and breaks whose STRANDED ticket was freed at admission, are DONE (R218, R219). (Log entry 28 DESIGN CHOICE.) -/
def Dev.rewrite (d : Dev) (o : Op) (status : Nat) (did : List Nat) : Dev :=
  if status = 0 ∨ o.hasList = false ∨ o.isCrossing = false then d else
  o.itemTkts.zipIdx.foldl (fun d x =>
    let free := o.admitted && itemKind ((entryItems o.entry).getD x.2 0) == 1 && !o.breaks.contains x.1
    if free || did.contains x.1 then d.resultWord o x.2 x.1 0 else d) d

/-- The FINAL completion of an operation, did: the tickets whose makes and breaks have executed where not all have. Its tag is free
once the entry is written, and fetching goes on (R117, R223). -/
def Dev.finishAs (d : Dev) (o : Op) (status instant info : Nat) (did : List Nat) : Dev :=
  let d := (d.results o).rewrite o status did
  (((d.setOp o.tag none).postCqe o.ring (o.cqe 0 status instant info)).quotaMark o.ring).askAll

/-- The FINAL completion of an operation. -/
def Dev.finish (d : Dev) (o : Op) (status instant info : Nat) : Dev := d.finishAs o status instant info []

/-- Statuses that are refusals (R106, R225). -/
def refusal (s : Nat) : Bool := s != 0 && s != 1 && s != 2 && s != 3 && s != 0x11 && s != 0x15

/-- An operation refused with a status; LATE is counted apart too (R136). -/
def Dev.refuseOp (d : Dev) (o : Op) (status info : Nat) : Dev :=
  let d := d.inc CMD_CNT_REFUSED
  let d := if status = 0x10 then d.inc XNG_CNT_LATE else d
  d.finish o status 0 info

/-! ## System crossings (R131-R135) -/

/-- A system crossing this module knows nothing of yet. -/
def sys0 (id : Nat) : Sys :=
  { id, coord := false, instant := 0, members := [], proposed := false, votes := [], voted := false, ready := false, why := (0, 0), go := false,
    decision := none,
    part := none, xing := none, propOp := none, done := false }

/-- A missed sailing recorded and reported to PF0 (R135): MISS_ID, MISS_INFO, the counter, the event. Reason: 0
NO_VOTE, 1 VOTE_NO, 2 DECISION_LOST. Once per crossing. -/
def Dev.missed (d : Dev) (id reason module : Nat) : Dev :=
  if (d.sysX id).any (fun s => s.done) then d else
  let d := match d.sysX id with | some s => d.setSysX id (some { s with done := true }) | none => d
  let d := (d.inc XNG_CNT_MISSED).sets [(XNG_MISS_ID, id), (XNG_MISS_INFO_MODULE, module), (XNG_MISS_INFO_REASON, reason)]
  d.eventPf0 0x20 id

/-- INFO of a MISSED_SAILING completion (R220). -/
def missInfo (reason module : Nat) : Nat := module % 4096 + reason % 4 * 4096

/-- The coordinator's decision: DECISION frames to every other participant, its own copy held, the proposal's FINAL
entry written (R132, R219). -/
def Dev.rule (d : Dev) (id : Nat) (go : Bool) (reason module : Nat) : Dev :=
  match d.sysX id with
  | none => d
  | some s =>
    if s.decision.isSome then d else
    let d := d.setSysX id (some { s with decision := some go, why := (reason, module) })
    let d := (s.members.filter (fun m => m != d.moduleId)).foldl
      (fun d m => d.sendFrame 0x03 m [id % 2 ^ 32, id / 2 ^ 32, b2n go + reason * 4096 + module * 65536]) d
    let d := match s.propOp.bind d.op with
      | some o => if go then d.finish o 0 s.instant 0 else d.finish o 0x15 0 (missInfo reason module)
      | none => d
    if go then d else d.missed id reason module

/-- The coordinator looks at the votes: ABORT at the first NO, GO when all are READY (R132). -/
def Dev.tally (d : Dev) (id : Nat) : Dev :=
  match d.sysX id with
  | none => d
  | some s =>
    if !s.coord || s.decision.isSome then d else
    match s.votes.find? (fun v => !v.2.1) with
    | some v => d.rule id false 1 v.1
    | none => if s.members.all (fun m => s.votes.any (fun v => v.1 == m)) then d.rule id true 0 0 else d

/-- A vote of a participant for a system crossing: counted here where this module coordinates, else sent (R132). -/
def Dev.sendVote (d : Dev) (id : Nat) (ready : Bool) (reason : Nat) : Dev :=
  match d.sysX id with
  | none => d
  | some s =>
    let d := d.setSysX id (some { s with voted := true, ready })
    if id / 2 ^ 52 = d.moduleId then
      match d.sysX id with
      | some s => d.setSysX id (some { s with votes := s.votes ++ [(d.moduleId, ready, reason)] })
      | none => d
    else d.sendFrame 0x02 (id / 2 ^ 52) [id % 2 ^ 32, id / 2 ^ 32, b2n ready + reason * 256 + d.moduleId * 65536]

/-- This participant votes on a proposal it holds where it can: NO in holdover (R132) or in module safe (R298), READY
once its part is committed; a coordinator counts its own vote like any other. The spec gives no status for HOLDOVER and NO_PART: a free
value. (Log entry 22 DESIGN CHOICE.) -/
def Dev.considerVote (d : Dev) (id : Nat) : Dev :=
  match d.sysX id with
  | none => d
  | some s =>
    if !s.proposed || s.voted then d else
    if d.get TIM_STATUS_STATE = 3 ∧ d.on XNG_CFG_HOLDOVER_VOTE = false ∨ d.safe = true then
      ((d.useFresh).sendVote id false (Config.freeNat d.fresh % 256)).tally id
    else if (s.xing.bind d.xing).any (fun x => x.stage == .committed) then (d.sendVote id true 0).tally id
    else d

/-! ## Admission (R85, R224) -/

/-- The makes and breaks that an operation's items spell. -/
def Op.makeItems (o : Op) : List MakeItem := ((entryItems o.entry).filter (fun w => itemKind w == 0)).map makeOf
def Op.breakIds (o : Op) : List Nat := ((entryItems o.entry).filter (fun w => itemKind w == 1)).map breakOf

/-- Step 1 of R224. -/
def Dev.step1 (d : Dev) (o : Op) : Nat :=
  let e := o.entry
  if e.opcode = 0 ∨ 10 < e.opcode ∨ e.resv = true then 0x31
  else if 1024 < e.items then 0x13
  else if 2 ≤ e.items ∧ e.listOk = false then 0x32
  else if o.isCrossing = true ∧ ((entryItems e).all itemOk = false ∨ o.makeItems.any (fun m => !m.fits) = true) then 0x31
  else if (e.opcode = 8 ∨ e.opcode = 9) ∧ o.fn ≠ 0 then 0x30
  else if o.fn ≠ 0 ∧ o.isCrossing = true ∧ o.makeItems.any (fun m => m.cls == 2) = true then 0x30
  else if o.ring ≠ 64 ∧ o.fn ≠ 0 ∧ d.tooDear o.fn o.cost = true then 0x36
  else 0

/-- The tickets an operation names: breaks, or the ticket of TKT_PRIO. -/
def Op.named (o : Op) : List Nat :=
  if o.isCrossing then o.breakIds else if o.entry.opcode = 3 then [bits o.entry.arg 0 14] else []

/-- The table a table opcode names. -/
def Op.tableNo (o : Op) : Nat := bits o.entry.arg 0 10

/-- Step 2 of R224: ports in the partition, tickets and tables the function's own (R130). -/
def Dev.step2 (d : Dev) (o : Op) : Nat :=
  let f := o.fn
  if f = 0 then 0 else
  if o.isCrossing = true ∧ o.makeItems.any (fun m => (!m.lamp && !d.inPart f m.src) || !d.outPart f m.dst) = true then 0x33
  else if o.named.any (fun t => (d.tkt t).state == 0 || (d.tkt t).tenant != f) = true then 0x33
  else if (o.entry.opcode = 5 ∨ o.entry.opcode = 6 ∨ o.entry.opcode = 7)
      ∧ (match d.table o.tableNo with | some t => t.owner != f | none => false) = true then 0x33
  else 0

/-- Step 3 of R224: the ceilings of the function (R237). -/
def Dev.step3 (d : Dev) (o : Op) : Nat :=
  let f := o.fn
  if f = 0 ∨ o.isCrossing = false then 0 else
  let ms := o.makeItems
  let have_ := fun c => (d.allTkts.filter (fun x => x.2.tenant == f && x.2.cls == c)).length
  let want := fun c => (ms.filter (fun m => m.cls == c)).length
  let w := d.manA 7 (2 * f)
  if ms.any (fun m => (m.cls == 0 && w 0 == 0) || (m.cls == 1 && w 1 == 0) || decide (w 2 < m.prio)) = true then 0x34
  else if want 0 ≠ 0 ∧ d.manA 7 (2 * f + 1) 0 < have_ 0 + want 0 then 0x34
  else if want 1 ≠ 0 ∧ d.manA 7 (2 * f + 1) 16 < have_ 1 + want 1 then 0x34
  else 0

/-- The tickets named may be broken or changed (R219). -/
def Dev.stepNamed (d : Dev) (o : Op) : Nat :=
  if o.named.any (fun t => (d.tkt t).tableOwned) = true then 0x38
  else if o.named.any (fun t => let k := d.tkt t
      !(k.state == 3 || k.state == 4 || k.state == 5) || k.committed) = true then 0x37
  else if o.named.eraseDups.length ≠ o.named.length then 0x37
  else 0

/-- The states a table command accepts (R130). -/
def Dev.stepTable (d : Dev) (o : Op) : Nat :=
  let st := d.get (TID_TBL_STATUS_STATE o.tableNo)
  let ok := match o.entry.opcode with
    | 4 => st == 0
    | 5 => st == 3
    | 6 => st == 4 || st == 5
    | 7 => st == 3 || st == 6
    | _ => true
  if ok then 0 else 0x3A

/-- Steps 1-4 of R224, and the checks of named tickets and tables: the status of the first failure, 0 for none. -/
def Dev.checks (d : Dev) (o : Op) : Nat :=
  let a := d.step1 o
  if a ≠ 0 then a else
  let b := d.step2 o
  if b ≠ 0 then b else
  let c := d.step3 o
  if c ≠ 0 then c else
  if o.isCrossing = true ∧ d.freeIds < o.makeItems.length then 0x35 else
  let n := d.stepNamed o
  if n ≠ 0 then n else d.stepTable o

/-- An entry leaves the heads of its queue. -/
def Dev.takeHead (d : Dev) (q : Nat) (w : Work) : Dev := d.setHeads q ((d.heads q).erase w)

/-- The makes' tickets entered in ADMITTED with their epochs (R84, R224), in item order. -/
def Dev.admitMakes (d : Dev) (fn stamp : Nat) : List MakeItem → Dev × List Nat
  | [] => (d, [])
  | m :: l =>
    match d.freeId with
    | none => (d, [])
    | some t =>
      let d := d.admitTkt t { tkt0 with src := m.src, dst := m.dst, srcLamp := m.lamp, dstDrain := m.drain, tenant := fn,
                                        cls := m.cls, prio := m.prio, make := stamp }
      let r := d.admitMakes fn stamp l
      (r.1, t :: r.2)

/-- The breaks of an operation admitted: a STRANDED ticket is freed at once, others go CLOSING; a release takes its
ticket off the restoration list (R90, R100, R219). -/
def Dev.admitBreaks (d : Dev) (fn stamp : Nat) : List Nat → Dev
  | [] => d
  | t :: l =>
    let k := d.tkt t
    let d := if d.tk.list.contains t then d.offList t else d
    let d := d.forget t
    let d := if k.state = 5 then d.freeTkt t (if fn = 0 ∧ k.tenant ≠ 0 then 4 else 0)
      else d.updTkt t (fun r => { r with state := 6, was := r.state, brk := stamp, cause := putBit r.cause 4 false })
    d.admitBreaks fn stamp l

/-- Step 5 of R224 and the ADMIT completion for an operation that becomes a crossing. -/
def Dev.admitCrossing (d : Dev) (o : Op) : Dev × Op :=
  let r := d.admitMakes o.fn o.entry.stamp o.makeItems
  let d := r.1.admitBreaks o.fn o.entry.stamp o.breakIds
  let o := { o with admitted := true, makes := r.2, breaks := o.breakIds.filter (fun t => (d.tkt t).state != 0),
                    prov := o.cost, owed := true }
  (d.charge (if o.ring = 64 then 0 else o.fn) o.cost, o)

/-- The ADMIT completion, with NOTIFY_ADMIT only; the item results come before it (R218, R220). -/
def Dev.notifyAdmit (d : Dev) (o : Op) : Dev :=
  let d := d.results o
  let d := match d.op o.tag with | some p => d.setOp o.tag (some { p with noted := true }) | none => d
  if o.entry.notify then d.postCqe o.ring (o.cqe 1 2 0 0) else d

/-- The tickets of an operation let go: its makes FREE, its breaks back (R90). -/
def Dev.letGo (d : Dev) (o : Op) : Dev :=
  let d := o.makes.foldl (fun d t => d.freeTkt t 0) d
  o.breaks.foldl (fun d t => d.reopenTkt t) d

/-! ## Selection and the crossing pipeline (R85, R86, R107-R112) -/

/-- A port is barred to makes: by PORT_DRAIN (R294), or because a running table's set holds it (R119, R123). (Log entry 21 DESIGN CHOICE.) -/
def Dev.tableHolds (d : Dev) (inp : Bool) (p : Nat) : Bool :=
  (d.tide.runs.cells.filterMap (·.2)).any (fun u => u.active && match d.table u.table with
    | some t => if inp then t.inSet.contains p else t.outSet.contains p
    | none => false)

/-- A ticket holds a port against a make at instant t (R86): CLOSING with its break at or before t does not, nor
does one that the same crossing breaks. -/
def Ticket.keeps (k : Ticket) (t : Nat) (mine : Bool) : Bool :=
  match k.state with
  | 2 | 3 | 4 | 5 => true
  | 6 => !mine && (k.brk == 0 || decide (t < nearInst t k.brk))
  | _ => false

/-- The status of the checks of R85 and R86 on one ticket of a crossing: LAMP_DENIED, PORT_BUSY (a port
of a dark set too, R314), or 0. (Log entry 21 DESIGN CHOICE.) -/
def Dev.portCheck (d : Dev) (x : Xing) (t : Nat) : Nat :=
  let k := d.tkt t
  let mine := fun u => x.breaks.contains u
  let at_ := d.planAt x
  if k.srcLamp && t < 16352 then 0x23
  else if (!k.srcLamp && d.heldIn k.src) || (!k.dstDrain && d.heldOut k.dst) then 0x22
  else if !k.srcLamp && ((d.inP k.src).barred || d.tableHolds true k.src) then 0x22
  else if !k.dstDrain && ((d.outP k.dst).barred || d.tableHolds false k.dst) then 0x22
  else if d.allTkts.any (fun y => y.1 != t && y.2.srcLamp == k.srcLamp && y.2.src == k.src && y.2.keeps at_ (mine y.1)) then 0x22
  else if d.allTkts.any (fun y => y.1 != t && y.2.dstDrain == k.dstDrain && y.2.dst == k.dst && y.2.keeps at_ (mine y.1)) then 0x22
  else if x.makes.any (fun u => u != t && decide (u < t) &&
      (((d.tkt u).src == k.src && (d.tkt u).srcLamp == k.srcLamp)
        || ((d.tkt u).dst == k.dst && (d.tkt u).dstDrain == k.dstDrain))) then 0x22
  else 0

/-- The kind of crossing an operation becomes. -/
def Op.kind (o : Op) : XKind := if o.entry.opcode = 8 then .sys o.entry.arg else .op o.tag

/-- A crossing refused or withdrawn: dropped, its operation completed, a system crossing's part voted NO. -/
def Dev.endXing (d : Dev) (x : Xing) (status : Nat) : Dev :=
  let d := d.dropXing x
  match x.kind with
  | .op tag =>
    match d.op tag with
    | some o => if refusal status then d.refuseOp o status 0 else d.finish o status 0 0
    | none => d
  | .sys id =>
    match d.sysX id with
    | some s =>
      let d := match s.part.bind d.op with
        | some o => if refusal status then d.refuseOp o status 0 else d.finish o status 0 0
        | none => d
      let d := d.setSysX id (some { s with xing := none, part := none })
      if s.proposed && !s.voted then (d.sendVote id false status).tally id else d
    | none => d
  | _ => d

/-- The commit of a crossing whose last block has reported (R109, R112): refused REACH_ISOLATED where a reach it must change has
become isolated (R35), LATE or SPACING, or committed. The lead of a system crossing's part is from its own stamp to the vote deadline
(R132). Under suspension it waits, unless it is a restore crossing (R150). (Log entries 20 DESIGN CHOICE, 84 DESIGN CHOICE.) -/
def Dev.tryCommit (d : Dev) (x : Xing) : Dev :=
  if (d.on TIM_CTL_SUSPEND && x.kind != .restore) || d.still then d
  else if d.needsIsolated x then d.endXing x 0x14
  else match x.kind with
  | .sys id =>
    if x.stamp < d.now + d.get XNG_VOTE_GAP * 1000 then d.endXing x 0x10
    else if (d.otherSwitches x).any (tooClose x.stamp) then d.endXing x 0x12
    else (d.commitAt x x.stamp).considerVote id
  | _ =>
    if x.asap then d.commitAt x (d.earliest x)
    else if x.stamp < d.now + 8000 then d.endXing x 0x10
    else if (d.otherSwitches x).any (tooClose x.stamp) then d.endXing x 0x12
    else d.commitAt x x.stamp

/-- Crossings past stage 4 and not committed that need an isolated reach to change are refused (R35, R106). -/
def Dev.refuseIsolated (d : Dev) : Dev :=
  d.allXings.foldl (fun d x => if x.stage == .distribute && d.needsIsolated x then d.endXing x 0x14 else d) d

/-- The instant that an entry's STAMP asks for: 0, the earliest that can be, where STAMP is 0 with ASAP 1 (R109, R217). -/
def Dev.stampAt (d : Dev) (e : Entry) : Nat := if e.asap = true ∧ e.stamp = 0 then 0 else d.inst e.stamp

/-- A work item is selected for stage 3 (R107, R224): an operation becomes a crossing and its tickets are checked; a
crossing of the device's own goes on. -/
def Dev.select (d : Dev) (q : Nat) (w : Work) : Dev :=
  let d := d.setReady q ((d.ready q).erase w)
  match w with
  | .op tag =>
    match d.op tag with
    | none => d
    | some o =>
      let x : Xing := { xing0 o.kind with asap := o.entry.asap, stamp := d.stampAt o.entry, makes := o.makes,
                                          unsolved := o.makes, breaks := o.breaks, byPf0 := o.fn == 0 }
      let shut := fun t => (!(d.tkt t).srcLamp && d.heldIn (d.tkt t).src) || (!(d.tkt t).dstDrain && d.heldOut (d.tkt t).dst)
      let bad := (o.makes.map (d.portCheck x) ++ o.breaks.map (fun t => if shut t then 0x22 else 0)).find? (· != 0)
      let n := d.cmd.nextX
      let d := (d.addXing x).setOp tag (some { o with selected := true, xing := some n })
      let d := match o.kind with
        | .sys id => (match d.sysX id with | some s => d.setSysX id (some { s with xing := some n }) | none => d)
        | _ => d
      let x := { x with id := n }
      match bad with
      | some s => d.endXing x s
      | none =>
        if o.makes.isEmpty then d.startCompute x
        else { d with cmd := { d.cmd with solving := some (.xing n) } }
  | .xing n =>
    match d.xing n with
    | some x =>
      if x.unsolved.isEmpty then d.startCompute x
      else { d with cmd := { d.cmd with solving := some (.xing n) } }
    | none => d
  | .proposal _ => d
  | .recompile _ => { d with cmd := { d.cmd with solving := some w } }

/-! ## The scheduler (R227, R228, R229) -/

/-- A FENCE entry waits for every earlier entry of its ring (R217). -/
def Dev.fenced (d : Dev) (o : Op) : Bool :=
  o.entry.fence && (d.allOps.any (fun p => p.ring == o.ring && p.admitted) || d.outRing o.ring != (d.allOps.filter (fun p => p.ring == o.ring)).length)

/-- Place f can have its head admitted: it passes the gate and its fence, and fewer than 16 admitted operations wait. -/
def Dev.canAdmit (d : Dev) (f : Nat) : Bool :=
  match (d.heads (4 + f)).head?.bind d.opOf with
  | some o => d.passesGate f o.cost && !d.fenced o && decide ((d.ready (4 + f)).length < 16) && d.get (TOL_WEIGHT f) != 0
  | none => false

/-- The deficit of place f covers its oldest admitted operation. -/
def Dev.covers (d : Dev) (f : Nat) : Bool :=
  match (d.ready (4 + f)).head? with
  | some w => decide ((match d.opOf w with | some o => o.cost | none => 0) ≤ d.get (TOL_DEFICIT f))
      && d.get (TOL_WEIGHT f) != 0
  | none => false

/-- An operation that needs no solve: a release (R229). -/
def Dev.needsNoSolve (d : Dev) (w : Work) : Bool :=
  match d.opOf w with | some o => o.makes.isEmpty | none => true

/-- The solver can take a work item: it is free, or the work needs no solve. -/
def Dev.solverFree (d : Dev) (w : Work) : Bool := d.cmd.solving.isNone || (d.needsNoSolve w && (match w with | .op _ => true | _ => false))

/-- Place f holds an admitted operation that can be selected now: the solver takes it; not under suspension (R150); during a
restoration run one that needs no solve, between two restoration solves (R229). -/
def Dev.canSelect (d : Dev) (f : Nat) : Bool :=
  match (d.ready (4 + f)).head? with
  | some w => d.get (TOL_WEIGHT f) != 0 && d.solverFree w && !d.on TIM_CTL_SUSPEND && (!d.running || (d.needsNoSolve w && !d.cmd.between))
  | none => false

/-- The place that the round robin turns to next: the first after the present one with work to be admitted or selected. -/
def Dev.nextPlace (d : Dev) : Option Nat :=
  ((List.range 64).map (fun j => (d.cmd.turn + 1 + j) % 64)).find? (fun f => d.canAdmit f || d.canSelect f)

/-- A visit to place f: its deficit rises by WEIGHT x 32 while it holds admitted work; a place without work has its
deficit reset (R228). -/
def Dev.visit (d : Dev) (f : Nat) : Dev :=
  let d := { d with cmd := { d.cmd with turn := f } }
  let d := (List.range 64).foldl (fun d g =>
    if (d.heads (4 + g)).isEmpty && (d.ready (4 + g)).isEmpty && d.get (TOL_DEFICIT g) != 0 then d.set (TOL_DEFICIT g) 0 else d) d
  if (d.ready (4 + f)).isEmpty then d
  else d.set (TOL_DEFICIT f) (d.get (TOL_DEFICIT f) + d.get (TOL_WEIGHT f) * 32)

end Sys2Proof.Machine
end

