-- ==== Sys2Proof/Machine/Backbone.lean ====
section
/-! DEFINITION. The backbone, the clocks of the reaches, capstan failure and adoption, the lamp (R27, R31-R39, R59, R97, R177, R178). -/

namespace Sys2Proof.Machine

/-! ## Links (R31-R35, R470) -/

/-- The reach of a reach link: pairs 0-11; none for another link. -/
def linkReach (l : Nat) : Option Nat := if l / 2 < 12 then some (l / 2) else none

/-- A word of a link as snapshot words: syndrome, replays, the word (R305). -/
def linkDetail (syn replays w : Nat) : List Nat := [0, syn, replays, w % 2 ^ 32, w / 2 ^ 32 % 2 ^ 32]

/-- Where a parity error of a hop is located: links 0-35; 36-45 the master ports of the matrix, 46-65 its target ports (R304,
R410). (Log entry 76 DESIGN CHOICE.) -/
def hopUnit (l : Nat) : Nat × Nat := if l < 36 then (6, l) else if l < 46 then (13, l - 36) else (0, 0)

/-- The word that arrives next at the receiver of a hop, and whether the sender sends it now: while it replays, its replay's next
word; else a new word w, unless 8 are unacknowledged and it stalls. -/
def Link.next (k : Link) (w : Nat) : Option Nat :=
  match k.again with
  | a :: _ => if a = w then some a else none
  | [] => if k.retry.length < 8 then some w else none

/-- The sender after a word has left it: in its retry buffer until it is acknowledged. -/
def Link.sent (k : Link) (w : Nat) : Link :=
  match k.again with
  | _ :: l => { k with again := l }
  | [] => { k with retry := k.retry ++ [w] }

/-- The receiver takes a word (R32, R33): accepted, which acknowledges it, or NAKed on a parity error; after a NAK it discards every
word up to the replay. A test corruption owed on the link makes a parity error (R472). (Log entry 76 DESIGN CHOICE.) -/
def Dev.rowBackboneWord (d : Dev) (l w bad : Nat) : Dev :=
  let k := d.link l
  match (if k.failed then none else k.next w) with
  | none => d
  | some w =>
    let s := k.sent w
    if k.discard then d.setLink l s
    else if bad % 16 ≠ 0 ∨ k.corrupt ≠ 0 then
      let syn := if bad % 16 = 0 then 1 else bad % 16
      ((d.setLink l { s with discard := true, corrupt := k.corrupt - 1 }).emit (.link l 1 w)).raise 66 (hopUnit l).1 (hopUnit l).2 0
        (linkDetail syn k.replays w)
    else d.setLink l { s with retry := s.retry.drop 1, replays := 0, accepted := k.accepted + 1 }

/-- A link declared failed: a reach link isolates its reach, aborts its run and turns its survey converters off, accesses outstanding over it are answered LINK
(R33, R35, R199, R411, R428). -/
def Dev.failLink (d : Dev) (l : Nat) : Dev :=
  let k := d.link l
  let d := d.setLink l { k with failed := true }
  let w := k.retry.headD 0
  match linkReach l with
  | some n =>
    let d := (((d.setRch n { d.rch n with isolated := true }).abortRun n).linkOut (3 + n)).refuseIsolated
    let d := (d.svyAbort (2 * n)).svyAbort (2 * n + 1)
    d.refresh.raise 33 4 n 0 (linkDetail 0 k.replays w)
  | none => (if l / 2 = 16 then d.linkOut 15 else d).raise 67 (hopUnit l).1 (hopUnit l).2 0 (linkDetail 0 k.replays w)

/-- The words of a replay, each sent once more. -/
def Dev.replayAll (d : Dev) (l : Nat) : List Nat → Dev
  | [] => d
  | w :: ws => (d.emit (.link l 0 w)).replayAll l ws

/-- The sender receives a NAK: it replays from the NAKed word onward, which is the oldest it holds; when 4 replays of one word have
failed the link has (R33). -/
def Dev.rowBackboneNak (d : Dev) (l : Nat) : Dev :=
  let k := d.link l
  if k.failed || !k.discard then d
  else if 4 ≤ k.replays then d.failLink l
  else (d.setLink l { k with again := k.retry, discard := false, replays := k.replays + 1 }).replayAll l k.retry

/-! ## Reach clocks (R37, R97) -/

/-- The middle blocks of a reach, by index. -/
def reachMids (n : Nat) : List Nat := if 4 ≤ n ∧ n < 8 then (List.range 8).map (fun j => (n - 4) * 8 + j) else []

/-- A reach loses its clock: berths hold, loops stop, its run aborts, its recorder stops until a reset (R444); its middle blocks are lost units, tickets that
end in it go DEGRADED (R37, R97, R199). -/
def Dev.rowClockLoss (d : Dev) (n : Nat) : Dev :=
  let d := (d.setRch n { d.rch n with clockLost := true }).setRcdr n { d.rcdr n with stopped := true }
  let d := ((d.abortRun n).svyAbort (2 * n)).svyAbort (2 * n + 1)
  (d.loseUnits [] (reachMids n)).raise 32 4 n 0 []

/-- The clock returns: the berths follow the temperatures reported meanwhile (R161), and capacity returns. -/
def Dev.rowClockReturn (d : Dev) (n : Nat) : Dev :=
  if (d.rch n).clockLost then
    (((List.range 8).foldl (fun d j => d.followTemp (8 * n + j)) (d.setRch n { d.rch n with clockLost := false })).refresh).capacity
  else d

/-! ## Capstans (R38, R39, R177, R178) -/

/-- A capstan fails by parity, or by the fault of a converter: its block moors for adoption, or leaves service; one already adopted
stays so while 2 of its converters are left (R178). -/
def Dev.rowCapstanFail (d : Dev) (b : Nat) (conv : Option Nat) : Dev :=
  let d := match conv with
    | some c => d.setAdc (b * 8 + c) { d.adc (b * 8 + c) with failed := true }
    | none => d
  let d := d.setB (CAP_BLK_STATUS_FAILED b) true
  let d := if d.inService b then
      if d.on (CAP_BLK_STATUS_ADOPTED b) && decide (2 ≤ d.convsLeft b) then d
      else if d.adoptable b && !d.on (CAP_BLK_STATUS_ADOPTING b) then (d.setMoor b 0 true).refresh else d.leaveService b
    else d
  let d := if d.orphan (sibling b) then d.leaveService (sibling b) else d
  match conv with
  | some c => d.raise 17 7 (b * 8 + c) 0 []
  | none => d.raise 16 3 b 0 []

/-- A loop as its adopter takes it over: the present trim is the selected code less ff, the other 0; OPEN stays. -/
def Dev.adoptLoop (d : Dev) (i : Nat) : Dev :=
  let l := d.loop i
  if l.mode = 4 ∨ l.mode = 6 then d else
  let c := d.cell i
  let w : Int := d.get (CAP_TRIM_WIN (cellBlk i))
  let t := clampI (-w) w (c.selCode - d.ffVal i c.cross)
  d.setLoop i (if c.cross then { l with trimC := t, integC := t, trimB := 0, integB := 0, rValid := false, lockRun := 0 }
               else { l with trimB := t, integB := t, trimC := 0, integC := 0, rValid := false, lockRun := 0 })

/-- The sibling starts running both blocks' loops; boost is off in both (R177). -/
def Dev.rowAdoptionStart (d : Dev) (b : Nat) : Dev :=
  if d.inService b && d.on (CAP_BLK_STATUS_FAILED b) && !d.on (CAP_BLK_STATUS_ADOPTED b) && d.adoptable b then
    let d := (d.setB (CAP_BLK_STATUS_ADOPTED b) true).setB (CAP_BLK_STATUS_ADOPTING (sibling b)) true
    let d := (blkCells b).foldl (fun d i => d.adoptLoop i) d
    ((d.refreshPriv b).refreshPriv (sibling b)).followTemp b
  else if d.inService b && d.on (CAP_BLK_STATUS_FAILED b) && !d.on (CAP_BLK_STATUS_ADOPTED b) then d.leaveService b
  else d

/-! ## The lamp (R27, R59) -/

/-- The lamp granted to the reach that has waited longest, which sets it to -3 dBm per feed at a wavelength of its own. (Log entry 72 DESIGN CHOICE.) -/
def Dev.rowLampGrant (d : Dev) : Dev :=
  let l := d.fab.lamp
  match l.queue with
  | n :: q =>
    if l.owner = none ∧ l.off = false ∧ d.still = false then
      ((d.useFresh).setLamp { l with owner := some n, queue := q, wave := Config.freeNat d.fresh % 1024 }).shine .full
    else d
  | [] => d

/-- A power reading of 0.01 dBm stored in a power register (R61): FLOOR below -40 dBm, OVER above +20.5 dBm. -/
def Dev.setPower (d : Dev) (pw fl st ov : Fld) (v : Int) : Dev :=
  let floor := decide (v < -4000)
  d.sets [(pw, if floor then 0x8000 else uns 16 v), (fl, b2n floor), (st, 0), (ov, b2n (decide (2050 < v)))]

/-- A lamp-feed monitor reads above -45 dBm while its gate is closed: the lamp closes (R59). -/
def Dev.rowLampLeak (d : Dev) (b : Nat) (v : Int) : Dev :=
  let d := d.setPower (FAB_LAMP_MON_POWER b) (FAB_LAMP_MON_FLOOR b) (FAB_LAMP_MON_STALE b) (FAB_LAMP_MON_OVER b) v
  let d := { d with fab := { d.fab with readAt := d.fab.readAt.put none (probeLamp b) (some d.now) } }
  if !d.on (FAB_LAMP_MON_GATE b) && decide (-4500 < v) then (d.shine .dark).raise 11 3 b 0 [] else d

/-! ## The commands -/

/-- BACKBONE_WORD (R32): A backbone receiver takes a 64-bit word, checks its four parity bits and accepts it or NAKs
it. -/
def execBackboneWord (l : Fin 66) (w : Nat) (bad : Nat) (s : State) : Ans := s.upd (fun d => d.rowBackboneWord l.val w bad)

/-- BACKBONE_NAK (R33): A sender receives a NAK and replays from the NAKed word; after 4 failed replays the link is
declared failed. -/
def execBackboneNak (l : Fin 66) (s : State) : Ans := s.upd (fun d => d.rowBackboneNak l.val)

/-- REACH_CLOCK_LOSS (R37): A reach island loses its clock; its drivers hold, its loops stop and its tickets are
restored or set DEGRADED. -/
def execReachClockLoss (n : Fin 12) (s : State) : Ans := s.upd (fun d => d.rowClockLoss n.val)

/-- REACH_CLOCK_RETURN (R97): the clock of a reach island that had lost it returns; its middle blocks stop being lost
units and capacity returns for STRANDED tickets. -/
def execReachClockReturn (n : Fin 12) (s : State) : Ans := s.upd (fun d => d.rowClockReturn n.val)

/-- CAPSTAN_FAIL (R38): A capstan fails; its block moors and its sibling adopts it, or the block is taken out of
service. -/
def execCapstanFail (b : Fin 96) (conv : Option (Fin 8)) (s : State) : Ans := s.upd (fun d => d.rowCapstanFail b.val (conv.map Fin.val))

/-- ADOPTION_START (R177): within 20 us of a capstan failure the sibling starts running both blocks' loops at half
rate, rebuilding the adopted trims. -/
def execAdoptionStart (b : Fin 96) (s : State) : Ans := s.upd (fun d => d.rowAdoptionStart b.val)

/-- LAMP_GRANT (R27): A waiting reach is granted the lamp when it is released, in order of request arrival. -/
def execLampGrant (s : State) : Ans := s.upd (fun d => d.rowLampGrant)

/-- LAMP_LEAK (R59): A lamp-feed monitor reads above -45 dBm while its gate is closed; FAB_LAMP_LEAK is raised and the
lamp closed. -/
def execLampLeak (b : Fin 32) (power : Int) (s : State) : Ans := s.upd (fun d => d.rowLampLeak b.val power)

end Sys2Proof.Machine
end

