-- ==== Sys2Proof/Machine/Files.lean ====
section
/-! DEFINITION. Calibration files, manifests and proposals as their bytes spell them, and the image a dump writes (R187, R188, R236, R259). -/

namespace Sys2Proof.Machine

/-! ## Sections -/

/-- A section as a file holds it: its TYPE, its body, whether its header's reserved bits are 0 and its body is all there, and whether its
CRC agrees. -/
structure Section where
  typ   : Nat
  body  : List Byte
  plain : Bool
  sound : Bool
  deriving DecidableEq, Repr

/-- The sections, n of them, that follow one another from the start of bytes. -/
def sectionsAt : Nat → List Byte → List Section
  | 0, _ => []
  | n + 1, l =>
    let len := leAt l 4 4
    let body := (l.drop 16).take len
    { typ := leAt l 0 2, body, plain := zeroAt l 2 2 && zeroAt l 12 4 && body.length == len, sound := leAt l 8 4 == crcOf body }
      :: sectionsAt n (l.drop (16 + len))

/-- Bytes cut into records of a size, k of them. -/
def recordsOf (size : Nat) : Nat → List Byte → List (List Byte)
  | 0, _ => []
  | k + 1, l => l.take size :: recordsOf size k (l.drop size)

/-- A little-endian number as n bytes. -/
def leBytes : Nat → Nat → List Byte
  | 0, _ => []
  | n + 1, v => BitVec.ofNat 8 v :: leBytes n (v / 256)

/-- A section of a file written: its header and its body. -/
def putSection (typ : Nat) (body : List Byte) : List Byte :=
  leBytes 4 typ ++ leBytes 4 body.length ++ leBytes 4 (crcOf body) ++ leBytes 4 0 ++ body

/-- A signed 16-bit field of a record. -/
def i16At (l : List Byte) (o : Nat) : Int := sgn 16 (leAt l o 2)

/-- The digest at the end of a file of n bytes is the SHA-256 of what stands before it. -/
def sealed (l : List Byte) (n : Nat) : Bool := (l.drop (n - 32)).take 32 == sha256 (l.take (n - 32))

/-! ## Calibration files (R187, R188, R201) -/

/-- A feed-forward entry of a file. -/
structure CalFF where
  bar      : Int
  cross    : Int
  tcBar    : Int
  tcCross  : Int
  htr      : Nat
  measured : Bool
  rejected : Bool
  deriving DecidableEq, Repr

/-- A calibration file as its bytes spell it: what the checks of R189 look at, and its sections: converters (OFS, GAIN), probes (OFS,
RESP, ZERO), feed-forward entries, blocks (T_REF, TRIG_REF), loop defaults, VOA curves, lamp tuning. -/
structure CalFile where
  readOk   : Bool
  formatOk : Bool
  bytes    : Nat
  kind     : Nat
  band     : Nat
  dieId    : Nat
  crcOk    : Bool
  digestOk : Bool
  adc      : List (Int × Nat)
  probes   : List (Int × Nat × Int)
  ff       : List CalFF
  blocks   : List (Int × Int)
  gains    : List (Nat × Nat × Nat × Nat × Nat)
  voa      : List (List Int)
  lamp     : List Nat
  deriving DecidableEq, Repr

/-- The entries of a section and the bytes of one (R188). -/
def calShape (t : Nat) : Nat × Nat := [(0, 0), (792, 8), (29216, 8), (13824, 16), (96, 8), (96, 32), (512, 16), (1024, 4)].getD t (0, 0)

/-- The sections of a file of a KIND: all seven of a FACTORY file, three of a SAVED image. -/
def calTypes (kind : Nat) : List Nat := if kind = 1 then [1, 2, 3, 4, 5, 6, 7] else if kind = 2 then [2, 3, 4] else []

/-- The total length of a file with some sections. -/
def calBytes (l : List Nat) : Nat := 288 + (l.map (fun t => 16 + (calShape t).1 * (calShape t).2)).sum

/-- The entries of a section of a type, none where the list holds it not. -/
def calRecords (l : List Section) (t : Nat) : List (List Byte) :=
  match l.find? (fun s => s.typ == t) with
  | some s => recordsOf (calShape t).2 (calShape t).1 s.body
  | none => []

/-- The reserved bits of an entry are 0 (R188, R201). (Log entry 53 DESIGN CHOICE.) -/
def calPlain (t : Nat) (r : List Byte) : Bool :=
  match t with
  | 1 => zeroAt r 4 4
  | 2 => zeroAt r 6 2
  | 3 => decide (leAt r 8 2 < 2048) && decide (leAt r 10 2 < 4) && zeroAt r 12 4
  | 4 => zeroAt r 4 4
  | 5 => decide (leAt r 8 4 < 8192) && zeroAt r 20 12
  | _ => true

/-- A feed-forward entry of 16 bytes. -/
def calFF (r : List Byte) : CalFF :=
  { bar := i16At r 0, cross := i16At r 2, tcBar := i16At r 4, tcCross := i16At r 6, htr := leAt r 8 2, measured := bit (leAt r 10 1) 0,
    rejected := bit (leAt r 10 1) 1 }

/-- The file that bytes read from host memory spell. (Log entry 53 DESIGN CHOICE.) -/
def calFile (f : HostFile) : CalFile :=
  let b := f.bytes
  let kind := leAt b 6 1
  let ts := calTypes kind
  let secs := sectionsAt ts.length (b.drop 256)
  let rs := calRecords secs
  { readOk := f.readOk
    formatOk := leAt b 0 4 == 0x43464331 && leAt b 4 2 == 1 && leAt b 12 4 == ts.length && zeroAt b 0x38 0xC4
      && leAt b 0xFC 4 == crcOf (b.take 0xFC) && leAt b 8 4 == calBytes ts && secs.map (·.typ) == ts
      && secs.all (fun s => s.plain && s.body.length == (calShape s.typ).1 * (calShape s.typ).2)
      && ts.all (fun t => (rs t).all (calPlain t))
    bytes := leAt b 8 4
    kind
    band := leAt b 7 1
    dieId := leAt b 0x10 32
    crcOk := secs.all (·.sound)
    digestOk := sealed b (leAt b 8 4)
    adc := (rs 1).map (fun r => (i16At r 0, leAt r 2 2))
    probes := (rs 2).map (fun r => (i16At r 0, leAt r 2 2, i16At r 4))
    ff := (rs 3).map calFF
    blocks := (rs 4).map (fun r => (i16At r 0, i16At r 2))
    gains := (rs 5).map (fun r => (leAt r 0 4, leAt r 4 4, leAt r 8 4, leAt r 12 4, leAt r 16 4))
    voa := (rs 6).map (fun r => (List.range 8).map (fun k => i16At r (2 * k)))
    lamp := (rs 7).map (fun r => leAt r 0 4) }

/-- A SAVED image (R187, R188, R191): the sections of a dump's sets, and the stamp of its instant. -/
def savedImage (die stamp : Nat) (probes : Nat → ProbeCor) (ff : Nat → FF) (tref trig : Nat → Int) : List Byte :=
  let s := fun (x : Int) => leBytes 2 (uns 16 x)
  let p := (List.range 29216).flatMap (fun i => let c := probes i; s c.ofs ++ leBytes 2 c.resp ++ s c.zero ++ leBytes 2 0)
  let e := (List.range 13824).flatMap (fun i =>
    let c := ff i
    s c.ff0B ++ s c.ff0C ++ s c.tcB ++ s c.tcC ++ leBytes 2 c.htr ++ leBytes 2 (b2n c.measured + b2n c.rejected * 2) ++ leBytes 4 0)
  let r := (List.range 96).flatMap (fun b => s (tref b) ++ s (trig b) ++ leBytes 4 0)
  let h := leBytes 4 0x43464331 ++ leBytes 2 1 ++ leBytes 1 2 ++ leBytes 1 Config.band ++ leBytes 4 456016 ++ leBytes 4 3 ++ leBytes 32 die
    ++ leBytes 8 stamp ++ List.replicate 0xC4 0
  let l := h ++ leBytes 4 (crcOf h) ++ putSection 2 p ++ putSection 3 e ++ putSection 4 r
  l ++ sha256 l

/-! ## Manifests (R236) -/

/-- A manifest as its bytes spell it: what the checks of R245 look at, and its sections, each a TYPE and the 32-bit words of its body.
formatOk: MAGIC, FORMAT, HCRC, the number of sections and the reserved header fields; badCrc: the TYPE of the first section whose CRC
does not agree. -/
structure ManFile where
  readOk   : Bool
  formatOk : Bool
  kind     : Nat
  band     : Nat
  bytes    : Nat
  serial   : Nat
  sections : List (Nat × List Nat)
  badCrc   : Option Nat
  digestOk : Bool
  digest   : List Nat
  deriving DecidableEq, Repr

/-- The words of a body, none where its section is not whole or not of whole words. -/
def Section.words (s : Section) : List Nat := if s.plain && s.body.length % 4 == 0 then leWords (s.body.length / 4) s.body else []

/-- The manifest that bytes spell. -/
def manFile (readOk : Bool) (b : List Byte) : ManFile :=
  let n := leAt b 12 4
  let secs := if n ≤ 13 then sectionsAt n (b.drop 64) else []
  let len := leAt b 8 4
  { readOk
    formatOk := leAt b 0 4 == 0x4F4D4631 && leAt b 4 2 == 1 && decide (1 ≤ n ∧ n ≤ 13) && zeroAt b 0x1A 0x22
      && leAt b 0x3C 4 == crcOf (b.take 0x3C) && len == 96 + (secs.map (fun s => 16 + s.body.length)).sum
    kind := leAt b 6 1
    band := leAt b 7 1
    bytes := len
    serial := leAt b 0x10 8
    sections := secs.map (fun s => (s.typ, s.words))
    badCrc := (secs.find? (fun s => !s.sound)).map (·.typ)
    digestOk := sealed b len
    digest := leWords 8 (b.drop (len - 32)) }

/-! ## Proposals (R259) -/

/-- A proposal as its bytes spell it: formatOk: MAGIC, FORMAT and the reserved fields; its digest D; its body, a manifest or a wrapped
key. -/
structure PropFile where
  readOk   : Bool
  formatOk : Bool
  kind     : Nat
  bytes    : Nat
  seq      : Nat
  dieId    : Nat
  digest   : List Nat
  man      : ManFile
  wrap     : Nat
  deriving DecidableEq, Repr

/-- The proposal that bytes read from host memory spell. -/
def propFile (f : HostFile) : PropFile :=
  let b := f.bytes
  let len := leAt b 8 4
  let kind := leAt b 6 1
  { readOk := f.readOk
    formatOk := leAt b 0 4 == 0x53505231 && leAt b 4 2 == 1 && zeroAt b 7 1 && zeroAt b 12 4 && zeroAt b 0x38 8
      && (kind == 1 || zeroAt b 0x60 32)
    kind
    bytes := len
    seq := leAt b 0x10 8
    dieId := leAt b 0x18 32
    digest := leWords 8 (sha256 (b.take len))
    man := manFile f.readOk (b.drop 64)
    wrap := leAt b 0x40 32 }

end Sys2Proof.Machine
end

