-- ==== Sys2Proof/Machine/Bonds.lean ====
section
/-! DEFINITION. The channels of survey converters, what a converter is busy with, and the bonds that carry a test current (R414, R415, R420-R426). -/

namespace Sys2Proof.Machine

/-! ## Channels (R414, R415) -/

/-- What a channel code of a reach names. -/
inductive Chan where
  | cellProbe (i arm : Nat)
  | port (b line : Nat)
  | drain (b line : Nat)
  | lampFeed (b : Nat)
  | drive (i : Nat)
  | ref (k : Nat)
  | rail (k : Nat)
  | aux (k : Nat)
  deriving DecidableEq, Repr

/-- The channel of code x in reach n; none for a reserved one. -/
def chanOf (n x : Nat) : Option Chan :=
  if x < 0x1000 then
    let b := 8 * n + x / 512
    let c := x % 512
    if c < 288 then some (.cellProbe (b * 144 + c / 2) (c % 2))
    else if c < 304 then (if isMiddle b then none else some (.port b (c - 288)))
    else if c < 320 then (if isEgress b then some (.drain b (c - 304)) else none)
    else if c = 320 then (if isIngress b then some (.lampFeed b) else none)
    else none
  else if x < 0x1800 then
    (if x % 256 < 144 then some (.drive ((8 * n + (x - 0x1000) / 256) * 144 + x % 256)) else none)
  else if x < 0x1803 then some (.ref (x - 0x1800))
  else if 0x1810 ≤ x ∧ x < 0x1819 then some (.rail (x - 0x1810))
  else if x = 0x1820 ∨ x = 0x1821 then some (.aux (x - 0x1820))
  else none

/-- The probe entry of a probe channel. -/
def Chan.probe : Chan → Option Nat
  | .cellProbe i a => some (probeCell i a)
  | .port b l => some (if isIngress b then probeIn (b * 16 + l) else probeOut ((b - 64) * 16 + l))
  | .drain b l => some (probeDrain ((b - 64) * 16 + l))
  | .lampFeed b => some (probeLamp b)
  | _ => none

/-- The entry under which a bond is reported open: a probe's, or a drive bond's. -/
def Chan.bond : Chan → Option Nat
  | .drive i => some (driveBond i)
  | c => c.probe

/-- A test current can be applied to the channel. -/
def Chan.isBond (c : Chan) : Bool := c.bond.isSome

/-! ## Who gets the converter (R420, R421, R424) -/

/-- The period of the round's steps on a converter: 8.000 us, 5.000 us while the other is off. -/
def Dev.stepNs (d : Dev) (c : Nat) : Nat := if d.convOff (if c % 2 = 0 then c + 1 else c - 1) then 5000 else 8000

/-- The bonds that a converter has still to test or retest in the round. -/
def Conv.left (x : Conv) : List Nat := if x.retest then x.suspect else x.todo

/-- The tick a converter's next open-wire step falls due at. -/
def Dev.stepDue (d : Dev) (c : Nat) : Option Nat :=
  match d.svy.rounds.get none (c / 2) with
  | some t => if (d.conv c).left.isEmpty then none else some (t + (d.conv c).steps * d.stepNs c)
  | none => none

/-- A step is due now. -/
def Dev.stepNow (d : Dev) (c : Nat) : Bool := match d.stepDue c with | some t => decide (t ≤ d.tick) | none => false

/-- The converter is busy: a conversion, a sweep, a self-calibration. -/
def Dev.convBusy (d : Dev) (c : Nat) : Bool := (d.conv c).job.isSome || decide (d.tick < (d.conv c).hold)

/-- A converter's test current flows on a bond now: its conversion has one, or its step of the open-wire round is running. -/
def Dev.currentOn (d : Dev) (c bond : Nat) : Bool :=
  let on := fun (code : Nat) => ((chanOf (c / 2) code).bind Chan.bond) == some bond
  let x := d.conv c
  match x.job with
  | some (q, _, _) => q.cur != 0 && on q.chan
  | none => !d.convOff c && !d.convBusy c && d.stepNow c && (match x.left with | code :: _ => on code | [] => false)

/-- A test current flows on the bond of a probe of block b: a capstan sample of it feeds no update (R426). -/
def Dev.underTest (d : Dev) (b probe : Nat) : Bool :=
  d.currentOn (2 * blkReach b) probe || d.currentOn (2 * blkReach b + 1) probe

end Sys2Proof.Machine
end

