-- ==== Sys2Proof/Machine/Slots.lean ====
section
/-! DEFINITION. The sampling slots of a block's capstan converters: who is granted each, and when a loop's next update falls (R22, R151, R153, R155, R156, R163, R177, R238). -/

namespace Sys2Proof.Machine

/-! ## Who is granted a slot (R22) -/

/-- Who takes a slot: the plan's owner, a channel; the boost of a privileged cell's upper (0) or lower (1) probe; a calibration
sample; nobody. -/
inductive Claimant where
  | owner (ch : Nat)
  | boost (i arm : Nat)
  | calibration
  | idle
  deriving DecidableEq, Repr

/-- A lamp circuit is in place from LF(b): its monitor is sampled while the reach calibrates too (R197). -/
def Dev.lampLit (d : Dev) (b : Nat) : Bool := d.litTkts.any (fun x => x.2.srcLamp && x.2.src % 32 == b)

/-- The owner of slot j of block b's plan has something to sample there: a cell whose loop runs at the nominal rate, a port probe
whose slots have not passed to calibration samples (R166, R197). -/
def Dev.ownerSamples (d : Dev) (b j : Nat) : Bool :=
  let ch := d.slot b j
  if ch < 288 then
    let l := d.loop (b * 144 + ch / 2)
    l.mode != 5 && l.mode != 6 && !l.priv
  else decide (ch ≤ 320) && (!d.calibrating b || (isEgress b && decide (ch < 304)) || (ch == 320 && d.lampLit b))

/-- The boost requests of block b in one 500 ns: the privileged cells' probes, the cell switched longest ago first. -/
def Dev.boosts (d : Dev) (b : Nat) : List (Nat × Nat) :=
  (((blkCells b).filter (fun i => (d.loop i).priv)).mergeSort
    (fun i k => decide ((d.loop i).switched.getD 0 ≤ (d.loop k).switched.getD 0))).flatMap (fun i => [(i, 0), (i, 1)])

/-- Slots granted in order: to the owner that samples, else to the next boost request, else to a calibration sample or to nobody. -/
def grantOver (own : Nat → Option Nat) (rest : Claimant) : List Nat → List (Nat × Nat) → List (Nat × Claimant)
  | [], _ => []
  | j :: l, q =>
    match own j, q with
    | some ch, q => (j, .owner ch) :: grantOver own rest l q
    | none, (i, a) :: q => (j, .boost i a) :: grantOver own rest l q
    | none, [] => (j, rest) :: grantOver own rest l []

/-- The slots of the w-th 500 ns of a control cycle in the order of their positions, eight converters at each (R238). -/
def windowSlots (w : Nat) : List Nat :=
  ((List.range 100).filter (fun q => q * 40 / 500 == w)).flatMap (fun q => (List.range 8).map (fun c => c * 100 + q))

/-- The grants of block b's slots in the w-th 500 ns of a cycle. -/
def Dev.grants (d : Dev) (b w : Nat) : List (Nat × Claimant) :=
  grantOver (fun j => if d.ownerSamples b j then some (d.slot b j) else none) (if d.calibrating b then .calibration else .idle)
    (windowSlots w) (d.boosts b)

/-- The slot of a boost request among grants. -/
def boostSlot (l : List (Nat × Claimant)) (i arm : Nat) : Option Nat := (l.find? (fun x => x.2 == .boost i arm)).map (·.1)

/-! ## When the next update falls (R153, R155, R156, R177) -/

/-- The first instant at or after t that lies off past a whole multiple of the period. -/
def nextOn (period off t : Nat) : Nat := if t ≤ off then off else off + ceilMul (t - off) period

/-- Block b runs at half the nominal rate, as its loops or its sibling's are adopted (R177). -/
def Dev.halfRate (d : Dev) (b : Nat) : Bool := d.on (CAP_BLK_STATUS_ADOPTING b) || d.on (CAP_BLK_STATUS_ADOPTED b)
def Dev.cycleNs (d : Dev) (b : Nat) : Nat := if d.halfRate b then 8000 else 4000

/-- Where in the cycle the sample of a channel is taken. -/
def Dev.slotNs (d : Dev) (b ch : Nat) : Nat := d.planSlot b ch % 100 * 40

/-- No update of a loop of reach n before this: now by the reach's replica, after its last one, the cycles realigned (R151). -/
def Dev.loopFrom (d : Dev) (n : Nat) (last : Option Nat) : Nat :=
  max (max (d.nowIn n) d.cap.gridAt) (match last with | some t => t + 1 | none => 0)

/-- The next boost update of cell i at or after t: its instant and the slots of its two samples. -/
def Dev.boostAt (d : Dev) (i t : Nat) : Option (Ns × Nat × Nat) :=
  (List.range 16).findSome? (fun k =>
    let w := t / 500 + k
    let l := d.grants (cellBlk i) (w % 8)
    match boostSlot l i 0, boostSlot l i 1 with
    | some a, some c =>
      let x := w / 8 * 4000 + max (a % 100) (c % 100) * 40
      if t ≤ x then some (x, a, c) else none
    | _, _ => none)

/-- The next update of cell i's loop: its instant and the converters that take its two samples. A boosted loop has one every 500 ns
in the slots granted to it, any other one a cycle in its planned slots. (Log entry 88 DESIGN CHOICE.) -/
def Dev.updateOf (d : Dev) (i : Nat) : Ns × Nat × Nat :=
  let b := cellBlk i
  let u := 2 * (i % 144)
  let t := d.loopFrom (blkReach b) (d.loop i).lastAt
  let planned := (nextOn (d.cycleNs b) (max (d.slotNs b u) (d.slotNs b (u + 1))) t, d.planConv b u, d.planConv b (u + 1))
  if (d.loop i).priv then
    match d.boostAt i t with
    | some x => (x.1, d.slotConv b x.2.1, d.slotConv b x.2.2)
    | none => planned
  else planned

/-- The next update of the port group of OUT(o): once a cycle, in the planned slot of its probe. -/
def Dev.groupAt (d : Dev) (o : Nat) : Ns :=
  let b := 64 + o / 16
  nextOn (d.cycleNs b) (d.slotNs b (288 + o % 16)) (d.loopFrom (blkReach b) (d.group o).lastAt)

end Sys2Proof.Machine
end

