-- ==== Sys2Proof/Machine/Capstan.lean ====
section
/-! DEFINITION. The commands of capstans: cell loops, port groups, reclosing, privilege (R155-R176). -/

namespace Sys2Proof.Machine

/-! ## Tests of a probe (R168) -/

/-- One raw code taken into the freeze test. (Log entry 47 DESIGN CHOICE.) -/
def ProbeTest.take (p : ProbeTest) (raw : Int) : ProbeTest :=
  if p.run = 0 ∨ 2 < max p.hi raw - min p.lo raw then { lo := raw, hi := raw, run := 1, last := raw }
  else { lo := min p.lo raw, hi := max p.hi raw, run := p.run + 1, last := raw }

/-- The raw code has moved by more than 2 from the one before (R170). -/
def ProbeTest.moved (p : ProbeTest) (raw : Int) : Bool := decide (2 < (raw - p.last).natAbs)

/-! ## Open water (R169, R170) -/

/-- Why a loop opens. -/
inductive Why where
  | probeOpen | freeze | loss
  deriving DecidableEq, Repr

/-- A loop opened: OPEN, trims 0, ff in the berth, the fault raised, its tickets in open water. (Log entry 47 DESIGN CHOICE.) -/
def Dev.openWater (d : Dev) (i : Nat) (w : Why) : Dev :=
  let l := d.loop i
  let d := d.setLoop i { l.enter 4 with
    trimB := 0, trimC := 0, integB := 0, integC := 0, rValid := false, lockRun := 0, darkRun := 0, good := 0,
    priv := false, openAt := d.now, delta := 0,
    probeOpen := l.probeOpen || w == .probeOpen, freeze := l.freeze || w == .freeze, loss := l.loss || w == .loss }
  let d := if l.priv then d.refreshPriv (cellBlk i) else d
  let d := (d.writeSel i (d.ffVal i (d.cell i).cross)).inc (CAP_CNT_OPEN (cellBlk i))
  let d := (d.recauseCell i).recEvent (i / 1152) 2 (i % 1152 + 2 ^ 12 * (match w with | .freeze => 1 | .loss => 2 | .probeOpen => 3))
  match w with
  | .probeOpen => d.raise 1 1 i 0 []
  | .freeze => d.raise 0 1 i 1 []
  | .loss => d.raise 0 1 i 2 []

/-- A loop reclosed: lit modes of R161 and R162 from trims of 0, its flags and LONG_OPEN cleared. -/
def Dev.reclose (d : Dev) (i : Nat) : Dev :=
  let l := d.loop i
  let was := (d.cell i).longOpen
  let d := d.setLoop i { l.enter (d.litMode i) with
    trimB := 0, trimC := 0, integB := 0, integC := 0,
    rValid := false, lockRun := 0, darkRun := 0, good := 0, probeOpen := false, freeze := false, loss := false }
  let d := ((d.setCell i { d.cell i with longOpen := false }).recauseCell i).recEvent (i / 1152) 3 (i % 1152)
  if was then d.capacity else d

/-! ## One update of a cell loop (R157-R162, R168, R170) -/

/-- Input power of the circuit on the upper (even) or lower line of a cell, none without one that reads. -/
def Dev.lineAt (d : Dev) (i : Nat) (upper : Bool) : Option Int :=
  ((d.through i).find? (fun x => x.2.path.any (fun h => h.cell == i && (h.line % 2 == 0) == upper))).bind
    (fun x => d.lineIn x.2)

/-- The upper line carries at least the power of the lower. -/
def Dev.upperMore (d : Dev) (i : Nat) : Bool :=
  match d.lineAt i true, d.lineAt i false with
  | some p, some q => decide (q ≤ p)
  | none, some _ => false
  | _, none => true

/-- The gains in force for a cell (R179). -/
def Dev.gains (d : Dev) (i : Nat) : Int × Int :=
  let l := d.loop i
  if l.ovr then (sgn 32 l.kp, sgn 32 l.ki)
  else (sgn 32 (d.get (CAP_KP_CELL (cellBlk i))), sgn 32 (d.get (CAP_KI_CELL (cellBlk i))))

/-- The trim and integrator of the present state written. -/
def Loop.putTrim (l : Loop) (cross : Bool) (t n : Int) : Loop :=
  if cross then { l with trimC := t, integC := n } else { l with trimB := t, integB := n }

/-- The feedback step of a cell in ACQUIRE or LOCKED on the dithered ratio r, in 2^-16 (R159); a step outward at the window or at the
driver's range is not taken by the integrator (R160). (Log entry 26 DEDUCED.) -/
def Dev.ratioStep (d : Dev) (i : Nat) (r : Int) : Dev :=
  let l := d.loop i
  let s := (d.cell i).cross
  let g := (if l.dplus then 1 else -1) * (r - l.rPrev)
  let k := d.gains i
  let win : Int := d.get (CAP_TRIM_WIN (cellBlk i))
  let integ := if s then l.integC else l.integB
  let step := nearest (k.2 * g) 65536
  let nx := integ - step
  let v := d.ffVal i s + nx
  let step := if (0 < step ∧ (nx < -win ∨ v < codeMin)) ∨ (step < 0 ∧ (win < nx ∨ codeMax < v)) then 0 else step
  let integ := clampI (-win) win (integ - step)
  let new := clampI (-win) win (integ - nearest (k.1 * g) 65536)
  let l' :=
    if l.rValid then
      let ch := (new - l.trim s).natAbs
      let n := if ch ≤ 4 then l.lockRun + 1 else 0
      { l.putTrim s new integ with
        lockRun := n, delta := new - l.trim s, mode := if 32 < ch then 1 else if 8 ≤ n then 2 else l.mode }
    else { l with delta := 0 }
  (d.setLoop i { l' with rPrev := r, rValid := true, dplus := !l.dplus, dither := if l.dplus then -8 else 8 }).writeLoop i

/-- Companion tracking of a SHADOWED cell: the mean change of the block's LOCKED cells in the same state, while there
are at least 16 (R162). -/
def Dev.companion (d : Dev) (i : Nat) : Dev :=
  let s := (d.cell i).cross
  let ms := (blkCells (cellBlk i)).filter (fun j => (d.loop j).mode == 2 && (d.cell j).cross == s)
  if ms.length < 16 then d else
  let win : Int := d.get (CAP_TRIM_WIN (cellBlk i))
  let l := d.loop i
  let t := clampI (-win) win (l.trim s + nearest ((ms.map (fun j => (d.loop j).delta)).sum) ms.length)
  (d.setLoop i (l.putTrim s t t)).writeLoop i

/-- The mode of a lit, closed loop looked at under R162. -/
def Dev.observe (d : Dev) (i : Nat) : Dev :=
  let l := d.loop i
  if (l.mode = 1 ∨ l.mode = 2) ∧ d.shadowed i = true then
    let d := d.setLoop i (l.enter 3)
    if l.priv then d.refreshPriv (cellBlk i) else d
  else if l.mode = 3 ∧ d.shadowed i = false then d.setLoop i { l.enter 1 with rValid := false, lockRun := 0 }
  else d

/-- A good update of an OPEN loop counted, or the count reset (R170). -/
def Dev.goodUpdate (d : Dev) (i : Nat) (good : Bool) : Dev :=
  let l := d.loop i
  let n := if good then min 1024 (l.good + 1) else 0
  let d := d.setLoop i { l with good := n }
  if n = 1024 ∧ d.on (CAP_BLK_CFG_AUTO_RECLOSE (cellBlk i)) = true then d.reclose i else d

/-- What one update does after the freeze tests: LOSS, then the work of the mode. p and q: the readings of the upper
and lower probes. -/
def Dev.workLoop (d : Dev) (i : Nat) (p q : Int) : Dev :=
  let dark := d.litLines i != 0 && !d.weak i && d.belowFloor p && d.belowFloor q
  let l := d.loop i
  let n := if dark then l.darkRun + 1 else 0
  let d := d.setLoop i { l with darkRun := n }
  if n = 64 then d.openWater i .loss else
  let d := d.observe i
  let m := (d.loop i).mode
  if m = 1 ∨ m = 2 then
    let a : Int := linearPower p
    let b : Int := linearPower q
    let low := (!(d.cell i).cross) == d.upperMore i
    let x := if low then b else a
    if a + b = 0 then (d.useFresh).ratioStep i (Config.freeInt d.fresh)
    else d.ratioStep i (nearest (x * 65536) (a + b).toNat)
  else if m = 3 then d.companion i
  else d

/-- The tests of R168 and what follows them: the raw codes of the upper and lower probes with their readings p and q. The feedback of
a SHADOWED cell is not tested: its tests start afresh when it is observable again (R162). (Log entry 47 DESIGN CHOICE.) -/
def Dev.testLoop (d : Dev) (i : Nat) (rawU rawL p q : Int) : Dev :=
  let l := d.loop i
  let up := l.up.take rawU
  let lp := l.lp.take rawL
  let raws := (((rawU, rawL) :: l.raws).take 4)
  let openU := d.bondOpen (probeCell i 0)
  let openL := d.bondOpen (probeCell i 1)
  if l.mode = 3 then
    let d := (d.setLoop i { l with up := probe0, lp := probe0, darkRun := 0, raws }).observe i
    if (d.loop i).mode = 3 then d.companion i
    else (d.setLoop i { d.loop i with up := probe0.take rawU, lp := probe0.take rawL }).workLoop i p q
  else if l.mode = 4 then
    let lightOk := d.litLines i == 0 || d.weak i || !d.belowFloor p || !d.belowFloor q
    (d.setLoop i { l with up, lp, raws }).goodUpdate i (l.up.moved rawU && l.lp.moved rawL && !openU && !openL && lightOk)
  else if openU then (d.setLoop i { l with raws }).openWater i .probeOpen
  else if up.run = 64 then (d.setLoop i { l with up, raws }).openWater i .freeze
  else if openL then (d.setLoop i { l with up, raws }).openWater i .probeOpen
  else if lp.run = 64 then (d.setLoop i { l with up, lp, raws }).openWater i .freeze
  else (d.setLoop i { l with up, lp, raws }).workLoop i p q

/-- CELL_LOOP_UPDATE: one sample of each probe of cell i, in the slots of its next update (R156); claims for privilege in a reach that
calibrates are looked at first (R163). A sample taken under a test current feeds nothing (R426). (Log entry 88 DESIGN CHOICE.) -/
def Dev.rowLoop (d : Dev) (i : Nat) (rawU rawL : Int) : Dev :=
  let b := cellBlk i
  let d := if d.calibrating b then d.refreshPriv b else d
  if !d.loopsRun b || (d.loop i).mode == 5 || (d.loop i).mode == 6 then d else
  let u := d.updateOf i
  let d := d.atLeastIn [blkReach b] u.1
  let d := d.setLoop i { d.loop i with lastAt := some u.1 }
  let ca := d.codeBy b u.2.1 (probeCell i 0) rawU
  let cb := d.codeBy b u.2.2 (probeCell i 1) rawL
  let d := (d.recSample b (2 * (i % 144)) ca).recSample b (2 * (i % 144) + 1) cb
  let d := (d.flipRipple (probeCell i 0)).flipRipple (probeCell i 1)
  if d.underTest b (probeCell i 0) || d.underTest b (probeCell i 1) then d
  else d.testLoop i rawU rawL (reading (d.probeCor (probeCell i 0)) ca) (reading (d.probeCor (probeCell i 1)) cb)

/-- A write to CAP_RECLOSE: acted on once the good count has reached 1,024. A block has 144 cells (R181). -/
def Dev.rowReclose (d : Dev) (b c : Nat) : Dev :=
  let i := b * 144 + c
  let l := d.loop i
  if 144 ≤ c then d.badEncoding else if l.mode = 4 ∧ 1024 ≤ l.good then d.reclose i else d

/-- CAP_TRIM_WIN written: no trim of the block stays outside the new window, and the berths follow (R157). (Log entry 26 DEDUCED.) -/
def Dev.newWindow (d : Dev) (b : Nat) : Dev :=
  let w : Int := d.get (CAP_TRIM_WIN b)
  let k := clampI (-w) w
  ((blkCells b).foldl (fun d i =>
    let l := d.loop i
    d.setLoop i { l with trimB := k l.trimB, trimC := k l.trimC, integB := k l.integB, integC := k l.integC }) d).followTemp b

/-- A claim under R163 (c) lapses 50 us after the cell's last switch. -/
def Dev.rowLapse (d : Dev) (i : Nat) : Dev :=
  match (d.loop i).switched with
  | some t => (d.atLeastIn [blkReach (cellBlk i)] (t + 50000)).refreshPriv (cellBlk i)
  | none => d

/-! ## Port groups (R171-R176) -/

/-- TARGET of OUT(o), none for 0x8000. -/
def Dev.target (d : Dev) (o : Nat) : Option Int :=
  if d.get (CAP_PORT_TARGET_TARGET o) = 0x8000 then none else some (sgn 16 (d.get (CAP_PORT_TARGET_TARGET o)))

/-- S put in the group and shown in SETPOINT; RAMPING while it has not reached TARGET. -/
def Dev.putS (d : Dev) (o : Nat) (s t : Int) : Dev :=
  ((d.setGroup o { d.group o with s, rampAt := none }).set (CAP_PORT_STATUS_SETPOINT o) (uns 16 (nearest s 25))).setB
    (CAP_PORT_STATUS_RAMPING o) (decide (s ≠ t * 25))

/-- No TARGET: no set-point. -/
def Dev.noS (d : Dev) (o : Nat) : Dev :=
  ((d.setGroup o { d.group o with rampAt := none }).set (CAP_PORT_STATUS_SETPOINT o) 0x8000).setB (CAP_PORT_STATUS_RAMPING o) false

/-- S at an update that reads p: taken from the reading once 100 ns have passed since the ramp's start, then moving
toward TARGET by RAMP (R175). -/
def Dev.moveS (d : Dev) (o : Nat) (p : Int) : Dev :=
  match d.target o with
  | none => d.noS o
  | some t =>
    match (d.group o).rampAt with
    | some a => if d.now < a + 100 then d else d.putS o (p * 25) t
    | none =>
      let s := (d.group o).s
      let r : Int := d.get (CAP_PORT_TARGET_RAMP o)
      d.putS o (if s < t * 25 then min (t * 25) (s + r) else max (t * 25) (s - r)) t

/-- A write of TARGET: a change of 1.00 dB or less from S sets S at once, another starts the ramp (R175). -/
def Dev.writeTarget (d : Dev) (o v : Nat) : Dev :=
  let had := (d.target o).isSome
  let d := d.set (CAP_PORT_TARGET_TARGET o) v
  match d.target o with
  | none => d.noS o
  | some t =>
    if had ∧ (d.group o).rampAt = none ∧ (t * 25 - (d.group o).s).natAbs ≤ 2500 then d.putS o (t * 25) t
    else d.startRamp o

/-- The request of equalisation and its integrator in 2^-16 of 0.01 dB (R172); until a ramp has taken S it holds the applied
attenuation (R175). (Log entry 93 DESIGN CHOICE.) -/
def Dev.equalise (d : Dev) (o : Nat) (p : Int) : Int × Int :=
  let g := d.group o
  let top : Int := aMax * 65536
  match d.target o with
  | none =>
    let n := max 0 (g.integ - nearest ((d.get (CAP_PORT_TARGET_RAMP o) : Int) * 65536) 25)
    (nearest n 65536, n)
  | some _ =>
    if g.rampAt.isSome then (g.applied, g.integ) else
    let b := 64 + o / 16
    let e := p * 25 - g.s
    let n := clampI 0 top (g.integ + nearest (sgn 32 (d.get (CAP_KI_EQ b)) * e) 25)
    (clampI 0 aMax (nearest (n + nearest (sgn 32 (d.get (CAP_KP_EQ b)) * e) 25) 65536), n)

/-- The three requests on a reading p, the highest applied; loops that lose follow it (R171-R174). WINNER names the first of equal
requests, in the order equalisation, ceiling, thermal. While the reach calibrates only the ceiling moves (R166): A3 is 0 then. (Log entries 90 DESIGN CHOICE, 92 DESIGN CHOICE.) -/
def Dev.workGroup (d : Dev) (o : Nat) (p : Int) : Dev :=
  let g := d.group o
  let cal := d.calibrating (64 + o / 16)
  let d := if cal then d else d.moveS o p
  let e := if cal then (nearest g.integ 65536, g.integ) else d.equalise o p
  let ceil := sgn 16 (d.get (CAP_PORT_CEIL o))
  let a2 := max 0 (g.applied + p - (ceil - 20))
  let a3 := if d.derating (64 + o / 16) && !cal then
      max 0 (g.applied + p - (ceil - 10 * (d.get (CAP_PORT_LIMIT_DERATE o) : Int))) else 0
  let a := min (aMax : Int) (max e.1 (max a2 a3))
  let w := if a ≤ e.1 then 1 else if a ≤ a2 then 2 else 3
  let d := (d.attenuate o a.toNat).set (CAP_PORT_STATUS_WINNER o) w
  d.setGroup o { d.group o with applied := a, integ := if w = 1 ∨ cal = true then e.2 else a * 65536 }

/-- Equalisation and the thermal request start again from the applied attenuation (R176). -/
def Dev.resumeGroup (d : Dev) (o : Nat) : Dev :=
  let g := d.group o
  (d.setB (CAP_PORT_STATUS_FB_LOST o) false).setGroup o { g with integ := g.applied * 65536, good := 0 }

/-- The feedback of a port group is lost: 3 dB more, held; its owner and PF0 are told (R176). WINNER stays as it was. (Log entry 91 DESIGN CHOICE.) -/
def Dev.portLost (d : Dev) (o : Nat) : Dev :=
  let g := d.group o
  let a := min (aMax : Int) (g.applied + 300)
  let d := if d.on (FAB_VOA_STATUS_DARK o) then d else (d.attenuate o a.toNat).setGroup o { g with applied := a }
  let d := (d.setB (CAP_PORT_STATUS_FB_LOST o) true).setGroup o { d.group o with good := 0 }
  let t := d.tktOnOut o
  let d := d.event { code := 0x32, state := 0, reason := 0, tenant := (t.map (fun x => x.2.tenant)).getD 0,
                     ticket := (t.map (·.1)).getD 0, table := 0, time := stampOf d.now, arg := 512 + o }
  d.raise 9 2 (512 + o) 0 []

/-- A sample of a port, drain or lamp-feed probe of block b (R61, R168, R184, R185, R430): its channel, its entry, the fields of its
register, whether a reach run keeps it STALE until its switch (R197), and the raw code. One taken under a test current changes no
reading (R426). (Log entry 88 DESIGN CHOICE.) -/
def Dev.portSample (d : Dev) (b ch probe : Nat) (pw fl st ov : Fld) (calib : Bool) (raw : Int) : Dev :=
  let v := d.readProbe b ch probe raw
  let d := (d.recSample b ch (d.codeOf b ch probe raw)).flipRipple probe
  if d.underTest b probe then d else
  let d := d.setPower pw fl st ov v
  let d := { d with fab := { d.fab with readAt := d.fab.readAt.put none probe (some d.now) } }
  if d.bondOpen probe || (calib && d.reachState (blkReach b) == 3) then d.setB st true else d

/-- A sample of the output-port probe of OUT(o). -/
def Dev.outSample (d : Dev) (o : Nat) (raw : Int) : Dev :=
  d.portSample (64 + o / 16) (288 + o % 16) (probeOut o) (FAB_OUT_POWER_POWER o) (FAB_OUT_POWER_FLOOR o) (FAB_OUT_POWER_STALE o)
    (FAB_OUT_POWER_OVER o) false raw

/-- PORT_GROUP_UPDATE: one sample of the output-port probe of OUT(o) in its planned slot (R156): the tests of R168, then the work of the
group. (Log entry 88 DESIGN CHOICE.) -/
def Dev.rowGroup (d : Dev) (o : Nat) (raw : Int) : Dev :=
  let b := 64 + o / 16
  if !d.loopsRun b || d.on (FAB_BLK_STATUS_PARKED b) then d else
  let at_ := d.groupAt o
  let d := d.atLeastIn [blkReach b] at_
  let d := d.setGroup o { d.group o with lastAt := some at_ }
  let p := d.readProbe b (288 + o % 16) (probeOut o) raw
  let d := d.outSample o raw
  if d.underTest b (probeOut o) then d else
  let g := d.group o
  let t := g.probe.take raw
  let moved := g.probe.moved raw
  let isOpen := d.bondOpen (probeOut o)
  let d := d.setGroup o { g with probe := t }
  if d.on (CAP_PORT_STATUS_FB_LOST o) then
    let n := if moved && !isOpen then min 1024 (g.good + 1) else 0
    let d := d.setGroup o { d.group o with good := n }
    if n = 1024 ∧ d.on (CAP_BLK_CFG_AUTO_RECLOSE b) = true then d.resumeGroup o else d
  else if isOpen || t.run == 64 then d.portLost o
  else if d.on (FAB_VOA_STATUS_DARK o) then d
  else d.workGroup o p

/-- A write of 1 to FB_LOST: acted on once the good count has reached 1,024. -/
def Dev.rowFbClear (d : Dev) (o : Nat) : Dev :=
  if d.on (CAP_PORT_STATUS_FB_LOST o) && decide (1024 ≤ (d.group o).good) then d.resumeGroup o else d

/-! ## The commands -/

/-- CELL_LOOP_UPDATE (R159): A capstan update of one cell runs the feedback tests and moves its trim on the dithered
ratio. -/
def execCellLoopUpdate (k : Fin 13824) (rawU : Int) (rawL : Int) (s : State) : Ans := s.upd (fun d => d.rowLoop k.val rawU rawL)

/-- CAP_RECLOSE (R170): A write to CAP_RECLOSE recloses the named cell's loop once its good count has reached 1,024.
-/
def execCapReclose (r : Requester) (b : Fin 96) (c : Fin 256) (s : State) : Ans := s.own r (0x201330 + b.val * 0x2000) (fun d => d.rowReclose b.val c.val)

/-- PORT_GROUP_UPDATE (R171): A port group computes its equalisation, ceiling and thermal requests and applies the
highest attenuation. -/
def execPortGroupUpdate (o : Fin 512) (raw : Int) (s : State) : Ans := s.upd (fun d => d.rowGroup o.val raw)

/-- FB_LOST_CLEAR (R176): A write of 1 to CAP_PORT_STATUS.FB_LOST resumes the group once its good count is reached. -/
def execFbLostClear (r : Requester) (o : Fin 512) (s : State) : Ans := s.own r (0x380048 + o.val * 0x400) (fun d => d.rowFbClear o.val)

/-- PRIV_CLAIM_LAPSE (R163): A privilege claim lapses 50 us after the cell's last switch and its place goes to the
next claim. -/
def execPrivClaimLapse (k : Fin 13824) (s : State) : Ans := s.upd (fun d => d.rowLapse k.val)

end Sys2Proof.Machine
end

