-- ==== Sys2Proof/Machine/Survey.lean ====
section
/-! DEFINITION. The survey converters: channels, conversions, result queues, injected conversions and the open-wire round (R413-R428). -/

namespace Sys2Proof.Machine

/-! ## Values (R415, R416) -/

/-- FS of rail k in mV, with the rail's sign: twice its nominal magnitude (R213, R415, R477). -/
def railFS (k : Nat) : Int := [1500, 1800, 2400, 3600, 6600, 7200, -7200, 2400, 6600].getD k 0

/-- A 16-bit VALUE where the result lies in the unit's range; outside it the spec states none: a free value. (Log entry 50 DESIGN CHOICE.) -/
def Dev.fit16 (d : Dev) (v lo hi : Int) : Dev × Nat :=
  if lo ≤ v ∧ v ≤ hi then (d, uns 16 v) else (d.useFresh, Config.freeNat d.fresh % 65536)

/-- VALUE and FLOOR of a corrected survey code (R415). A probe's reading is computed from a quarter of the code. -/
def Dev.svyValue (d : Dev) (ch : Chan) (code : Int) : Dev × Nat × Bool :=
  match ch with
  | .drive _ => let r := d.fit16 (nearest ((code - 32768) * 7200) 65536) (-32768) 32767; (r.1, r.2, false)
  | .ref _ => let r := d.fit16 code 0 65535; (r.1, r.2, false)
  | .rail k => let r := d.fit16 (nearest (code * railFS k) 65536) (-32768) 32767; (r.1, r.2, false)
  | .aux _ => let r := d.fit16 (nearest (code * 18000) 65536) 0 65535; (r.1, r.2, false)
  | c =>
    let p := d.probeCor (c.probe.getD 0)
    let v := nearest (p.zero * 16384 + (code - 4 * p.ofs) * p.resp) 16384
    let low := match c with | .cellProbe _ _ => d.belowFloor v | _ => decide (v < -4000)
    if low then (d, 0x8000, true) else let r := d.fit16 v (-32768) 32767; (r.1, r.2, false)

/-- The averaged raw code of 2^AVG samples (R416). -/
def average (avg : Nat) (l : List Nat) : Nat := ((l.map (· % 65536)).sum + (if avg = 0 then 0 else 2 ^ (avg - 1))) / 2 ^ avg

/-! ## Who gets the converter (R420, R421, R424) -/

/-- SVY_STATUS.STATE of converter c (R429): 0 idle, 1 converting, 2 injected, 3 open-wire step, 4 reference sweep, 5
self-calibration, 6 off. -/
def Dev.convState (d : Dev) (c : Nat) : Nat :=
  let x := d.conv c
  if d.convOff c then 6
  else if d.tick < x.hold then (if x.cal then 5 else 4)
  else match x.job with
    | some j => if j.2.1 then 2 else 1
    | none => if d.stepNow c then 3 else 0

/-- SVY_STATUS as a word. -/
def Dev.svyStatusW (d : Dev) (c : Nat) : Nat :=
  let x := d.conv c
  (d.sets [(SVY_STATUS_STATE c, d.convState c), (SVY_STATUS_LATCHED c, b2n x.latched.isSome), (SVY_STATUS_REQ_COUNT c, x.reqs.length),
    (SVY_STATUS_RES_COUNT c, x.results.length), (SVY_STATUS_OFF_CAUSE c, if x.fault then 1 else if d.convOff c then 2 else 0)]).rawReg
      (SVY_STATUS_STATE c).off

/-- A conversion starts: one with a test current samples 1.500 us later; an injected one leaves its instant. -/
def Dev.startConv (d : Dev) (c : Nat) (q : SvyReq) (inj : Bool) : Dev :=
  let d := d.setConv c { d.conv c with job := some (q, inj, d.tick + (if q.cur = 0 then 0 else 1500)), cor := d.adc (768 + c) }
  if inj then d.set (SVY_INJ_LAST c) (stampOf d.now) else d

/-! ## The gangway continuity test (R473, R474) -/

/-- The two conversions of a bond: CUR +I, then -I. -/
def bondReqs (code : Nat) : List SvyReq :=
  let k := if 0x1000 ≤ code then 3 else 1
  [{ chan := code, avg := 0, raw := true, cur := k, tag := 0, test := true },
   { chan := code, avg := 0, raw := true, cur := k + 1, tag := 0, test := true }]

/-- A converter's part of the test fed: the next bond once the second conversion of the one before has started, each conversion
as a place in the request queue is free. -/
def Dev.gwFeed (d : Dev) (c : Nat) : Dev :=
  match d.svy.gwOn with
  | none => d
  | some (n, _) =>
    if c / 2 ≠ n then d else
    let x := d.conv c
    let g := d.gw c
    let g := if x.reqs.any (fun q => q.test) || !g.owed.isEmpty then g else
      match g.todo with
      | code :: l => { g with todo := l, prog := g.prog ++ [code], owed := bondReqs code }
      | [] => g
    let k := 16 - x.reqs.length
    (d.setGw c { g with owed := g.owed.drop k }).setConv c { x with reqs := x.reqs ++ g.owed.take k }

/-- A free converter takes the first item present: a step that is due waits for its row; then the latched trigger, which its
self-calibration waits for (R192), then the oldest request, whose place the continuity test may take. -/
def Dev.nextConv (d : Dev) (c : Nat) : Dev :=
  let x := d.conv c
  let due := x.cal && x.latched.isSome && x.job.isNone
  if d.convOff c || (d.convBusy c && !due) || d.stepNow c then d else
  match x.latched with
  | some q => (d.setConv c { x with latched := none }).startConv c q true
  | none =>
    match x.reqs with
    | q :: l => ((d.setConv c { x with reqs := l }).startConv c q false).gwFeed c
    | [] => d

/-! ## Requests and results (R416-R418) -/

/-- A write of SVY_REQ. The ABORT result of an isolated reach waits for its link. (Log entry 50 DESIGN CHOICE.) -/
def Dev.rowSvyReq (d : Dev) (c w : Nat) : Dev :=
  let q : SvyReq := { chan := bits w 0 13, avg := bits w 13 4, raw := bit w 17, cur := bits w 18 3, tag := bits w 24 8, test := false }
  match chanOf (c / 2) q.chan with
  | none => d.badEncoding
  | some ch =>
    let x := d.conv c
    if 8 < q.avg ∨ 4 < q.cur ∨ (q.cur ≠ 0 ∧ ch.isBond = false) then d.badEncoding
    else if d.convOff c then (if (d.rch (c / 2)).isolated then d else d.svyResult c (svyWord q 0 false false false true))
    else if 16 ≤ x.reqs.length then d.inc (SVY_CNT_REQFULL c)
    else (d.setConv c { x with reqs := x.reqs ++ [q] }).nextConv c

/-- The three reference codes of converter c lie within 64 of those expected (R427): raw codes of REF_LO, REF_MID and
REF_HI. -/
def Dev.refOk (d : Dev) (c : Nat) (raws : List Nat) : Bool :=
  (raws.zip [3641, 32768, 61895]).all (fun (x : Nat × Int) => decide ((correct (d.adc (768 + c)) x.1 - x.2).natAbs ≤ 64))

/-- A bond of the test done: counted in the pass, suspect for the retests; failed there. With the pass over on both converters
the retests begin. -/
def Dev.gwBond (d : Dev) (n c code : Nat) (retest : Bool) (diff : Nat) : Dev :=
  let g := d.gw c
  let lim := if 0x1000 ≤ code then d.get SVY_OW_CFG_DRIVE_THRESH else d.get SVY_OW_CFG_PROBE_THRESH
  let sus := decide (lim ≤ diff)
  let d := d.setGw c { g with prog := g.prog.erase code, first := none, suspect := if sus && !retest then g.suspect ++ [code] else g.suspect }
  let d := if !retest then d.inc TST_GW_STATUS_TESTED
    else if !sus then d
    else
      let i := d.get TST_GW_STATUS_FAILED
      let d := if i < 64 then d.sets [(TST_GW_FAIL_DIFF i, diff), (TST_GW_FAIL_CHAN i, code), (TST_GW_FAIL_VALID i, 1)] else d
      d.inc TST_GW_STATUS_FAILED
  let through := fun (c : Nat) => (d.gw c).todo.isEmpty && (d.gw c).prog.isEmpty
  if !retest && through (2 * n) && through (2 * n + 1) then
    let d := { d with svy := { d.svy with gwOn := some (n, true) } }
    [2 * n, 2 * n + 1].foldl (fun d c => ((d.setGw c { d.gw c with todo := (d.gw c).suspect, suspect := [] }).gwFeed c).nextConv c) d
  else d

/-- A conversion of the test ends with its averaged raw code: the second of a bond judges it. -/
def Dev.gwDone (d : Dev) (c : Nat) (q : SvyReq) (raw : Nat) : Dev :=
  let code := correct (d.conv c).cor raw
  match d.svy.gwOn with
  | none => d
  | some (n, retest) =>
    let g := d.gw c
    if !g.prog.contains q.chan then d
    else if q.cur % 2 = 1 then d.setGw c { g with first := some code }
    else d.gwBond n c q.chan retest ((g.first.getD code) - code).natAbs

/-- The bonds of block b taken out of the test as it enters service: in the pass they are counted as skipped. -/
def Dev.gwSkip (d : Dev) (b : Nat) : Dev :=
  match d.svy.gwOn with
  | none => d
  | some (n, retest) =>
    if b / 8 ≠ n then d else
    let mine := fun (code : Nat) => (if 0x1000 ≤ code then (code - 0x1000) / 256 else code / 512) == b % 8
    [2 * n, 2 * n + 1].foldl (fun d c =>
      let g := d.gw c
      let k := ((g.todo ++ g.prog).filter mine).length
      let keep := fun (l : List SvyReq) => l.filter (fun q => !(q.test && mine q.chan))
      let no := fun (l : List Nat) => l.filter (fun x => !mine x)
      let d := d.setGw c { g with todo := no g.todo, prog := no g.prog, owed := keep g.owed, suspect := no g.suspect }
      let d := d.setConv c { d.conv c with reqs := keep (d.conv c).reqs }
      let d := if retest then d else d.set TST_GW_SKIPPED (d.get TST_GW_SKIPPED + k)
      d.gwFeed c) d

/-- CONVERSION_DONE: the samples of the conversion that ends. Where none runs and the references failed at the round's
start, they are those of the repeat at the end of its part of the round. -/
def Dev.rowConvDone (d : Dev) (c : Nat) (samples : List Nat) : Dev :=
  let d := if (d.conv c).job.isNone then (d.atTick (d.conv c).hold).nextConv c else d
  let x := d.conv c
  match x.job with
  | none =>
    if x.ref && x.left.isEmpty && !d.convOff c then
      let d := d.setConv c { x with ref := false }
      if d.refOk c samples then d else d.raise 41 7 (768 + c) 0 [d.svyStatusW c]
    else d
  | some (q, inj, t) =>
    let d := (d.atTick (t + 2 ^ q.avg * 500)).setConv c { x with job := none }
    let raw := average q.avg samples
    if q.test then (d.gwDone c q raw).nextConv c else
    let past := samples.any (fun s => s % 65536 == 0 || s % 65536 == 65535)
    let r : Dev × Nat × Bool := if q.raw then (d, raw, false) else
      match chanOf (c / 2) q.chan with
      | some ch => d.svyValue ch (correct x.cor raw)
      | none => (d, raw, false)
    (r.1.svyResult c (svyWord q r.2.1 inj r.2.2 past false)).nextConv c

/-- SVY_RES_POP: a read of the low word pops the head, the high word latched for the requester; 0 from an empty
queue. -/
def Dev.rowSvyPop (d : Dev) (r : Requester) (c : Nat) : Dev :=
  let x := d.conv c
  let off := (SVY_RES c).off
  let w := x.results.headD 0
  let d := d.setConv c { x with results := x.results.drop 1 }
  ((d.unlatch r).setRlatch r (some (off, w / 2 ^ 32))).emit (.answer (reqKey r) off (w % 2 ^ 32))

/-! ## Injected conversions (R419, R420) -/

/-- The setup as SVY_INJ_CFG stands. -/
def Dev.setup (d : Dev) (c : Nat) : SvyReq :=
  { chan := d.get (SVY_INJ_CFG_CHAN c), avg := d.get (SVY_INJ_CFG_AVG c), raw := d.on (SVY_INJ_CFG_RAW c), cur := 0,
    tag := d.get (SVY_INJ_CFG_TAG c), test := false }

/-- A trigger: it starts a conversion on a free converter, is latched while it is busy, or dropped and counted. Two in
one tick count as one. -/
def Dev.trigger (d : Dev) (c : Nat) : Dev :=
  let x := d.conv c
  if x.trigAt = some d.tick then d else
  let d := d.setConv c { x with trigAt := some d.tick }
  if d.convOff c then d.inc (SVY_CNT_OVERRUN c)
  else if d.convBusy c || d.stepNow c then
    if x.latched.isNone then d.setConv c { d.conv c with latched := some (d.setup c) }
    else (d.inc (SVY_CNT_OVERRUN c)).raise 42 7 (768 + c) 0 [d.svyStatusW c]
  else d.startConv c (d.setup c) true

/-- INJECTION_TRIGGER: the time trigger falls; the next follows after the period. -/
def Dev.rowInject (d : Dev) (c : Nat) : Dev :=
  match (d.conv c).next with
  | none => d
  | some t =>
    if !d.on (SVY_INJ_CFG_TIME_EN c) then d else
    let d := d.atLeastIn [c / 2] t
    let p := d.get (SVY_INJ_PERIOD c)
    (d.setConv c { d.conv c with next := if p = 0 then none else some (t + p) }).trigger c

/-! ## The open-wire round (R423-R425, R427) -/

/-- The bonds that converter c tests, in ascending channel code: blocks 4j to 4j + 3 of its reach, or all eight while
the other is off; blocks in service only. -/
def Dev.roundBonds (d : Dev) (c : Nat) : List Nat :=
  let n := c / 2
  let alone := d.convOff (if c % 2 = 0 then c + 1 else c - 1)
  let ks := (List.range 8).filter (fun k => (alone || k / 4 == c % 2) && d.inService (8 * n + k))
  let probes := ks.flatMap (fun k => ((List.range 321).map (fun x => k * 512 + x)).filter (fun x => (chanOf n x).isSome))
  probes ++ ks.flatMap (fun k => (List.range 144).map (fun i => 0x1000 + k * 256 + i))

/-- A round starts in reach n. -/
def Dev.startRound (d : Dev) (n : Nat) : Dev :=
  if (d.rch n).isolated then d else
  let on := (List.range 2).filter (fun j => !d.convOff (2 * n + j))
  if on.isEmpty then d else
  let d := on.foldl (fun d j =>
    let c := 2 * n + j
    d.setConv c { d.conv c with todo := d.roundBonds c, suspect := [], retest := false, steps := 0 }) d
  let d := { d with svy := { d.svy with rounds := d.svy.rounds.put none n (some d.tick) } }
  d.sets [(SVY_RND_STATUS_RUNNING n, 1), (SVY_RND_STATUS_RETEST n, 0), (SVY_RND_STATUS_CONVS n, (on.map (fun j => 2 ^ j)).sum)]

/-- BOND_OPEN: a bond is reported open and its reaction starts. -/
def Dev.reportOpen (d : Dev) (n code : Nat) (ch : Chan) (e : Nat) : Dev :=
  if d.bondOpen e then d else
  let d := { d with cap := { d.cap with open_ := d.cap.open_.put false e true } }
  let d := (d.inc (SVY_RND_STATUS_OPEN_BONDS n)).set (SVY_RND_LAST n) code
  match ch with
  | .cellProbe i _ => if d.loopsRun (cellBlk i) && decide ((d.loop i).mode < 3) then d.openWater i .probeOpen else d
  | .port b l =>
    if isIngress b then (d.setB (FAB_IN_POWER_STALE (b * 16 + l)) true).raise 9 2 (b * 16 + l) 0 []
    else if d.on (CAP_PORT_STATUS_FB_LOST ((b - 64) * 16 + l)) then d else d.portLost ((b - 64) * 16 + l)
  | .drain b l => (d.setB (FAB_DRAIN_POWER_STALE ((b - 64) * 16 + l)) true).raise 9 2 (512 + (b - 64) * 16 + l) 0 []
  | .lampFeed b => d.raise 9 3 b 0 []
  | .drive i => d.raise 3 1 i 0 []
  | _ => d

/-- A bond reported open passes. -/
def Dev.clearOpen (d : Dev) (n e : Nat) : Dev :=
  if !d.bondOpen e then d else
  let d := { d with cap := { d.cap with open_ := d.cap.open_.put false e false } }
  d.set (SVY_RND_STATUS_OPEN_BONDS n) (d.get (SVY_RND_STATUS_OPEN_BONDS n) - 1)

/-- After a step: the pass over, the retests of up to 16 suspects follow; the round ends with the last converter. -/
def Dev.roundOn (d : Dev) (c : Nat) : Dev :=
  let n := c / 2
  let x := d.conv c
  let d := if !x.retest && x.todo.isEmpty then d.setConv c { x with retest := true, suspect := x.suspect.take 16 } else d
  let a := d.conv (2 * n)
  let b := d.conv (2 * n + 1)
  if a.left.isEmpty && b.left.isEmpty && (a.retest || a.todo.isEmpty) && (b.retest || b.todo.isEmpty) then
    (((d.stopRound n).inc (SVY_RND_COUNT n))).set (SVY_RND_END n) (stampOf d.now)
  else d.setB (SVY_RND_STATUS_RETEST n) (a.retest || b.retest)

/-- OPEN_WIRE_STEP: the next bond of the converter's part tested, its two raw codes with the current each way. -/
def Dev.rowOpenWire (d : Dev) (c raw1 raw2 : Nat) : Dev :=
  let n := c / 2
  let x := d.conv c
  match d.stepDue c, x.left with
  | some t, code :: rest =>
    if d.convOff c || d.convBusy c then d else
    let d := d.atTick t
    let d := d.atTick (d.tick + 4000)
    let a := d.adc (768 + c)
    let diff := (correct a raw1 - correct a raw2).natAbs
    let x := { d.conv c with steps := x.steps + 1 }
    match chanOf n code with
    | none => (d.setConv c (if x.retest then { x with suspect := rest } else { x with todo := rest })).roundOn c
    | some ch =>
      let e := ch.bond.getD 0
      let lim := match ch with | .drive _ => d.get SVY_OW_CFG_DRIVE_THRESH | _ => d.get SVY_OW_CFG_PROBE_THRESH
      let sus := decide (lim ≤ diff)
      let d :=
        if x.retest then
          let d := d.setConv c { x with suspect := rest }
          if sus then d.reportOpen n code ch e else d
        else
          let d := d.setConv c { x with todo := rest, suspect := if sus then x.suspect ++ [code] else x.suspect }
          if sus then d else d.clearOpen n e
      (d.roundOn c).nextConv c
  | _, _ => d

/-- The round start of every reach while DIAG bit 0 is 1, with the reference codes of the converters (R423, R427). -/
def Dev.rounds (d : Dev) (refs : List (Nat × List Nat)) : Dev :=
  if !d.diag 0 then d else
  let d := (List.range 12).foldl (fun d n => d.startRound n) d
  refs.foldl (fun d (x : Nat × List Nat) =>
    if d.convOff x.1 then d else d.setConv x.1 { d.conv x.1 with ref := !d.refOk x.1 x.2 }) d

/-! ## The commands -/

/-- SVY_REQ (R417): A write to SVY_REQ queues one conversion, or is ignored when the queue is full. -/
def execSvyReq (r : Requester) (c : Fin 24) (w : Nat) (s : State) : Ans := s.own r (0xA0100 + c.val * 0x40) (fun d => d.rowSvyReq c.val w)

/-- CONVERSION_DONE (R416): A survey conversion ends; its result is queued and the converter starts its next item. -/
def execConversionDone (c : Fin 24) (samples : List Nat) (s : State) : Ans := s.upd (fun d => d.rowConvDone c.val samples)

/-- SVY_RES_POP (R418): A read of the low word of SVY_RES pops the head of the result queue. -/
def execSvyResPop (r : Requester) (c : Fin 24) (s : State) : Ans := s.access (fun d => d.ownRead r (SVY_RES c.val).off (fun d => d.rowSvyPop r c.val))

/-- INJECTION_TRIGGER (R419): A time or recorder trigger starts, latches or drops an injected conversion. -/
def execInjectionTrigger (c : Fin 24) (s : State) : Ans := s.upd (fun d => d.rowInject c.val)

/-- OPEN_WIRE_STEP (R425): an open-wire test step falls due and tests one bond with reversed currents. -/
def execOpenWireStep (c : Fin 24) (raw1 : Nat) (raw2 : Nat) (s : State) : Ans := s.upd (fun d => d.rowOpenWire c.val raw1 raw2)

end Sys2Proof.Machine
end

