-- ==== Sys2Proof/Machine/Calib.lean ====
section
/-! DEFINITION. Calibration: files, dumps, converter self-calibration, reach runs, host writes to the store (R183-R202). -/

namespace Sys2Proof.Machine

/-- Some block is in service. -/
def Dev.anyInService (d : Dev) : Bool := (List.range 96).any d.inService

/-- A load, dump or self-calibration is in progress. -/
def Dev.calBusy (d : Dev) : Bool := d.on CAL_STATUS_LOAD_BUSY || d.on CAL_STATUS_DUMP_BUSY || d.on CAL_STATUS_ADC_BUSY

/-! ## Loading a file (R189, R190, R458) -/

/-- CAL_CTL.LOAD written: the file is read, or the load refused BUSY. -/
def Dev.rowCalLoad (d : Dev) : Dev :=
  if d.anyInService || d.calBusy then (d.set CAL_STATUS_ERR 1).irq .calLoad
  else
    let r := d.cohRead 0 (d.get CAL_FILE_ADDR * 64) (d.get CAL_FILE_LEN)
    { (r.1.setB CAL_STATUS_LOAD_BUSY true) with cal := { r.1.cal with miss := !r.2 } }

/-- The 256-bit die identity of this module. -/
def dieIdentity : Nat := (List.range 8).foldl (fun n q => n + Config.dieId q % 2 ^ 32 * 2 ^ (32 * q)) 0

/-- Check 9. -/
def CalFile.inRange (f : CalFile) : Bool :=
  let ok := fun (x : Int) => decide (-27306 ≤ x ∧ x ≤ 27306)
  f.ff.all (fun e => ok e.bar && ok e.cross && decide (e.htr ≤ 2000)) && f.adc.all (fun c => decide (16384 ≤ c.2 ∧ c.2 ≤ 65535))
    && f.probes.all (fun p => p.2.1 != 0) && f.blocks.all (fun b => decide (-4000 ≤ b.1 ∧ b.1 ≤ 12500))

/-- The code of the first check that fails; 0: all pass. (Log entry 53 DESIGN CHOICE.) -/
def Dev.calErr (d : Dev) (f : CalFile) : Nat :=
  if d.anyInService || d.on CAL_STATUS_DUMP_BUSY || d.on CAL_STATUS_ADC_BUSY then 1
  else if !f.readOk || d.cal.miss then 2
  else if !f.formatOk || f.bytes != d.get CAL_FILE_LEN || !(f.kind == 1 || f.kind == 2) then 3
  else if f.band ≠ Config.band then 4
  else if f.dieId ≠ dieIdentity then 5
  else if f.kind = 2 ∧ d.on CAL_STATUS_FACTORY = false then 6
  else if !f.crcOk then 7
  else if !f.digestOk then 8
  else if !CalFile.inRange f then 9
  else 0

/-- A list as a table, its default left out. -/
def tabOf {α : Type} [DecidableEq α] (dflt : α) (l : List α) : Tab α :=
  ⟨(l.zipIdx.map (fun (x : α × Nat) => (x.2, x.1))).filter (fun (c : Nat × α) => decide (c.2 ≠ dflt))⟩

/-- A file's entry as the store holds it. -/
def ffOfFile (e : CalFF) : FF :=
  { ff0B := e.bar, ff0C := e.cross, tcB := e.tcBar, tcC := e.tcCross, htr := e.htr, measured := e.measured, rejected := e.rejected }

/-- The sets that a SAVED image replaces; values written to them that still wait are overtaken. -/
def Dev.applySets (d : Dev) (f : CalFile) (trig : List Int) : Dev :=
  { d with cal := { d.cal with
      waiting := d.cal.waiting.filter (fun x => x.1 == 0)
      probes := tabOf probeCor0 (f.probes.map (fun p => { ofs := p.1, resp := p.2.1, zero := p.2.2 }))
      ff := tabOf ff0 (f.ff.map ffOfFile)
      tref := tabOf 0 (f.blocks.map (·.1)), trig := tabOf 0 trig } }

/-- The loop defaults of a block copied into its CAP registers (R190). -/
def Dev.copyLoops (d : Dev) (b : Nat) : Dev :=
  let g := d.cal.loops.get loopDef0 b
  let d := d.sets [(CAP_KP_CELL b, g.kpCell), (CAP_KI_CELL b, g.kiCell), (CAP_TRIM_WIN b, g.win)]
  (if isEgress b then d.sets [(CAP_KP_EQ b, g.kpEq), (CAP_KI_EQ b, g.kiEq)] else d).newWindow b

/-- An accepted FACTORY file: every set of R183, the loop defaults copied, every block's trigger reference at its T_REF (R190). -/
def Dev.applyFactory (d : Dev) (f : CalFile) : Dev :=
  let adc := tabOf adc0 (f.adc.map (fun c => { ofs := c.1, gain := c.2, failed := false }))
  let loops := tabOf loopDef0 (f.gains.map (fun g => { kpCell := g.1, kiCell := g.2.1, win := g.2.2.1, kpEq := g.2.2.2.1, kiEq := g.2.2.2.2 }))
  let d := d.applySets f (f.blocks.map (·.1))
  let d := { d with cal := { d.cal with adc, factory := adc, voa := tabOf [] f.voa, lamp := f.lamp, loops, waiting := [] } }
  let d := (List.range 96).foldl (fun d b => d.copyLoops b) d
  let d := d.sets [(CAL_STATUS_FACTORY, 1), (CAL_STATUS_TABLES_VALID, 1)]
  d.startPark ((List.range 96).filter (fun b => d.on (FAB_BLK_STATUS_PARKED b)))

/-- The read ends: the file is applied whole, or refused with its code. -/
def Dev.rowCalLoaded (d : Dev) (file : HostFile) : Dev :=
  if !d.on CAL_STATUS_LOAD_BUSY then d else
  let f := calFile file
  let d := d.setB CAL_STATUS_LOAD_BUSY false
  let e := d.calErr f
  let d := if e ≠ 0 then d.set CAL_STATUS_ERR e
    else if f.kind = 1 then d.applyFactory f else d.applySets f (f.blocks.map (·.2))
  d.irq .calLoad

/-! ## Dumps (R191) -/

/-- CAL_CTL.DUMP written: the values in force are taken as they are. While a load, a dump or a self-calibration runs it is refused with
BUSY, after the check of the length. (Log entry 95 DESIGN CHOICE.) -/
def Dev.rowDump (d : Dev) : Dev :=
  if d.get CAL_FILE_LEN < 456016 then (d.set CAL_STATUS_ERR 3).irq .calDump
  else if d.calBusy then (d.set CAL_STATUS_ERR 1).irq .calDump
  else
    let x : CalDump := { at_ := d.now, addr := d.get CAL_FILE_ADDR * 64, probes := d.cal.probes, ff := d.cal.ff, tref := d.cal.tref,
                         trig := d.cal.trig }
    { (d.setB CAL_STATUS_DUMP_BUSY true) with cal := { d.cal with dump := some x } }

/-- The last byte of the image has been written. (Log entry 53 DESIGN CHOICE.) -/
def Dev.rowDumped (d : Dev) : Dev :=
  match d.cal.dump with
  | none => d
  | some x =>
    let image := savedImage dieIdentity (stampOf x.at_) (fun i => x.probes.get probeCor0 i) (fun i => x.ff.get ff0 i)
      (fun b => x.tref.get 0 b) (fun b => x.trig.get 0 b)
    let d := { (d.setB CAL_STATUS_DUMP_BUSY false) with cal := { d.cal with dump := none } }
    (d.emit (.hostBytes 0 x.addr (image.map BitVec.toNat))).irq .calDump

/-! ## Converter self-calibration (R178, R192) -/

/-- The tick a converter can be taken at: now, after the conversion it runs, and after the injected one that is latched (R192). -/
def Dev.convFree (d : Dev) (c : Nat) : Nat :=
  let x := d.conv c
  let t := match x.job with | some (q, _, t) => max d.tick (t + 2 ^ q.avg * 500) | none => d.tick
  match x.latched with | some q => t + 2 ^ q.avg * 500 | none => t

/-- CAL_CTL.ADC_SELF written: refused with BUSY unless a FACTORY file is in force and every block is out of service, and while a load, a
dump or a self-calibration runs. A survey converter starts once the injected conversion pending on it is done. (Log entry 96 DESIGN CHOICE.) -/
def Dev.rowAdcSelf (d : Dev) : Dev :=
  if !d.on CAL_STATUS_FACTORY || d.anyInService || d.calBusy then (d.set CAL_STATUS_ERR 1).irq .calAdc
  else
    let d := d.setB CAL_STATUS_ADC_BUSY true
    (List.range 24).foldl (fun d c =>
      if d.convOff c then d else d.setConv c { d.conv c with hold := d.convFree c + 1600000, cal := true }) d

/-- A result fits the factory entry: OFS within 64 LSB, GAIN within 2 %. -/
def adcFits (f : Adc) (r : Int × Nat) : Bool :=
  decide ((r.1 - f.ofs).natAbs ≤ 64 ∧ 50 * ((r.2 : Int) - f.gain).natAbs ≤ f.gain)

/-- Every converter done, with its result by entry index. One that does not fit keeps its factory entry and is marked
failed: a capstan converter's failure counts as its capstan's. -/
def Dev.rowAdcDone (d : Dev) (results : List (Int × Nat)) : Dev :=
  if !d.on CAL_STATUS_ADC_BUSY then d else
  let d := (d.atTick ((List.range 24).foldl (fun t c => max t (d.conv c).hold) d.tick)).setB CAL_STATUS_ADC_BUSY false
  let d := (List.range 24).foldl (fun d c => d.setConv c { d.conv c with cal := false }) d
  let d := { d with cal := { d.cal with waiting := d.cal.waiting.filter (fun x => x.1 != 0) } }
  let fac := d.cal.factory
  let fails := (results.take 792).zipIdx.filter (fun (x : (Int × Nat) × Nat) => !adcFits (fac.get adc0 x.2) x.1)
  let d := (results.take 792).zipIdx.foldl (fun d (x : (Int × Nat) × Nat) =>
    let f := fac.get adc0 x.2
    d.setAdc x.2 (if adcFits f x.1 then { ofs := x.1.1, gain := x.1.2, failed := false } else { f with failed := true })) d
  let d := fails.foldl (fun d (x : (Int × Nat) × Nat) =>
    if x.2 < 768 then d.rowCapstanFail (x.2 / 8) (some (x.2 % 8)) else d.raise 41 7 x.2 0 [d.svyStatusW (x.2 - 768)]) d
  (d.sets [(CAL_STATUS_ADC_DONE, 1), (CAL_STATUS_ADC_FAILS, fails.length)]).irq .calAdc

/-! ## Reach runs (R193-R198) -/

/-- CAL_REACH_REQ written. (Log entry 53 DESIGN CHOICE.) -/
def Dev.rowReachReq (d : Dev) (mask : Nat) : Dev := (bitList mask 12).foldl (fun d n => d.requestRun n none) d

/-- A block takes part in a run: in service, not moored, not adopted (R199). -/
def Dev.runBlk (d : Dev) (b : Nat) : Bool := d.inService b && !d.moored b && !d.on (CAP_BLK_STATUS_ADOPTED b)

/-- What a cell is at the start of a run (R196). -/
def Dev.runKind (d : Dev) (i : Nat) : Nat :=
  if d.litLines i = 0 then (if d.fixed i then 1 else 0)
  else if (d.loop i).mode = 2 then (if (d.cell i).cross then 3 else 2)
  else 4

/-- A lamp circuit from LF(b) to DR(k) put in queue Q3 as a SURVEY ticket (R79, R85, R195), unless its feed or its
drain is held, or its feed's monitor reported open (R425). -/
def Dev.placeLamp (d : Dev) (n b k : Nat) : Dev :=
  let t := 16352 + b
  if (d.tkt t).state ≠ 0 ∨ d.bondOpen (probeLamp b) = true ∨ d.allTkts.any (fun x => x.2.dstDrain && x.2.dst == k) = true then d else
  let x := d.cmd.nextX
  let d := d.admitTkt t { tkt0 with src := b, dst := k, srcLamp := true, dstDrain := true, cls := 2, prio := 0, state := 1 }
  let d := d.addXing { xing0 (.lamp n) with makes := [t], unsolved := [t] }
  d.setReady 3 (d.ready 3 ++ [.xing x])

/-- The reach that owns the lamp enters RUNNING once its survey converter 0 has no injected conversion pending: a
reference sweep of 32 us, loops held, readings STALE, lamp circuits placed. A reach that is RUNNING places the next of its lamp
circuits. (Log entry 53 DESIGN CHOICE.) -/
def Dev.rowRunStart (d : Dev) (n : Nat) (circuits : List (Nat × Nat)) : Dev :=
  let place := fun (d : Dev) => circuits.foldl (fun d c => d.placeLamp n c.1 c.2) d
  let x := d.conv (2 * n)
  let inj := x.latched.isSome || (match x.job with | some (_, i, _) => i | none => false)
  if d.fab.lamp.owner ≠ some n ∨ d.still = true then d
  else if d.reachState n = 2 then place d
  else if d.reachState n ≠ 1 ∨ inj = true ∨ (d.rch n).isolated = true ∨ (d.rch n).clockLost = true then d
  else
  let bs := ((List.range 8).map (fun j => 8 * n + j)).filter d.runBlk
  let r := d.reachRun n
  let cells := (bs.flatMap blkCells).filter (fun i => match r.only with | some l => l.contains i | none => true)
  let d := d.setReachRun n { r with tref := bs.map (fun b => (b, d.blkTemp b)), kinds := cells.map (fun i => (i, d.runKind i)) }
  let d := (d.setReachState n 2).setConv (2 * n) { x with hold := d.convFree (2 * n) + 32000, cal := false }
  let d := (List.range 8).foldl (fun d j => d.refreshPriv (8 * n + j)) d
  place (d.staleReach n true)

/-! ## Sweeps (R195, R196) -/

/-- The dark-output ratio in 2^-16 of one step of a sweep: step k's raw codes of the upper and lower probes, the lamp's light in the
upper line or the lower. Where neither probe has power the rule gives none: a free value. (Log entry 53 DESIGN CHOICE.) -/
def Dev.sweepRatio (d : Dev) (i : Nat) (cross upper : Bool) (k : Nat) (raw : Int × Int) : Int :=
  let b := cellBlk i
  let power := fun (arm : Nat) (x : Int) =>
    let e := probeCell i arm
    let q := if k % 2 = 0 then d.ripple e else -(d.ripple e)
    (linearPower (reading (d.probeCor e) (correct (d.adc (b * 8 + d.planConv b (2 * (i % 144) + arm))) (x - q))) : Int)
  let pu := power 0 raw.1
  let pl := power 1 raw.2
  let dark := if (!cross) = upper then pl else pu
  if pu + pl = 0 then Config.freeInt d.fresh else nearest (dark * 65536) (pu + pl).toNat

/-- The place of the least number of a list, the first of equal ones. -/
def leastAt (l : List Int) : Nat := (List.range l.length).foldl (fun m k => if l.getD k 0 < l.getD m 0 then k else m) 0

/-- The code of least ratio of 16 steps across WIN either side of f: the least step refined by a parabola through its two neighbours;
none where it is the first step or the last. (Log entry 53 DESIGN CHOICE.) -/
def sweepCode (f win : Int) (r : List Int) : Option Int :=
  let m := leastAt r
  if m = 0 ∨ m = 15 then none else
  let a := r.getD (m - 1) 0
  let c := r.getD (m + 1) 0
  let den := a - 2 * r.getD m 0 + c
  let den' := if den ≤ 0 then 1 else den.toNat
  some (clampI codeMin codeMax (f + nearest (win * ((2 * m - 15) * den' + (if den ≤ 0 then 0 else a - c))) (15 * den')))

/-- The result of a cell's sweep in one state, at temperature t. -/
def Dev.sweepState (d : Dev) (i : Nat) (t : Int) (cross : Bool) (s : Sweep) : Option Int :=
  let l := if cross then s.cross else s.bar
  sweepCode (ffOf (d.ff i) cross t (d.tref (cellBlk i))) (d.get CAL_ACCEPT)
    (l.zipIdx.map (fun x => d.sweepRatio i cross s.upper x.2 x.1))

/-- A cell swept: a lamp circuit of the run has lit it, and it has its 16 steps in each state it can take. -/
def Dev.swept (d : Dev) (r : ReachRun) (kind : Nat) (s : Sweep) : Bool :=
  r.reached.contains s.cell
    && (if kind = 0 then s.bar.length == 16 && s.cross.length == 16
        else kind == 1 && (if (d.cell s.cell).cross then s.cross else s.bar).length == 16)

/-- An entry re-referred to a temperature, ff unchanged there, its two states then shifted. -/
def reRef (e : FF) (t tref sB sC : Int) : FF :=
  { e with ff0B := clampI codeMin codeMax (ffOf e false t tref + sB), ff0C := clampI codeMin codeMax (ffOf e true t tref + sC) }

/-- A cell's new entry, and how it counts: 0 MEASURED, 1 CARRIED, 2 REJECTED. -/
def Dev.newEntry (d : Dev) (i kind : Nat) (t : Int) (s : Option Sweep) : FF × Nat :=
  let e := d.ff i
  let tr := d.tref (cellBlk i)
  let carried := { reRef e t tr 0 0 with measured := false, rejected := false }
  let shifted := fun (x : Int) => ({ reRef e t tr x x with measured := true, rejected := false }, 0)
  match kind, s with
  | 2, _ => shifted (d.loop i).trimB
  | 3, _ => shifted (d.loop i).trimC
  | 4, _ => (carried, 1)
  | _, none => (carried, 1)
  | 0, some w =>
    (match d.sweepState i t false w, d.sweepState i t true w with
      | some x, some y => ({ carried with ff0B := x, ff0C := y, measured := true }, 0)
      | _, _ => ({ carried with rejected := true }, 2))
  | _, some w =>
    let st := (d.cell i).cross
    (match d.sweepState i t st w with
      | some x => shifted (x - ffOf e st t tr)
      | none => ({ carried with rejected := true }, 2))

/-- The switches of the sweeps counted: a cell swept in both states goes to the other and back (R74, R195). -/
def Dev.sweepWear (d : Dev) (l : List Nat) : Dev :=
  let e := l.foldl (fun d i => (d.countWear i).countWear i) d
  e.switched d l

/-- A run ends after its end reference sweep of 32 us, with what its sweeps found: lamp circuits broken, the lamp released, loops running
again, new entries computed, the switch stamped. (Log entry 53 DESIGN CHOICE.) -/
def Dev.rowRunEnd (d : Dev) (n : Nat) (sweeps : List Sweep) : Dev :=
  if d.reachState n ≠ 2 then d else
  let d := d.setConv (2 * n) { d.conv (2 * n) with hold := max (d.conv (2 * n)).hold (d.convFree (2 * n)) + 32000 }
  let d := d.atTick (d.conv (2 * n)).hold
  let r := d.reachRun n
  let temp := fun b => ((r.tref.find? (fun x => x.1 == b)).map (·.2)).getD (d.tref b)
  let found := fun (k : Nat × Nat) => sweeps.find? (fun s => s.cell == k.1 && d.swept r k.2 s)
  let res := r.kinds.map (fun k => (k.1, d.newEntry k.1 k.2 (temp (cellBlk k.1)) (found k)))
  let rest := ((r.tref.map (·.1)).flatMap blkCells).filter (fun i => !(r.kinds.any (fun k => k.1 == i)))
  let others := rest.map (fun i => (i, reRef (d.ff i) (temp (cellBlk i)) (d.tref (cellBlk i)) 0 0))
  let count := fun c => (res.filter (fun x => x.2.2 == c)).length
  let left := r.lost.filter (fun i => r.kinds.any (fun k => k.1 == i && (found k).isNone))
  let both := (r.kinds.filter (fun k => k.2 == 0 && (found k).isSome)).map (·.1)
  let at_ := ceilMul (d.nowIn n + 2000) 4000
  let d := d.lampTkts.foldl (fun d t => d.freeTkt t 0) (d.useFresh.sweepWear both)
  let d := d.releaseLamp n
  let d := (res.filter (fun x => x.2.2 == 2)).foldl (fun d x => d.logL0 40 1 x.1 0 (d.snap 1 x.1 [])) d
  let d := d.setReachRun n { r with
                            entries := (res.map (fun x => (x.1, x.2.1))) ++ others
                            kinds := [], measured := count 0, carried := count 1, rejected := count 2, lost := left, switchAt := at_ }
  let d := (d.setReachState n 3).releaseHeld n
  (List.range 8).foldl (fun d j => d.refreshPriv (8 * n + j)) d

/-- The trims of a cell rewritten as its new entry takes effect: no berth value changes (R166). An open loop keeps none. -/
def Dev.retrim (d : Dev) (i : Nat) (e : FF) (tref : Int) : Dev :=
  let b := cellBlk i
  let l := d.loop i
  let t := d.blkTemp b
  let w : Int := d.get (CAP_TRIM_WIN b)
  let by_ := fun s => ffOf (d.ff i) s t (d.tref b) - ffOf e s t tref
  let f := fun (x : Int) s => clampI (-w) w (x + by_ s)
  let d := if l.mode = 4 then d else
    d.setLoop i { l with trimB := f l.trimB false, trimC := f l.trimC true, integB := f l.integB false, integC := f l.integC true }
  d.setFF i e

/-- The switch instant: new entries and references in force, counters updated, the reach IDLE; what was asked for
meanwhile follows. While a dump copies the reach it waits, at most 100 us from the dump's start, the spec does not say how long. (Log entry 53 DESIGN CHOICE.) -/
def Dev.rowCalSwitch (d : Dev) (n : Nat) : Dev :=
  if d.reachState n ≠ 3 then d else
  let r := d.reachRun n
  let at_ := match d.cal.dump with
    | some x => max r.switchAt (x.at_ + Config.freeNat d.fresh % 100001)
    | none => r.switchAt
  let d := d.useFresh.atLeastIn [n] at_
  let temp := fun b => ((r.tref.find? (fun x => x.1 == b)).map (·.2)).getD (d.tref b)
  let d := r.entries.foldl (fun d x => d.retrim x.1 x.2 (temp (cellBlk x.1))) d
  let d := r.tref.foldl (fun d x => (d.setTref x.1 x.2).setTrig x.1 x.2) d
  let d := d.staleReach n false
  let d := (d.sets [(CAL_RCH_CELLS_MEASURED n, r.measured), (CAL_RCH_CELLS_REJECTED n, r.rejected), (CAL_RCH_CARRIED n, r.carried),
    (CAL_RCH_END n, stampOf at_)]).inc (CAL_RCH_RUNS n)
  let d := d.runOver n
  if r.again ∨ r.lost.isEmpty = true then d else d.requestRun n (some r.lost)

/-! ## Host writes (R200, R201) -/

/-- The block of a probe entry. -/
def probeBlk (i : Nat) : Nat :=
  if i < 27648 then i / 288 else if i < 28160 then (i - 27648) / 16 else if i < 28672 then 64 + (i - 28160) / 16
  else if i < 29184 then 64 + (i - 28672) / 16 else i - 29184

/-- The entries of a table that CAL_ACC_SEL selects (R201). -/
def accEntries (t : Nat) : Nat := [792, 29216, 27648, 96].getD t 0

/-- The block whose service an entry's write waits for; none for a survey converter's (R200). -/
def accUnit (t i : Nat) : Option Nat :=
  match t with
  | 0 => if i < 768 then some (i / 8) else none
  | 1 => some (probeBlk i)
  | 2 => some (i / 2 / 144)
  | _ => some i

/-- A value put in the entry of a table. -/
def Dev.putAcc (d : Dev) (t i v : Nat) : Dev :=
  match t with
  | 0 => d.setAdc i { d.adc i with ofs := sgn 16 v, gain := bits v 16 16 }
  | 1 => d.setProbeCor i { ofs := sgn 16 v, resp := bits v 16 16, zero := sgn 16 (bits v 32 16) }
  | 2 =>
    let e := d.ff (i / 2)
    if i % 2 = 0 then d.setFF (i / 2) { e with ff0B := sgn 16 v, ff0C := sgn 16 (bits v 16 16), tcB := sgn 16 (bits v 32 16), tcC := sgn 16 (bits v 48 16) }
    else d.setFF (i / 2) { e with htr := bits v 0 11 }
  | _ => d.setTref i (sgn 16 v)

/-- The entries written while block b was out of service come in force as it returns (R13, R200). -/
def Dev.takeAcc (d : Dev) (b : Nat) : Dev :=
  let l := d.cal.waiting.filter (fun x => accUnit x.1 x.2.1 == some b)
  let d := { d with cal := { d.cal with waiting := d.cal.waiting.filter (fun x => accUnit x.1 x.2.1 != some b) } }
  l.foldl (fun d x => d.putAcc x.1 x.2.1 x.2.2) d

/-- The entry that CAL_ACC_SEL names written; FROZEN with its block as the unit, it waits for the block's return (R13), but for survey
converters. (Log entry 53 DESIGN CHOICE.) -/
def Dev.rowAcc (d : Dev) (v : Nat) : Dev :=
  let i := d.get CAL_ACC_SEL_INDEX
  let t := d.get CAL_ACC_SEL_TABLE
  if accEntries t ≤ i then d.badEncoding
  else match accUnit t i with
    | some b =>
      if d.inService b then d.frozenWrite
      else { d with cal := { d.cal with waiting := d.cal.waiting.filter (fun x => x.1 != t || x.2.1 != i) ++ [(t, i, v % 2 ^ 64)] } }
    | none => d.putAcc t i v

/-! ## The commands -/

/-- CAL_LOAD (R189): A write of CAL_CTL.LOAD starts reading a calibration file. -/
def execCalLoad (r : Requester) (s : State) : Ans := s.own r 0xD0000 (fun d => d.rowCalLoad)

/-- CAL_LOAD_COMPLETE (R189): the calibration file read ends; it is checked and applied whole or refused. -/
def execCalLoadComplete (f : HostFile) (s : State) : Ans := s.upd (fun d => d.rowCalLoaded f)

/-- DUMP (R191): A write of CAL_CTL.DUMP starts writing a SAVED image to host memory. -/
def execDump (r : Requester) (s : State) : Ans := s.own r 0xD0000 (fun d => d.rowDump)

/-- DUMP_COMPLETE (R191): the last byte of the dump is written; DUMP_BUSY clears and an interrupt is raised. -/
def execDumpComplete (s : State) : Ans := s.upd (fun d => d.rowDumped)

/-- ADC_SELF (R192): A write of CAL_CTL.ADC_SELF starts self-calibration of all converters, or is refused BUSY. -/
def execAdcSelf (r : Requester) (s : State) : Ans := s.own r 0xD0000 (fun d => d.rowAdcSelf)

/-- ADC_SELF_COMPLETE (R192): self-calibration ends; results replace table 0, failed converters are marked and
ADC_DONE is set. -/
def execAdcSelfComplete (results : List (Int × Nat)) (s : State) : Ans := s.upd (fun d => d.rowAdcDone results)

/-- CAL_REACH_REQ (R193): A write to CAL_REACH_REQ requests a reach calibration run. -/
def execCalReachReq (r : Requester) (mask : Nat) (s : State) : Ans := s.own r 0xD000C (fun d => d.rowReachReq mask)

/-- REACH_RUN_START (R194): A PENDING reach, with the lamp and survey converter 0 free, enters RUNNING. -/
def execReachRunStart (n : Fin 12) (circuits : List (Fin 32 × Fin 512)) (s : State) : Ans := s.upd (fun d => d.rowRunStart n.val (circuits.map (fun x => (x.1.val, x.2.val))))

/-- REACH_RUN_END (R198): A reach run's sweeps end; the lamp is released and the switch is stamped. -/
def execReachRunEnd (n : Fin 12) (sweeps : List Sweep) (s : State) : Ans := s.upd (fun d => d.rowRunEnd n.val sweeps)

/-- CAL_SWITCH (R198): at the switch instant the new feed-forward entries replace the old and trims are rewritten. -/
def execCalSwitch (n : Fin 12) (s : State) : Ans := s.upd (fun d => d.rowCalSwitch n.val)

/-- CAL_ACC_WRITE (R200): A write to CAL_ACC_DATA writes the selected calibration entry under its class. -/
def execCalAccWrite (r : Requester) (v : Nat) (s : State) : Ans := s.own r 0xD0038 (fun d => d.rowAcc v)

end Sys2Proof.Machine
end

