-- ==== Sys2Proof/Machine/Recorder.lean ====
section
/-! DEFINITION. The recorders' states: arms, the trigger sequencer, fires and groups, the end of a capture (R434-R442). -/

namespace Sys2Proof.Machine

/-- A capture is in progress (R434). -/
def Dev.inProgress (d : Dev) (n : Nat) : Bool :=
  let s := d.get (REC_STATUS_STATE n)
  s == 1 || s == 2 || s == 3

/-- The registers that take effect at the next arm, as they are written now (R445). -/
def Dev.recSnapshot (d : Dev) (n : Nat) : Tab Nat :=
  let b := 0xB1000 + n * 0x200
  let within := fun (k lo hi : Nat) => decide ((b + lo) * 64 ≤ k ∧ k < (b + hi) * 64)
  ⟨d.regs.cells.filter (fun (c : Nat × Nat) => within c.1 0x004 0x010 || within c.1 0x050 0x060 || within c.1 0x100 0x1C0)⟩

/-! ## Arming (R434, R435, R441) -/

/-- An arm that reaches recorder n. -/
def Dev.recArm (d : Dev) (n : Nat) : Dev :=
  if (d.rcdr n).stopped then d
  else if d.inProgress n then (d.setB (REC_STATUS_ARM_IGNORED n) true).raise 43 4 n 0 []
  else
    let r := d.rcdr n
    let room := recWords - d.get (REC_PRE n)
    let post := d.get (REC_POST n)
    let spillOn := d.on (REC_CFG_SPILL n) && d.get HLD_SPILL_CFG != 0 && d.holdUp
    let most := room + (if spillOn then d.get HLD_SPILL_CFG * spillWords else 0)
    let d := d.setRcdr n { r with since := 0, timeAt := none, gap := 0, cfg := d.recSnapshot n, post := min post most, spillOn, done := 0,
                                  fire := none, fired := false, seqAt := none, words := [], tmr0 := none, tmr1 := none, exp := [], sent := false }
    let d := d.sets ((List.range 4).map (fun k => (REC_CNT_VAL n k, 0)))
    let d := (d.sets [(REC_STATUS_SEQ n, 0), (REC_STATUS_STATE n, 1)]).recTime n
    let d := if d.get (REC_PRE n) = 0 then d.set (REC_STATUS_STATE n) 2 else d
    if most < post then (d.setB (REC_STATUS_CLAMPED n) true).raise 43 4 n 0 [] else d

/-- PRE words have been written since the arm. -/
def Dev.rowPreFilled (d : Dev) (n : Nat) : Dev :=
  if d.get (REC_STATUS_STATE n) = 1 ∧ (d.rcdr n).get (REC_PRE n) ≤ (d.rcdr n).since then d.set (REC_STATUS_STATE n) 2 else d

/-! ## Groups (R439) -/

/-- The other recorders that what recorder n does is passed to, as reg reads the settings of GROUP_EN and GROUP:
none to or from an isolated reach. -/
def Dev.mates (d : Dev) (n : Nat) (reg : Nat → Fld → Nat) : List Nat :=
  if reg n (REC_CFG_GROUP_EN n) = 0 ∨ (d.rch n).isolated = true then [] else
  (List.range 12).filter (fun m => m != n && reg m (REC_CFG_GROUP_EN m) != 0 && reg m (REC_CFG_GROUP m) == reg n (REC_CFG_GROUP n)
    && !(d.rch m).isolated)

/-- The settings as written, for an arm, and as in force since the arm. -/
def Dev.regWritten (d : Dev) (_ : Nat) (f : Fld) : Nat := d.get f
def Dev.regInForce (d : Dev) (n : Nat) (f : Fld) : Nat := (d.rcdr n).get f

/-- A TRIGGER frame for a group: KIND 1 ARM, 2 FIRE, 3 DISARM. (Log entry 49 DESIGN CHOICE.) -/
def Dev.sendTrigger (d : Dev) (n : Nat) (reg : Nat → Fld → Nat) (kind inst : Nat) : Dev :=
  if reg n (REC_CFG_GROUP_EN n) ≠ 0 ∧ reg n (REC_CFG_REMOTE n) ≠ 0 ∧ (d.rch n).isolated = false then
    d.broadcast (d.frame 5 true 0 [kind + reg n (REC_CFG_GROUP n) * 256, 0, inst % 2 ^ 32, inst / 2 ^ 32]) none
  else d

/-- An arm of recorder n by software, passed on unless it is ignored. (Log entry 48 DESIGN CHOICE.) -/
def Dev.armGroup (d : Dev) (n inst : Nat) : Dev :=
  if d.inProgress n || (d.rcdr n).stopped then d.recArm n else
  let mates := d.mates n d.regWritten
  let e := mates.foldl (fun d m => d.recArm m) (d.recArm n)
  e.sendTrigger n d.regWritten 1 inst

/-- REC_CTL.ARM written. -/
def Dev.rowArm (d : Dev) (n : Nat) : Dev := d.armGroup n 0

/-- REC_ARM_TIME reached. -/
def Dev.rowArmTime (d : Dev) (n : Nat) : Dev :=
  if !d.on (REC_CTL_ARM_AT n) || (d.rcdr n).stopped then d else
  let t := d.get (REC_ARM_TIME n)
  ((d.atLeastIn [n] (d.inst t)).setB (REC_CTL_ARM_AT n) false).armGroup n t

/-- A disarm that reaches recorder n. -/
def Dev.recDisarm (d : Dev) (n : Nat) : Dev :=
  let s := d.get (REC_STATUS_STATE n)
  if s = 1 ∨ s = 2 then (d.set (REC_STATUS_STATE n) 0).setRcdr n { d.rcdr n with fire := none } else d

/-- REC_CTL.DISARM written. -/
def Dev.rowDisarm (d : Dev) (n : Nat) : Dev :=
  let mates := d.mates n d.regInForce
  (mates.foldl (fun d m => d.recDisarm m) (d.recDisarm n)).sendTrigger n d.regInForce 3 0

/-! ## Firing (R436, R439, R440) -/

/-- The fire is taken now: the TRIGGER word first of the post-trigger part, the header, the injected conversions. (Log entries 48 DESIGN CHOICE, 49 DESIGN CHOICE.) -/
def Dev.takeFire (d : Dev) (n : Nat) (f : Fire) (inst : Nat) : Dev :=
  let d := d.recGap n
  let r := d.rcdr n
  let d := d.sets [(REC_HDR_TRIG n, stampOf inst), (REC_HDR_INFO_TRIG_ADDR n, r.wp), (REC_HDR_INFO_SRC n, f.src),
    (REC_HDR_SRC_MODULE n, f.module), (REC_HDR_SRC_REACH n, f.reach), (REC_HDR_SPILL n, 0), (REC_STATUS_STATE n, 3)]
  let d := (d.setRcdr n { r with fire := none, fired := true, done := 0 }).recPut n
    (5 * 2 ^ 60 + d.recDT n * 2 ^ 48 + f.src % 4 * 2 ^ 46 + f.module % 4096 * 2 ^ 32 + f.reach % 16 * 2 ^ 28)
  [2 * n, 2 * n + 1].foldl (fun d c => if d.on (SVY_INJ_CFG_REC_EN c) then d.trigger c else d) d

/-- A fire that reaches recorder n: counted while FILLING, the earliest kept while ARMED; one whose instant has passed
is taken on arrival. (Log entry 49 DESIGN CHOICE.) -/
def Dev.learnFire (d : Dev) (n : Nat) (f : Fire) : Dev :=
  if (d.rcdr n).stopped then d else
  let s := d.get (REC_STATUS_STATE n)
  if s = 1 then d.inc (REC_CNT_EARLY n)
  else if s ≠ 2 then d
  else
    let r := d.rcdr n
    match r.fire with
    | some g =>
      if g.at_ ≤ f.at_ then d
      else if f.at_ < d.nowIn n then (d.setB (REC_STATUS_LATE n) true).takeFire n f (d.nowIn n)
      else d.setRcdr n { r with fire := some f }
    | none =>
      if f.at_ < d.nowIn n then (d.setB (REC_STATUS_LATE n) true).takeFire n f (d.nowIn n)
      else d.setRcdr n { r with fire := some f }

/-- Recorder n, ARMED, fires locally, and its fire is passed on; one FIRE frame for a group per capture. -/
def Dev.localFire (d : Dev) (n src : Nat) : Dev :=
  let f : Fire := { at_ := d.nowIn n + 100 + (d.rcdr n).get (REC_CFG_LEAD_US n) * 1000, src, module := d.moduleId, reach := n }
  let mates := d.mates n d.regInForce
  let d := mates.foldl (fun d m => d.learnFire m { f with src := 2 }) (d.learnFire n f)
  if (d.rcdr n).sent then d else
  let d := d.sendTrigger n d.regInForce 2 (stampOf f.at_)
  (n :: mates).foldl (fun d m => d.setRcdr m { d.rcdr m with sent := true }) d

/-- REC_CTL.FORCE written. -/
def Dev.rowForceRec (d : Dev) (n : Nat) : Dev :=
  let s := d.get (REC_STATUS_STATE n)
  if (d.rcdr n).stopped then d
  else if s = 1 then d.inc (REC_CNT_EARLY n)
  else if s = 2 then d.localFire n 1
  else d

/-- The fire instant comes. -/
def Dev.rowFire (d : Dev) (n : Nat) : Dev :=
  match (d.rcdr n).fire with
  | some f =>
    if d.get (REC_STATUS_STATE n) = 2 ∧ (d.rcdr n).stopped = false then (d.atLeastIn [n] f.at_).takeFire n f f.at_ else d
  | none => d

/-! ## The sequencer (R437, R438) -/

/-- A word captured by recorder n matches comparator k. -/
def Rec.matches (r : Rec) (n k w : Nat) : Bool :=
  let src := r.get (REC_CMP_SRC n k)
  let thr := r.get (REC_CMP_THRESH n k)
  let under := r.get (REC_CMP_OP n k) != 0
  if src < 32 then
    bits w 60 4 == 2 && r.get (REC_SEL_EN n src) != 0 && bits w 45 3 == r.get (REC_SEL_BLOCK n src)
      && bits w 36 9 == r.get (REC_SEL_CHAN n src)
      && (if under then decide (bits w 0 14 ≤ thr) else decide (thr ≤ bits w 0 14))
  else
    let ch := chanOf n (bits w 34 13)
    bits w 60 4 == 3 && bits w 47 1 == src - 32
      && (match ch with
          | some (.ref _) | some (.aux _) => if under then decide (bits w 0 16 ≤ thr) else decide (thr ≤ bits w 0 16)
          | _ => if under then decide (sgn 16 w ≤ sgn 16 thr) else decide (sgn 16 thr ≤ sgn 16 w))

/-- Condition c with its argument holds in this cycle. (Log entry 48 DESIGN CHOICE.) -/
def Dev.condHolds (d : Dev) (n c arg : Nat) : Bool :=
  let r := d.rcdr n
  let words := if r.wordsAt = d.tick then r.words else []
  match c with
  | 1 => true
  | 2 => decide (arg < 4) && words.any (fun w => r.matches n arg w)
  | 3 => words.any (fun w => bits w 60 4 == 4 && bits w 40 8 == arg)
  | 4 => decide (arg < 4) && decide (d.get (REC_CNT_LIM n arg) ≤ d.get (REC_CNT_VAL n arg))
  | 5 => r.exp.contains (arg, d.tick)
  | 6 => !r.trigOff && decide (d.inst (d.get (REC_TRIG_TIME n)) ≤ d.nowIn n)
  | _ => false

/-- A branch taken: counters, timers, the next state, the fire. -/
def Dev.takeBranch (d : Dev) (n s b : Nat) : Dev :=
  let r := d.rcdr n
  let clr := r.get (REC_SEQ_CLR n s b)
  let inc := r.get (REC_SEQ_INC n s b)
  let start := r.get (REC_SEQ_START n s b)
  let d := (bitList clr 4).foldl (fun d k => d.set (REC_CNT_VAL n k) 0) d
  let d := (bitList inc 4).foldl (fun d k => d.addSat (REC_CNT_VAL n k) 1) d
  let due := fun t => some (d.tick + d.get (REC_TMR_LEN n t))
  let d := d.setRcdr n { r with seqAt := some d.tick, tmr0 := if bit start 0 then due 0 else r.tmr0,
                                tmr1 := if bit start 1 then due 1 else r.tmr1, fired := r.get (REC_SEQ_FIRE n s b) != 0 }
  let d := d.set (REC_STATUS_SEQ n) (r.get (REC_SEQ_NEXT n s b))
  if r.get (REC_SEQ_FIRE n s b) ≠ 0 then d.localFire n 0 else d

/-- One cycle of the sequencer: branch 0 of the current state, then branch 1; at most one is taken. -/
def Dev.rowBranch (d : Dev) (n : Nat) : Dev :=
  let r := d.rcdr n
  let s := d.get (REC_STATUS_SEQ n)
  let holds := fun b => d.condHolds n (r.get (REC_SEQ_COND n s b)) (r.get (REC_SEQ_ARG n s b))
  if d.get (REC_STATUS_STATE n) ≠ 2 ∨ r.fired = true ∨ r.seqAt = some d.tick ∨ (d.rcdr n).stopped = true then d
  else if holds 0 then d.takeBranch n s 0
  else if holds 1 then d.takeBranch n s 1
  else d

/-- A running timer expires. -/
def Dev.rowTmr (d : Dev) (n t : Nat) : Dev :=
  let r := d.rcdr n
  match if t = 0 then r.tmr0 else r.tmr1 with
  | none => d
  | some due =>
    let d := d.atTick due
    d.setRcdr n { r with tmr0 := if t = 0 then none else r.tmr0, tmr1 := if t = 0 then r.tmr1 else none,
                         exp := (r.exp.filter (fun x => x.2 == d.tick)) ++ [(t, d.tick)] }

/-! ## Marks, the end, remote members -/

/-- A write to REC_MARK. -/
def Dev.rowMark (d : Dev) (n v : Nat) : Dev := d.recEvent n 7 (v % 2 ^ 32)

/-- The post-trigger count is written. -/
def Dev.rowCaptured (d : Dev) (n : Nat) : Dev :=
  if d.get (REC_STATUS_STATE n) = 3 ∧ (d.rcdr n).post ≤ (d.rcdr n).done then d.set (REC_STATUS_STATE n) 4 else d

/-- The spill of a capture in progress ends early (R442): the capture ends with the last word written, or with its SRAM
part. -/
def Dev.endSpill (d : Dev) (n : Nat) : Dev :=
  let r := d.rcdr n
  if !d.inProgress n || !r.spillOn then d else
  let room := recWords - r.get (REC_PRE n)
  if r.post ≤ room then d.setRcdr n { r with spillOn := false }
  else
    let d := d.setB (REC_STATUS_SPILL_LOST n) true
    if d.get (REC_STATUS_STATE n) = 3 ∧ room ≤ r.done then
      (d.setRcdr n { r with spillOn := false, post := r.done }).set (REC_STATUS_STATE n) 4
    else d.setRcdr n { r with spillOn := false, post := room }

/-- The recorders a received frame of group g acts on. -/
def Dev.remoteMembers (d : Dev) (reg : Nat → Fld → Nat) (g : Nat) : List Nat :=
  (List.range 12).filter (fun m => reg m (REC_CFG_GROUP_EN m) != 0 && reg m (REC_CFG_REMOTE m) != 0 && reg m (REC_CFG_GROUP m) == g
    && !(d.rch m).isolated)

/-- A TRIGGER frame received: KIND 0 and groups without a recorder are discarded. -/
def Dev.rowTrigger (d : Dev) (k : Nat) (f : Frame) : Dev :=
  d.receiveAs 5 k f (fun d =>
    let g := bits (f.words.getD 0 0) 8 8
    let at_ := f.words.getD 2 0 % 2 ^ 32 + f.words.getD 3 0 * 2 ^ 32
    let inst := d.inst at_
    match bits (f.words.getD 0 0) 0 2 with
    | 1 => (d.remoteMembers d.regWritten g).foldl (fun d m =>
        if at_ = 0 ∨ inst ≤ d.nowIn m then d.recArm m else d.setRcdr m { d.rcdr m with armAt := some inst }) d
    | 2 => (d.remoteMembers d.regInForce g).foldl (fun d m => d.learnFire m { at_ := inst, src := 3, module := f.src, reach := 0 }) d
    | 3 => (d.remoteMembers d.regInForce g).foldl (fun d m => d.recDisarm m) d
    | _ => d)

/-- The earliest arm instant held for a recorder of group g comes. -/
def Dev.rowRemoteArm (d : Dev) (g : Nat) : Dev :=
  let l := (d.remoteMembers d.regWritten g).filterMap (fun m => (d.rcdr m).armAt)
  match l with
  | [] => d
  | t :: l =>
    let t := l.foldl min t
    (d.remoteMembers d.regWritten g).foldl (fun d m =>
      if (d.rcdr m).armAt = some t then (d.setRcdr m { d.rcdr m with armAt := none }).recArm m else d)
      (d.atLeastIn ((d.remoteMembers d.regWritten g).filter (fun m => (d.rcdr m).armAt == some t)) t)

/-! ## The commands -/

/-- REC_ARM (R435): A write of REC_CTL.ARM arms a recorder, or is ignored while a capture is in progress. -/
def execRecArm (r : Requester) (n : Fin 12) (s : State) : Ans := s.own r (0xB1000 + n.val * 0x200) (fun d => d.rowArm n.val)

/-- REC_ARM_TIME_REACHED (R435): module time reaches REC_ARM_TIME with ARM_AT set and the recorder is armed. -/
def execRecArmTimeReached (n : Fin 12) (s : State) : Ans := s.upd (fun d => d.rowArmTime n.val)

/-- DISARM (R439): A write of REC_CTL.DISARM returns a FILLING or ARMED recorder to IDLE. -/
def execDisarm (r : Requester) (n : Fin 12) (s : State) : Ans := s.own r (0xB1000 + n.val * 0x200) (fun d => d.rowDisarm n.val)

/-- REC_FORCE (R439): A write of REC_CTL.FORCE fires an ARMED recorder. -/
def execRecForce (r : Requester) (n : Fin 12) (s : State) : Ans := s.own r (0xB1000 + n.val * 0x200) (fun d => d.rowForceRec n.val)

/-- REC_MARK (R432): A write to REC_MARK writes a MARK event. -/
def execRecMark (r : Requester) (n : Fin 12) (v : Nat) (s : State) : Ans := s.own r (0xB1014 + n.val * 0x200) (fun d => d.rowMark n.val v)

/-- PRE_FILLED (R434): PRE words have been written since the arm and the recorder becomes ARMED. -/
def execPreFilled (n : Fin 12) (s : State) : Ans := s.upd (fun d => d.rowPreFilled n.val)

/-- SEQUENCER_BRANCH (R438): the trigger sequencer takes a branch, updating counters and timers and possibly firing.
-/
def execSequencerBranch (n : Fin 12) (s : State) : Ans := s.upd (fun d => d.rowBranch n.val)

/-- SEQUENCER_TIMER (R437): A recorder sequencer timer expires. -/
def execSequencerTimer (n : Fin 12) (t : Fin 2) (s : State) : Ans := s.upd (fun d => d.rowTmr n.val t.val)

/-- FIRE_INSTANT (R440): at the fire instant the recorder writes its TRIGGER word and becomes FIRED. -/
def execFireInstant (n : Fin 12) (s : State) : Ans := s.upd (fun d => d.rowFire n.val)

/-- CAPTURE_DONE (R441): the post-trigger count is written and the recorder becomes DONE. -/
def execCaptureDone (n : Fin 12) (s : State) : Ans := s.upd (fun d => d.rowCaptured n.val)

/-- REMOTE_ARM_INSTANT (R439): module time reaches the arm instant carried by a group ARM, and the recorders of that
group arm. -/
def execRemoteArmInstant (g : Fin 256) (s : State) : Ans := s.upd (fun d => d.rowRemoteArm g.val)

/-- TRIGGER (R439): A received TRIGGER frame arms, fires or disarms the recorders of its group. -/
def execTrigger (k : Fin 8) (f : RawFrame) (s : State) : Ans := s.upd (fun d => d.rowTrigger k.val (readFrame f))

end Sys2Proof.Machine
end

