-- ==== Sys2Proof/Machine/Tide.lean ====
section
/-! DEFINITION. Tide tables: compilation, start checks, the grid, steps as crossings, stops (R118-R130). -/

namespace Sys2Proof.Machine

/-! ## Compiled circuits and the cells they use -/

/-- The cells of a step with their states, each once. -/
def TStep.cells (s : TStep) : List (Nat × Bool) :=
  ((s.circs.flatMap Circ.path).map (fun h => (h.cell, h.cross))).eraseDups

/-- A circuit already placed in a step, as the rest of the step's solves see it. -/
def Circ.claim (c : Circ) (cls : Nat) : Claim :=
  { id := none, cls, movable := false, prio := 0, epoch := 0, ends := c.ends, mid := c.route.mid, path := c.path }

/-- One step solved circuit by circuit, tickets of out left out of the pattern (R120): its circuits, or the ERR code
4 NO_PATH or 5 NO_PATH_STEADY. -/
def Dev.solveStep (d : Dev) (cls : Nat) (out : List Nat) : List (Nat × Nat) → List Circ → Except Nat (List Circ)
  | [], done => .ok done
  | (s, t) :: l, done =>
    let e : Ends := { b := s / 16, p := s % 16, k := t / 16, z := t % 16 }
    match d.solveStill cls e d.now out (done.map (Circ.claim · cls)) with
    | some r => d.solveStep cls out l (done ++ [{ src := s, dst := t, route := r }])
    | none =>
      let q : Search := { cls, ends := e, make := d.now, steadyOk := true, isoFree := false }
      .error (if (d.search q out).isSome then 5 else 4)

/-- Every step solved. -/
def Dev.solveSteps (d : Dev) (cls : Nat) (out : List Nat) : List (Nat × List (Nat × Nat)) → Except Nat (List TStep)
  | [] => .ok []
  | (w, cs) :: l =>
    match d.solveStep cls out cs [] with
    | .error e => .error e
    | .ok c =>
      match d.solveSteps cls out l with
      | .error e => .error e
      | .ok r => .ok ({ dwell := w, circs := c, codes := [] } :: r)

/-- The sum of all dwells, and of those of the steps before step k. -/
def Table.cycle (t : Table) : Nat := (t.steps.map (·.dwell)).sum
def Table.upTo (t : Table) (k : Nat) : Nat := ((t.steps.take k).map (·.dwell)).sum

/-- The largest COUNT of a table's steps. -/
def Table.most (t : Table) : Nat := (t.steps.map (fun s => s.circs.length)).foldl max 0

/-- The cells that change from a pattern to a step, and the pattern after it. -/
def flipsTo (st : Tab Bool) (s : TStep) : Nat × Tab Bool :=
  s.cells.foldl (fun a c => (a.1 + b2n (a.2.get false c.1 != c.2), a.2.put false c.1 c.2)) (0, st)

/-- The cells flipped in one cycle once the table runs: its cost in credits (R123, R126). -/
def Table.cost (t : Table) : Nat :=
  let once := t.steps.foldl (fun st s => (flipsTo st s).2) Tab.empty
  (t.steps.foldl (fun (a : Nat × Tab Bool) s => let r := flipsTo a.2 s; (a.1 + r.1, r.2)) (0, once)).1

/-- The cells that change state from a pattern to a step, with their feed-forward codes from the tables in force (R120). -/
def Dev.codesTo (d : Dev) (st : Tab Bool) (s : TStep) : List (Nat × Bool × Int) :=
  (s.cells.filter (fun c => st.get false c.1 != c.2)).map (fun c => (c.1, c.2, d.ffVal c.1 c.2))

/-- The codes of every step worked out, each from the pattern before it. -/
def Dev.codesFrom (d : Dev) : Tab Bool → List TStep → List TStep
  | _, [] => []
  | st, s :: l => { s with codes := d.codesTo st s } :: d.codesFrom (flipsTo st s).2 l

/-- The berth codes of solved steps, step 0 entered from the last (R120, R381). -/
def Dev.withCodes (d : Dev) (l : List TStep) : List TStep := d.codesFrom (l.foldl (fun st s => (flipsTo st s).2) Tab.empty) l

/-- The conflict of a compiled step with cells that tickets hold. -/
def Dev.stepConflicts (d : Dev) (cls : Nat) (s : TStep) : Bool :=
  s.circs.any fun c =>
    let q : Search := { cls, ends := c.ends, make := d.now, steadyOk := false, isoFree := false }
    let cl := d.claims q []
    c.path.any (fun h => match d.judge q cl h with | some (t, _, _) => decide (2 ≤ t) | none => true)

/-- The steps of a table re-solved where they conflict (R123 check 4). -/
def Dev.resolveSteps (d : Dev) (cls : Nat) : List TStep → Except Nat (List TStep)
  | [] => .ok []
  | s :: l =>
    let r : Except Nat (List Circ) :=
      if d.stepConflicts cls s then d.solveStep cls [] (s.circs.map (fun c => (c.src, c.dst))) [] else .ok s.circs
    match r, d.resolveSteps cls l with
    | .ok c, .ok k => .ok ({ s with circs := c } :: k)
    | .error e, _ => .error e
    | _, .error e => .error e

/-! ## The table pool (R381) -/

/-- The bytes of a compiled step in the pool. -/
def TStep.bytes (s : TStep) : Nat := ceilMul (64 + 8 * s.codes.length + 4 * s.circs.length) 64

/-- The bytes of a table in the pool: its source padded to 64, and its compiled steps. -/
def Table.bytes (t : Table) : Nat := ceilMul t.src.length 64 + (t.steps.map TStep.bytes).sum

/-- The n lowest extents from k on that are not used; fuel bounds the search. -/
def pickExtents (used : List Nat) : Nat → Nat → Nat → List Nat
  | _, _, 0 => []
  | 0, _, _ => []
  | f + 1, k, n + 1 => if used.contains k then pickExtents used f (k + 1) (n + 1) else k :: pickExtents used f (k + 1) n

/-- The extents that tables take. -/
def Dev.usedExtents (d : Dev) : List Nat := (d.tide.tables.cells.filterMap (·.2)).flatMap (·.extents)

/-! ## Loading (R120, R121) -/

/-- The ERR code of a source (R118-R121): 0, 1 FORMAT, 2 DWELL, 3 PORTS where a set leaves the function's partition. (Log entry 21 DESIGN CHOICE.) -/
def Dev.srcErr (d : Dev) (fn : Nat) (l : List Byte) (s : Source) : Nat :=
  let ports := fun (sel : Nat × Nat → Nat) (st : Nat × List (Nat × Nat)) => st.2.map sel
  if s.magic ≠ 0x54444531 ∨ s.format ≠ 1 ∨ s.crc ≠ crcOf (l.drop 0x18) ∨ s.resv = true ∨ 1 < s.cls ∨ s.bytes ≠ l.length
      ∨ s.bytes ≠ 256 + (s.body.map (fun st => srcStepLen st.2.length)).sum ∨ s.steps = 0 ∨ 65536 < s.steps then 1
  else if s.body.any (fun st => (ports (·.1) st).eraseDups.length != st.2.length
      || (ports (·.2) st).eraseDups.length != st.2.length
      || st.2.any (fun c => !s.inSet.contains c.1 || !s.outSet.contains c.2)) then 1
  else if s.body.any (fun st => decide (st.1 < 1000)) || (decide (8192 < s.steps) && s.body.any (fun st => decide (st.1 < 2000)))
    then 2
  else if s.inSet.any (fun p => !d.inPart fn p) || s.outSet.any (fun p => !d.outPart fn p) then 3
  else 0

/-- A table's state and error code set (R137). (Log entry 36 DEDUCED.) -/
def Dev.tblState (d : Dev) (n st err : Nat) : Dev := (d.set (TID_TBL_STATUS_STATE n) st).set (TID_TBL_STATUS_ERR n) err

/-- A load fails: FAILED with its code; the load completes with it. -/
def Dev.failLoad (d : Dev) (n err : Nat) (op : Option Nat) : Dev :=
  let d := d.tblState n 6 err
  match op.bind d.op with
  | some o => d.finish o (0x40 + err) 0 err
  | none => d

/-! ## Runs (R123-R130) -/

/-- The run slot of a table. -/
def Dev.slotOf (d : Dev) (n : Nat) : Option Nat :=
  (List.range 4).find? (fun s => match d.run s with | some u => u.active && u.table == n | none => false)

/-- A free run slot. -/
def Dev.freeSlot (d : Dev) : Option Nat := (List.range 4).find? (fun s => (d.run s).isNone)

/-- The checks of R123 in order: the ERR code of the first that fails, 0 for none, with the steps as re-solved and their codes. -/
def Dev.startErr (d : Dev) (t : Table) : Nat × List TStep :=
  let busy := t.inSet.any (fun p => (d.tktOnIn p).isSome || d.tableHolds true p)
    || t.outSet.any (fun o => (d.tktOnOut o).isSome || d.tableHolds false o)
  if busy || (d.freeSlot).isNone then (3, t.steps)
  else if d.freeIds < 2 * t.most then (7, t.steps)
  else if t.owner ≠ 0 ∧ d.get (TOL_RATE t.owner) * t.cycle < t.cost * 256 * 1000 then (8, t.steps)
  else match d.resolveSteps t.cls t.steps with
    | .ok l => (0, if l = t.steps then l else d.withCodes l)
    | .error e => (e, t.steps)

/-- The lowest k FREE IDs. -/
def Dev.takeIds (d : Dev) : Nat → Nat → List Nat
  | 0, _ => []
  | n + 1, k =>
    match ((List.range 16352).drop k).find? (fun t => (d.tkt t).state == 0 && !d.reserved.contains t) with
    | some t => t :: d.takeIds n (t + 1)
    | none => []

/-- A run begins (R123, R124): its IDs reserved, its slot taken, its epoch drawn, its first transition's codes computed (R381); its
grid is fixed when the first step commits, and until then TID_RUN_NEXT shows the stamp asked for. -/
def Dev.startRun (d : Dev) (o : Op) (n : Nat) (t : Table) (steps : List TStep) : Dev :=
  match d.freeSlot with
  | none => d
  | some s =>
    let j := bits o.entry.arg 16 16
    let u : Run :=
      { active := true, table := n, start := 0, first := j, cycles := o.entry.arg20, keep := !bit o.entry.arg 10,
        nextStep := j, nextCyc := 0, stopAt := none, stopOps := [], startOp := some o.tag, cycEnd := none,
        firstCodes := (match steps[j]? with | some st => st.cells.map (fun c => (c.1, c.2, d.ffVal c.1 c.2)) | none => []),
        ids := d.takeIds (2 * t.most) 0, epoch := d.tk.epoch, held := false, noResume := false, streamed := 0 }
    let d := (d.setRun s (some u)).setTable n (some { t with steps })
    let d := (d.drawEpoch.tblState n 4 0).set (TID_TBL_STATUS_SLOT n) s
    d.sets [(TID_RUN_STATUS_TABLE s, n), (TID_RUN_STATUS_STEP s, j), (TID_RUN_STATUS_ACTIVE s, 1), (TID_RUN_STATUS_HELD s, 0),
      (TID_RUN_STATUS_STREAMING s, b2n (decide (8192 < t.steps.length))), (TID_RUN_CYCLES s, 0), (TID_RUN_NEXT s, o.entry.stamp)]

/-- The tickets of a table's circuits in place, or made and waiting. -/
def Dev.tableTkts (d : Dev) (n : Nat) : List (Nat × Ticket) :=
  d.allTkts.filter (fun x => x.2.tableOwned && x.2.table == n)

/-- The cycle whose last step's dwell has ended is counted (R124). -/
def Dev.settleCycle (d : Dev) (s : Nat) : Dev :=
  match d.run s with
  | none => d
  | some u =>
    if u.cycEnd.any (fun e => decide (e ≤ d.now)) then
      (d.setRun s (some { u with cycEnd := none })).set (TID_RUN_CYCLES s) (d.get (TID_RUN_CYCLES s) + 1)
    else d

/-- A run ends: the slot and its IDs free, the table in its next state, FAILED with HOLD where it ran on from the step
cache after a loss of the hold (R383); remaining circuits become ordinary tickets (R127, R128). -/
def Dev.endRun (d : Dev) (s st err : Nat) : Dev :=
  let d := d.settleCycle s
  match d.run s with
  | none => d
  | some u =>
    let gone := d.hld.cached.contains u.table
    let st := if st = 3 ∧ gone = true then 6 else st
    let err := if st = 6 ∧ err = 0 ∧ gone = true then 6 else err
    let d := { d with hld := { d.hld with cached := d.hld.cached.erase u.table } }
    let d := (d.tableTkts u.table).foldl (fun d x => d.updTkt x.1 (fun r => { r with tableOwned := false })) d
    let d := (d.setRun s none).tblState u.table st err
    d.sets [(TID_RUN_STATUS_ACTIVE s, 0), (TID_RUN_STATUS_HELD s, 0)]

/-- The operations that wait for a run ended by its FAILED table complete with its error code. -/
def Dev.failOps (d : Dev) (u : Run) (err : Nat) : Dev :=
  let d := match u.startOp.bind d.op with
    | some o => d.finish o (0x40 + err) 0 err
    | none => d
  (u.stopOps.filterMap d.op).foldl (fun d o => d.finish o (0x40 + err) 0 err) d

/-- A table that was stopped is READY: every TID_STOP of it completes (R219). -/
def Dev.stopDone (d : Dev) (u : Run) : Dev := (u.stopOps.filterMap d.op).foldl (fun d o => d.finish o 0 d.now 0) d

/-- A circuit of a step is in place already: same source, sink and route (R124). -/
def Circ.isTkt (c : Circ) (k : Ticket) : Bool := k.src == c.src && k.dst == c.dst && k.valid && k.route == c.route

/-- The steps of a table committed and not executed, earliest first; the release that ends its run too (R128). -/
def Dev.stepsAhead (d : Dev) (n : Nat) : List Xing :=
  (d.allXings.filter (fun x => x.stage == .committed && (match x.kind with | .step m _ => m == n | .stopBreak m => m == n | _ => false))).mergeSort
    (fun a b => decide (a.instant ≤ b.instant))

/-- The makes of a table's steps that are held back (R116): their tickets stay ROUTED until the part executes. -/
def Dev.heldMakes (d : Dev) (n : Nat) : List Nat :=
  (d.allXings.filter (fun x => x.stage == .flipped && (match x.kind with | .step m _ => m == n | _ => false))).flatMap (·.makes)

/-- A circuit of a crossing's step carries on under ticket k: the same in all, or, withdrawn from the step, of the same ports. -/
def Circ.keeps (c : Circ) (x : Xing) (k : Ticket) : Bool :=
  c.isTkt k || (x.gone.contains (c.src, c.dst) && k.src == c.src && k.dst == c.dst)

/-- The record of a step's circuit (R125). -/
def Run.ticket (u : Run) (t : Table) (c : Circ) : Ticket :=
  { tkt0 with
    src := c.src, dst := c.dst, tenant := t.owner, cls := t.cls, prio := t.prio, state := 2, tableOwned := true, table := u.table,
    epoch := u.epoch, mid := c.route.mid, ing := c.route.ing, midc := c.route.midc, egr := c.route.egr, valid := true }

/-- The tickets of the next committed step: those in place, or held back, that do not continue are broken (CLOSING, where in place),
withdrawn makes of the step before that do not continue are FREE; the new circuits take reserved IDs, ROUTED; those withdrawn from the
step join the restoration list (R113, R124, R125). -/
def Dev.stepTkts (d : Dev) (s : Nat) (x : Xing) (st : TStep) : Dev :=
  match d.run s with
  | none => d
  | some u =>
    match d.table u.table with
    | none => d
    | some t =>
      let own := d.tableTkts u.table
      let late := d.heldMakes u.table
      let stays := fun (k : Ticket) => st.circs.any (fun c => c.keeps x k)
      let cur := own.filter (fun y => y.2.state == 3 || y.2.state == 4 || late.contains y.1)
      let brk := (cur.filter (fun y => !stays y.2)).map (·.1)
      let lost := own.filter (fun y => y.2.state == 2 && !late.contains y.1)
      let new := st.circs.filter (fun c => !(cur ++ lost).any (fun y => c.keeps x y.2))
      let d := (lost.filter (fun y => !stays y.2)).foldl (fun d y => d.freeTkt y.1 0) d
      let d := brk.foldl (fun d i => d.updTkt i (fun r => { r with
        state := if r.state = 2 then 2 else 6, was := r.state, brk := stampOf x.instant, committed := true })) d
      let r := new.foldl (fun (a : Dev × List Nat × List Nat) c =>
        match (u.ids.find? (fun i => (a.1.tkt i).state == 0)) with
        | none => a
        | some i =>
          let gone := x.gone.contains (c.src, c.dst)
          let d := a.1.updTkt i (fun old => { (u.ticket t c) with
            committed := !gone, make := stampOf x.instant, version := old.version, settled := a.1.now })
          if gone then (d, a.2.1, a.2.2 ++ [i]) else (d, a.2.1 ++ [i], a.2.2)) (d, [], [])
      let d := r.1.setXing x.id (some { x with makes := r.2.1, breaks := brk, withdrawn := x.withdrawn ++ r.2.2 })
      d.relist r.2.2

/-- The step and cycle after a run's next one. -/
def Run.after (u : Run) (steps : Nat) : Nat × Nat :=
  if u.nextStep + 1 < steps then (u.nextStep + 1, u.nextCyc) else (0, u.nextCyc + 1)

/-- The instant of step k of cycle c on the grid (R124), from the instant the first step of the run was given. -/
def Run.instant (u : Run) (t : Table) (k c : Nat) : Nat := u.start + (c * t.cycle + t.upTo k) - t.upTo u.first

/-- The last step that may be committed has been: a finite count is over, or a stop is due (R128). -/
def Run.past (u : Run) : Bool :=
  (u.cycles != 0 && decide (u.cycles ≤ u.nextCyc))
    || u.stopAt.any (fun p => decide (p.1 < u.nextCyc ∨ (p.1 = u.nextCyc ∧ p.2 ≤ u.nextStep)))

/-- The step and cycle that follow step k of cycle c. -/
def Table.next (t : Table) (c k : Nat) : Nat × Nat := if k + 1 < t.steps.length then (c, k + 1) else (c + 1, 0)

/-- The cycle and step that a run stopped now ends before (R128): the end of the present cycle or the next end of a named step, the
first that lies at least 8.000 us ahead. (Log entry 85 DESIGN CHOICE.) -/
def Run.stopPos (u : Run) (t : Table) (now : Nat) (named : Option Nat) : Nat × Nat :=
  let k := named.getD (t.steps.length - 1)
  let c := if k < u.first then 1 else 0
  let p := t.next c k
  if u.start = 0 then p else
  let e := u.instant t p.2 p.1
  let more := if now + 8000 ≤ e then 0 else (now + 8000 - e + t.cycle - 1) / t.cycle
  (p.1 + more, p.2)

/-- The parts of a step, from the states its cells will hold at its instant: the compiled codes with the present trims (R107, R120). (Log entry 41 DESIGN CHOICE.) -/
def Dev.stepParts (d : Dev) (codes : List (Nat × Bool × Int)) (st : TStep) (t : Nat) : List Part :=
  let hs := st.cells.filter (fun h => d.planned h.1 t != h.2)
  let bs := (hs.map (fun h => cellBlk h.1)).eraseDups.mergeSort (fun a b => decide (a ≤ b))
  let val := fun (h : Nat × Bool) =>
    match codes.find? (fun c => c.1 == h.1 && c.2.1 == h.2) with
    | some c => let l := d.loop h.1; clampI codeMin codeMax (c.2.2 + (if l.mode = 4 then 0 else l.trim h.2))
    | none => d.berthVal h.1 h.2
  bs.map fun b =>
    { blk := b, cells := (hs.filter (fun h => cellBlk h.1 == b)).map (fun h => (h.1, h.2, val h)),
      ready := true, held := false, done := false }

/-- TID_RUN_NEXT shows the next step instant: that of the earliest committed step, else of the next one (R138). -/
def Dev.markNext (d : Dev) (s : Nat) : Dev :=
  match d.run s with
  | none => d
  | some u =>
    match (d.stepsAhead u.table).head?, d.table u.table with
    | some x, _ => d.set (TID_RUN_NEXT s) (stampOf x.instant)
    | none, some t => if u.start = 0 then d else d.set (TID_RUN_NEXT s) (stampOf (u.instant t u.nextStep u.nextCyc))
    | none, none => d

/-- The next committed step of a run takes its tickets, where it has none yet. -/
def Dev.headTkts (d : Dev) (s n : Nat) : Dev :=
  match (d.stepsAhead n).head?, d.table n with
  | some y, some t =>
    if !y.makes.isEmpty || !y.breaks.isEmpty then d else
    (match y.kind with
      | .step _ j => (match t.steps[j]? with | some st => d.stepTkts s y st | none => d)
      | _ => d.stepTkts s y { dwell := 0, circs := [], codes := [] })
  | _, _ => d

/-- A step of a table has executed (R124-R126): the slot shows it, its tenant's toll is charged for the cells flipped, the start
completes at its first step, and the next committed step takes its tickets. held: it was held back in part. -/
def Dev.stepDone (d : Dev) (n k : Nat) (x : Xing) (flips : Nat) (held : Bool) : Dev :=
  match d.slotOf n with
  | none => d
  | some s =>
    let d := d.settleCycle s
    match d.run s, d.table n with
    | some u, some t =>
      let d := (d.set (TID_RUN_STATUS_STEP s) k).charge t.owner (flips : Int)
      let d := match u.startOp.bind d.op with
        | some o => (d.finish o 0 x.instant 0)
        | none => d
      let last := t.steps.length ≤ k + 1
      let d := d.setRun s (some { u with startOp := none, cycEnd := if last then some (x.instant + ((t.steps[k]?).elim 0 (·.dwell))) else none })
      let d := if held then (d.inc (TID_RUN_MISSED s)).tblEvent n t.owner 0x10 else d
      (d.markNext s).headTkts s n
    | _, _ => d

/-- A run at its stop point, its circuits kept (R128): they are ordinary tickets, the table is READY. -/
def Dev.stopRun (d : Dev) (s : Nat) : Dev :=
  match d.run s with
  | none => d
  | some u => (d.endRun s 3 0).stopDone u

/-- A HELD table stopped at once (R129): steps committed ahead are withdrawn; KEEP leaves the circuits in place; BREAK releases them in
a crossing of Q1 that waits like any other, after which the table is READY. (Log entry 85 DESIGN CHOICE.) -/
def Dev.stopHeld (d : Dev) (s : Nat) : Dev :=
  match d.run s with
  | none => d
  | some u =>
    let d := (d.stepsAhead u.table).foldl (fun d x => d.dropXing x) d
    if u.keep then d.stopRun s else
    let tks := ((d.tableTkts u.table).filter (fun x => x.2.state == 3 || x.2.state == 4)).map (·.1)
    let d := tks.foldl (fun d i => d.updTkt i (fun r => { r with state := 6, was := r.state, brk := 0 })) d
    let n := d.cmd.nextX
    let d := d.addXing { xing0 .release with breaks := tks }
    let d := d.setReady 1 (d.ready 1 ++ [.xing n])
    let d := d.endRun s 3 0
    d.stopDone u

end Sys2Proof.Machine
end

