-- ==== Sys2Proof/Machine/Admit.lean ====
section
/-! DEFINITION. System crossings (R131-R135), and the admission of an operation by its opcode (R219, R224). -/

namespace Sys2Proof.Machine

/-! ## Admission by opcode (R219) -/

/-- The admission check of R109 (step 6): a stamp less than 8.000 us ahead with ASAP 0; of a part, less than the vote
gap (R132); of a proposal, less than XNG_SYS_LEAD (R131). -/
def Dev.lateAtAdmission (d : Dev) (e : Entry) : Bool :=
  let t := d.inst e.stamp
  match e.opcode with
  | 1 | 5 => !e.asap && decide (t < d.now + 8000)
  | 8 => decide (t < d.now + d.get XNG_VOTE_GAP * 1000)
  | 9 => decide (t < d.now + d.get XNG_SYS_LEAD * 1000)
  | _ => false

/-- A CROSSING or SYS_PART admitted (R224). -/
def Dev.admitItems (d : Dev) (o : Op) : Dev :=
  let r := d.admitCrossing o
  let d := r.1
  let o := r.2
  if d.lateAtAdmission o.entry then
    let d := d.letGo o
    let d := match o.kind with
      | .sys id => (match d.sysX id with | some s => if s.proposed && !s.voted then (d.sendVote id false 0x10).tally id else d | none => d)
      | _ => d
    d.refuseOp o 0x10 0
  else
    let d := ((d.inc CMD_CNT_ADMITTED).setOp o.tag (some o)).notifyAdmit o
    let d := match o.kind with
      | .sys id => d.setSysX id (some { (d.sysX id).getD (sys0 id) with part := some o.tag })
      | _ => d
    let q := queueOf o.ring
    d.setReady q (d.ready q ++ [.op o.tag])

/-- TKT_PRIO admitted: the ticket's priority changes, the operation is done (R219). -/
def Dev.admitPrio (d : Dev) (o : Op) : Dev :=
  let d := (d.charge (if o.ring = 64 then 0 else o.fn) o.cost).inc CMD_CNT_ADMITTED
  let d := d.updTkt (bits o.entry.arg 0 14) (fun r => { r with prio := bits o.entry.arg 16 3 })
  (d.notifyAdmit o).finish o 0 0 0

/-- TID_LOAD admitted: the table goes LOADING for its source to be read (R120). -/
def Dev.admitLoad (d : Dev) (o : Op) : Dev :=
  let n := o.tableNo
  let d := (d.inc CMD_CNT_ADMITTED).setOp o.tag (some { o with admitted := true, selected := true })
  let d := (d.notifyAdmit o).tblState n 1 0
  d.setTable n (some { owner := o.fn, cls := 0, prio := 0, inSet := [], outSet := [], steps := [], loadOp := some o.tag,
                       src := [], extents := [] })

/-- TID_START admitted: the checks of R123, then the run. A start step at or beyond STEPS is refused with FORMAT, after those checks. (Log entry 86 DESIGN CHOICE.) -/
def Dev.admitStart (d : Dev) (o : Op) : Dev :=
  let n := o.tableNo
  match d.table n with
  | none => d.refuseOp o 0x3A 0
  | some t =>
    let r := d.startErr t
    if r.1 ≠ 0 then d.refuseOp o (0x40 + r.1) r.1
    else if t.steps.length ≤ bits o.entry.arg 16 16 then d.refuseOp o 0x31 0
    else if d.lateAtAdmission o.entry then d.refuseOp o 0x10 0
    else
      let o := { o with admitted := true, selected := true }
      (((d.inc CMD_CNT_ADMITTED).setOp o.tag (some o)).notifyAdmit o).startRun o n t r.2

/-- A running table asked to stop (R128): it ends at the earlier of the place asked for and one asked for before; steps committed beyond
it are withdrawn. (Log entry 85 DESIGN CHOICE.) -/
def Dev.scheduleStop (d : Dev) (s tag : Nat) (u : Run) (t : Table) (named : Option Nat) : Dev :=
  let p := u.stopPos t d.now named
  let p := match u.stopAt with
    | some q => if q.1 < p.1 ∨ (q.1 = p.1 ∧ q.2 ≤ p.2) then q else p
    | none => p
  let beyond := fun (c k : Nat) => decide (p.1 < c ∨ (p.1 = c ∧ p.2 ≤ k))
  let d := if u.start = 0 then d else
    ((d.stepsAhead u.table).filter (fun x => decide (u.instant t p.2 p.1 ≤ x.instant))).reverse.foldl (fun d x => d.dropXing x) d
  let nx := if u.start ≠ 0 ∧ beyond u.nextCyc u.nextStep = true then p else (u.nextCyc, u.nextStep)
  (d.setRun s (some { u with stopAt := some p, stopOps := u.stopOps ++ [tag], nextCyc := nx.1, nextStep := nx.2 })).markNext s

/-- TID_STOP admitted: a RUNNING table's end is scheduled, a HELD one ends at once (R128, R129). A named step at or beyond STEPS is
refused with FORMAT. (Log entry 86 DESIGN CHOICE.) -/
def Dev.admitStop (d : Dev) (o : Op) : Dev :=
  match d.slotOf o.tableNo with
  | none => d.refuseOp o 0x3A 0
  | some s =>
    match d.run s, d.table o.tableNo with
    | some u, some t =>
      let named := if bit o.entry.arg 10 then some (bits o.entry.arg 16 16) else none
      if named.any (fun k => decide (t.steps.length ≤ k)) then d.refuseOp o 0x31 0 else
      let o := { o with admitted := true, selected := true }
      let d := ((d.inc CMD_CNT_ADMITTED).setOp o.tag (some o)).notifyAdmit o
      if u.held then (d.setRun s (some { u with stopOps := u.stopOps ++ [o.tag] })).stopHeld s
      else d.scheduleStop s o.tag u t named
    | _, _ => d.refuseOp o 0x3A 0

/-- TID_UNLOAD admitted: the table EMPTY, its hold space free (R128). -/
def Dev.admitUnload (d : Dev) (o : Op) : Dev :=
  let n := o.tableNo
  let ext := match d.table n with | some t => t.extents.length | none => 0
  let d := ((d.inc CMD_CNT_ADMITTED).notifyAdmit o).setTable n none
  let d := ((d.tblState n 0 0).set (TID_TBL_STATUS_STEPS n) 0).set HLD_TABLE_FREE (d.get HLD_TABLE_FREE + ext)
  d.finish o 0 0 0

/-- SYS_PROPOSE admitted: the proposal goes to every participant (R131). -/
def Dev.admitPropose (d : Dev) (o : Op) : Dev :=
  let id := o.entry.arg
  if d.lateAtAdmission o.entry then d.refuseOp o 0x10 0 else
  let ms := (entryItems o.entry).map (fun w => bits w 0 12)
  let t := d.inst o.entry.stamp
  let o := { o with admitted := true, selected := true }
  let d := ((d.inc CMD_CNT_ADMITTED).setOp o.tag (some o)).notifyAdmit o
  let s := (d.sysX id).getD (sys0 id)
  let d := d.setSysX id (some { s with coord := true, instant := t, members := ms, proposed := ms.contains d.moduleId,
                                       propOp := some o.tag })
  let dl := stampOf (t - d.get XNG_VOTE_GAP * 1000)
  let d := (ms.filter (fun m => m != d.moduleId)).foldl (fun d m => d.sendFrame 0x01 m
    [id % 2 ^ 32, id / 2 ^ 32, stampOf t % 2 ^ 32, stampOf t / 2 ^ 32, dl % 2 ^ 32, dl / 2 ^ 32]) d
  d.considerVote id

/-- NOP admitted and done. -/
def Dev.admitNop (d : Dev) (o : Op) : Dev :=
  ((d.inc CMD_CNT_ADMITTED).notifyAdmit o).finish o 0 0 0

/-- The item list of an operation read once, at its admission (R216, R218, R224, R366): coherently where its ring's SQ_COH is
set. A read that cannot go through fails, and gives no item. -/
def Dev.readList (d : Dev) (o : Op) : Dev × Op :=
  let e := o.entry
  let got := fun (ok : Bool) => { o with entry := { e with listOk := e.listOk && ok, words := if e.listOk && ok then e.words else [] } }
  if !o.hasList then (d, o)
  else if d.on (RING_CFG_SQ_COH o.ring) then
    let r := d.cohRead o.fn e.list (4 * e.items)
    (r.1, got r.2)
  else (d.emit (.hostRead o.fn e.list (4 * e.items)), got true)

/-- The head of a queue admitted under R224, its place's toll settled: refused with the first check it fails, or admitted by its
opcode. -/
def Dev.admitHere (d : Dev) (tag : Nat) : Dev :=
  match d.op tag with
  | none => d
  | some o =>
    if o.admitted then d else
    let q := queueOf o.ring
    let d := d.takeHead q (.op tag)
    let r := d.readList o
    let d := r.1
    let o := r.2
    let st := d.checks o
    if st ≠ 0 then
      let d := d.refuseOp o st 0
      if o.entry.opcode = 8 then
        match d.sysX o.entry.arg with
        | some s => if s.proposed && !s.voted then (d.sendVote o.entry.arg false st).tally o.entry.arg else d
        | none => d
      else d
    else match o.entry.opcode with
      | 1 => d.admitItems o
      | 3 => d.admitPrio o
      | 4 => d.admitLoad o
      | 5 => d.admitStart o
      | 6 => d.admitStop o
      | 7 => d.admitUnload o
      | 8 => d.admitItems o
      | 9 => d.admitPropose o
      | _ => d.admitNop o

/-- An operation of one opcode stands at the head of its queue and can be admitted: it passes its fence, its toll
gate and the limit of 16 (R217, R227, R230). -/
def Dev.admissible (d : Dev) (tag opcode : Nat) : Bool :=
  match d.op tag with
  | none => false
  | some o =>
    let q := queueOf o.ring
    o.entry.opcode == opcode && !o.admitted && (d.heads q).head? == some (.op tag) && !d.fenced o
      && (decide (q < 4) || d.canAdmit (q - 4))

/-- Toll changes take effect at a decision: credit at DEPTH, or at 0 under TOLL_ON_CHANGE, deficit 0, settlements owed
dropped (R232). -/
def Dev.applyTolls (d : Dev) : Dev :=
  let l := d.cmd.tollChg
  let d := l.foldl (fun d p =>
    let d := if p = 0 then d else d.setCredit p (if d.tollOnChange then 0 else (d.get (TOL_DEPTH p) * 256 : Nat))
    let d := d.set (TOL_DEFICIT p) 0
    d.allOps.foldl (fun d o => if o.fn == p && o.ring != 0 && o.owed then d.setOp o.tag (some { o with owed := false }) else d) d) d
  { d with cmd := { d.cmd with tollChg := [] } }

/-- The device as a decision on queue q finds it: the toll of its place settled, toll changes in effect (R230, R232). -/
def Dev.atDecision (d : Dev) (q : Nat) : Dev := (d.settleToll (q - 4)).applyTolls

/-- The row of an opcode: the operation admitted where it can be. -/
def Dev.admitRow (d : Dev) (tag opcode : Nat) : Dev :=
  let q := match d.op tag with | some o => queueOf o.ring | none => 0
  let d := d.atDecision q
  if d.acting && d.admissible tag opcode then d.admitHere tag else d

end Sys2Proof.Machine
end

