-- ==== Sys2Proof/Machine/QueueRows.lean ====
section
/-! DEFINITION. The commands of rings, queues and tolls, and the pipeline of a crossing (R94, R98, R107-R112, R215-R234, R363, R366). -/

namespace Sys2Proof.Machine

/-! ## Rings (R215, R222, R223, R363, R366, R369) -/

/-- A requester may write ring group g: its own function, PF0 and matrix masters groups 0 and 64 (R215). -/
def mayRing (r : Requester) (g : Nat) : Bool :=
  match r with
  | .fn f => f.val == g || (f.val == 0 && g == 64)
  | .master _ => g == 0 || g == 64

/-- A doorbell: the tail recorded and the first new entry asked for, or SQ_ERR for a tail outside the ring or a
coherent ring on a plain PCIe link (R356). -/
def Dev.rowDoorbell (d : Dev) (r : Requester) (g tail : Nat) : Dev :=
  if !mayRing r g then d
  else if ringSize (d.get (RING_CFG_SQ_SIZE g)) ≤ tail % 65536 then d.sqError g
  else if d.on (RING_CFG_SQ_COH g) && d.on HST_STATUS_PCIE_ONLY then (d.set (SQ_TAIL g) tail).setB (RING_STATUS_SQ_ERR g) true
  else (d.set (SQ_TAIL g) tail).askEntry g

/-- An operation as its entry's fetch makes it; now: it is handled at once, as a CANCEL is. -/
def newOp (tag ring : Nat) (e : Entry) (now : Bool) : Op :=
  { tag, ring, fn := ringFn ring, entry := e, admitted := now, selected := now, makes := [], breaks := [], prov := 0, owed := false,
    xing := none, noted := false }

/-- It is later than 2.000 us before the instant of an operation that is not committed: its stamp, which ASAP would put off (R111). -/
def Dev.tooLate (d : Dev) (o : Op) : Bool := !o.entry.asap && decide (d.inst o.entry.stamp < d.now + 2000)

/-- A CANCEL, handled when fetched (R111, R223): a CROSSING of the same function, at any stage up to 2.000 us before
its instant, is withdrawn. One with a reserved bit set is refused. (Log entry 86 DESIGN CHOICE.) -/
def Dev.cancel (d : Dev) (g tag : Nat) (e : Entry) : Dev :=
  let me := newOp tag g e true
  let target := bits e.arg 0 14
  let refuse := d.refuseOp me 0x39 0
  match d.op target with
  | none => refuse
  | some o =>
    if o.entry.opcode ≠ 1 ∨ o.fn ≠ ringFn g ∨ e.resv = true then refuse else
    match o.xing.bind d.xing with
    | some x =>
      if x.stage == .flipped || (if x.stage = .committed then decide (x.instant < d.now + 2000) else d.tooLate o) then refuse
      else
        let d := { d with cmd := { d.cmd with solving := if d.cmd.solving = some (Work.xing x.id) then none else d.cmd.solving } }
        (d.endXing x 0x11).finish me 0 0 0
    | none =>
      if o.selected || d.tooLate o then refuse
      else if o.admitted then
        let q := queueOf o.ring
        let d := (d.setReady q ((d.ready q).erase (.op target))).letGo o
        (d.finish o 0x11 0 0).finish me 0 0 0
      else
        ((d.takeHead (queueOf o.ring) (.op target)).finish o 0x11 0 0).finish me 0 0 0

/-- A submission entry asked for returns (none: its read failed): tagged and queued in ring order; one whose ring has been disabled
meanwhile is dropped, to be read again. (Log entry 83 DESIGN CHOICE.) -/
def Dev.rowEntryFetch (d : Dev) (g : Nat) (e : Option RawEntry) : Dev :=
  if d.reads g = 0 then d else
  let d := d.setReads g 0
  if d.still || !d.on (RING_CFG_SQ_EN g) || d.get (SQ_HEAD g) == d.get (SQ_TAIL g) then d else
  match e with
  | none => d.sqError g
  | some e =>
    match d.freeTag with
    | none => d
    | some tag =>
      let e := readEntry e
      let d := d.settleToll (queueOf g - 4)
      let d := d.set (SQ_HEAD g) ((d.get (SQ_HEAD g) + 1) % ringSize (d.get (RING_CFG_SQ_SIZE g)))
      let d := if e.opcode = 2 then d.cancel g tag e else
        let q := queueOf g
        let d := d.setOp tag (some (newOp tag g e false))
        d.setHeads q (d.heads q ++ [.op tag])
      ((d.inletPut false).quotaMark g).askEntry g

/-- The CANCEL row: such an entry returns. -/
def Dev.rowCancel (d : Dev) (g : Nat) (e : RawEntry) : Dev :=
  if (readEntry e).opcode = 2 then d.rowEntryFetch g (some e) else d

/-- A write of CQ_HEAD frees places: held completions follow, fetching resumes (R222). -/
def Dev.rowCqHead (d : Dev) (r : Requester) (g ix : Nat) : Dev :=
  if !mayRing r g || g == 64 then d
  else if ringSize (d.get (RING_CFG_CQ_SIZE g)) ≤ ix % 65536 then d.badEncoding
  else
    (((d.set (CQ_HEAD g) ix).resumeCq g).quotaMark g).askAll

/-- A write of EQ_HEAD frees places: EVENTS_LOST first (R222). -/
def Dev.rowEqHead (d : Dev) (r : Requester) (g ix : Nat) : Dev :=
  if !mayRing r g || g == 64 then d
  else if ringSize (d.get (RING_CFG_EQ_SIZE g)) ≤ ix % 65536 then d.badEncoding
  else (d.set (EQ_HEAD g) ix).resumeEq g

/-- The message owed for a CQ or an EQ, 1.000 us after the one before (R363). -/
def Dev.rowMsix (d : Dev) (g : Nat) (eq : Bool) : Dev :=
  let r := d.ring g
  if eq then
    if r.eqOwed then
      let d := d.atLeast (r.eqMsg.getD 0 + 1000)
      (d.setRing g { r with eqOwed := false, eqMsg := some d.now }).msix g (d.get (RING_VEC_EQ_VEC g))
    else d
  else if r.cqOwed then
    let d := d.atLeast (r.cqMsg.getD 0 + 1000)
    (d.setRing g { r with cqOwed := false, cqMsg := some d.now }).msix g (d.get (RING_VEC_CQ_VEC g))
  else d

/-! ## Tolls (R232) -/

/-- A write of a toll or weight of place p: it acts at the next decision. In place 0 only WEIGHT exists. -/
def Dev.rowToll (d : Dev) (p : Nat) (which : TollReg) (v : Nat) : Dev :=
  let d := d.settleToll p
  let put := fun (d : Dev) (f : Fld) => { (d.set f v) with cmd := { (d.set f v).cmd with tollChg := d.cmd.tollChg ++ [p] } }
  match which with
  | .rate => if p = 0 then d else put d (TOL_RATE p)
  | .depth => if p = 0 then d else if v % 65536 = 0 then d.badEncoding else put d (TOL_DEPTH p)
  | .debt => if p = 0 then d else put d (TOL_DEBT p)
  | .weight => put d (TOL_WEIGHT p)

/-! ## FLR (R234, R371) -/

/-- One ring group after an FLR: entries not admitted discarded with their tags, its registers cleared, completions
and events discarded until it is enabled again. -/
def Dev.flrRing (d : Dev) (g : Nat) : Dev :=
  let q := queueOf g
  let d := d.settleToll (q - 4)
  let d := (d.heads q).foldl (fun d w => match w with | .op t => d.setOp t none | _ => d) d
  let d := d.setHeads q ((d.heads q).filter (fun w => match w with | .op _ => false | _ => true))
  let d := (d.clearRange (0x32000 + g * 0x40) (0x32040 + g * 0x40)).setReads g 0
  if g = 64 then d else d.setRing g { ring0 with muted := true }

/-- The FLR of a function; of PF0 it takes every VF with it. -/
def Dev.flrFn (d : Dev) (f : Nat) : Dev :=
  if f = 0 then (List.range 65).foldl (fun d g => d.flrRing g) d else d.flrRing f

/-! ## The scheduler's decision (R227-R229, R232) -/

/-- The heads of Q1 admitted in order, until one waits behind its fence. -/
def Dev.admitQ1 (d : Dev) : Nat → Dev
  | 0 => d
  | n + 1 =>
    match (d.heads 1).head? with
    | some (.op t) =>
      (match d.op t with
        | some o => if d.fenced o then d else (d.admitHere t).admitQ1 n
        | none => d)
    | _ => d

/-- The first of the listed queues with admitted work, that work selected; a proposal is voted on where it can be. -/
def Dev.selectFrom (d : Dev) : List Nat → Option Dev
  | [] => none
  | q :: l =>
    match (d.ready q).head? with
    | some (.proposal id) => some ((d.setReady q ((d.ready q).erase (.proposal id))).considerVote id)
    | some w => if d.solverFree w then some (d.select q w) else none
    | none => d.selectFrom l

/-- Place f served: its head admitted, else its oldest admitted operation selected where it can be and the deficit covers it (R227). -/
def Dev.servePlace (d : Dev) (f : Nat) : Dev :=
  if d.canAdmit f then
    match (d.heads (4 + f)).head? with
    | some (.op t) => d.admitHere t
    | _ => d
  else match (d.ready (4 + f)).head? with
    | some w =>
      if d.covers f && d.canSelect f then
        let c := match d.opOf w with | some o => o.cost | none => 0
        let d := { d with cmd := { d.cmd with between := d.running } }
        (d.set (TOL_DEFICIT f) (d.get (TOL_DEFICIT f) - c)).select (4 + f) w
      else d
    | none => d

/-- The weighted group: the present place while it can be served, else the next one, visited (R228). -/
def Dev.weighted (d : Dev) : Dev :=
  let t := d.cmd.turn
  if d.canAdmit t || (d.covers t && d.canSelect t) then d.servePlace t
  else match d.nextPlace with
    | some p => (d.visit p).servePlace p
    | none => d

/-- One decision. -/
def Dev.rowDecision (d : Dev) : Dev :=
  if d.still || !d.acting then d else
  let d := d.settleTolls.applyTolls
  let d := d.admitQ1 ((d.heads 1).length)
  let strict := if d.running then [0, 1] else [0, 1, 2, 3]
  if d.on TIM_CTL_SUSPEND then d.weighted else
  if strict.any (fun q => !(d.ready q).isEmpty) then (d.selectFrom strict).getD d
  else d.weighted

/-! ## Solve, compute, ready (R94, R107, R108, R231) -/

/-- A make's ticket placed: ROUTED on its route (R90). -/
def Dev.placeTkt (d : Dev) (t : Nat) (r : Route) : Dev := (d.setRoute t r).updTkt t (fun k => { k with state := 2 })

/-- The solver ends a solve: the crossing's next make is placed, with the moves and breaks it needs, or the crossing
is refused. A lamp circuit is placed at tiers 0 and 1 only (R195). -/
def Dev.rowSolve (d : Dev) : Dev :=
  if !d.acting then d else
  match d.cmd.solving with
  | some (.xing n) =>
    match d.xing n with
    | none => { d with cmd := { d.cmd with solving := none } }
    | some x =>
      match x.unsolved with
      | [] => { d with cmd := { d.cmd with solving := none } }.startCompute x
      | t :: rest =>
        let k := d.tkt t
        let res := match x.kind with
          | .lamp _ => (match d.solveStill k.cls k.ends (d.planAt x) (t :: x.breaks ++ x.room) [] with
              | some r => Solved.route r [] []
              | none => Solved.refused 0x20)
          | _ => d.solveFor k.cls k.ends (d.planAt x) (t :: x.breaks ++ x.room)
        match res with
        | .route r mv rm =>
          let d := d.placeTkt t r
          let x := { x with unsolved := rest, moves := x.moves ++ mv, room := x.room ++ rm }
          let d := d.setXing n (some x)
          if rest.isEmpty then { d with cmd := { d.cmd with solving := none } }.startCompute x else d
        | .refused s => { (d.endXing x s) with cmd := { (d.endXing x s).cmd with solving := none } }
  | _ => d

/-- Stage 4 ends: the toll is settled against the actual cost, isolated reaches refused; a
crossing that switches no cell has no block to wait for. (Log entry 20 DESIGN CHOICE.) -/
def Dev.rowCompute (d : Dev) (n : Nat) : Dev :=
  match d.xing n with
  | none => d
  | some x =>
    if x.stage != .compute || !d.acting then d else
    let x := { x with stage := .distribute }
    let d := d.setXing n (some x)
    let d := match x.kind with
      | .op tag =>
        (match d.op tag with
          | some o =>
            let d := d.setOp tag (some { o with owed := false })
            if o.owed then d.charge (if o.ring = 64 then 0 else o.fn) ((max x.flips (x.makes.length + o.breakIds.length) : Nat) - (o.prov : Int)) else d
          | none => d)
      | _ => d
    if d.needsIsolated x then d.endXing x 0x14
    else if x.parts.isEmpty then d.tryCommit x
    else d

/-- The DAC update bus of its reach has served the loads of part p of crossing x (R25): its drivers have their clock, no reload is
owed before them but of their own cells (R108), and no load of an earlier crossing that has room waits. (Log entry 87 DESIGN CHOICE.) -/
def Dev.busServed (d : Dev) (x : Xing) (p : Part) : Bool :=
  let n := blkReach p.blk
  !d.clockLost p.blk
    && (p.cells.all (fun c => (d.blk p.blk).reload.contains c.1) || (List.range 8).all (fun j => (d.blk (8 * n + j)).reload.isEmpty))
    && d.allXings.all (fun y => y.id == x.id || y.stage != .distribute || decide (d.planAt x ≤ d.planAt y)
      || y.parts.all (fun q => blkReach q.blk != n || q.ready || decide (64 ≤ d.partsIn q.blk)))

/-- A block reports ready: its sequencer has room and its loads are written; with the last one the crossing commits
(R108, R109). -/
def Dev.rowBlockReady (d : Dev) (n b : Nat) : Dev :=
  match d.xing n with
  | none => d
  | some x =>
    match x.parts.find? (fun p => p.blk == b && !p.ready) with
    | none => d
    | some p =>
      if x.stage != .distribute || decide (64 ≤ d.partsIn b) || !d.busServed x p then d else
      if d.needsIsolated x then d.endXing x 0x14 else
      let x := { x with parts := x.parts.map (fun q => if q.blk = b then { q with ready := true } else q) }
      let d := (d.setXing n (some x)).loadParts [p]
      if x.parts.all (fun q => q.ready) && d.acting then d.tryCommit x else d

/-! ## Restoration (R97-R102) -/

/-- The open restore crossing closed: it passes stages 4 to 6 like any other, to be committed at the earliest achievable instant (R98,
R107). (Log entry 18 DEDUCED.) -/
def Dev.commitOpen (d : Dev) : Dev :=
  let g := d.tk.gather
  if g.isEmpty && d.tk.gBreaks.isEmpty then d else
  let x : Xing := { xing0 .restore with
    makes := (g.filter (fun m => (d.tkt m.1).state == 2)).map (·.1),
    restores := g.filter (fun m => (d.tkt m.1).state != 2),
    moves := d.tk.gMoves, breaks := d.tk.gBreaks, room := d.tk.gRoom }
  let n := d.cmd.nextX
  let d := { d with tk := { d.tk with gather := [], gMoves := [], gBreaks := [], gRoom := [] } }
  (d.addXing x).startCompute { x with id := n }

/-- The end of a run: blocks that wait may park, HELD tables are recompiled as Q2 work (R127, R242). -/
def Dev.runEnd (d : Dev) : Dev :=
  let d := d.setB CMD_STATUS_RESTORE_RUN d.running
  if d.running then d else
  let ns := (List.range 4).filterMap (fun s => match d.run s with
    | some u => if u.active && u.held && !u.noResume then some u.table else none
    | none => none)
  let d := ns.foldl (fun d n => if (d.ready 2).contains (.recompile n) then d else d.setReady 2 (d.ready 2 ++ [.recompile n])) d
  d.parkClear

/-- The open crossing is due (R98): it holds 32 tickets, or the list is at its end, or the next ticket's class differs
from this one's, or the next ticket is ROUTED. -/
def Dev.openDue (d : Dev) (cls : Nat) : Bool :=
  decide (32 ≤ d.tk.gather.length + d.tk.gMoves.length + d.tk.gBreaks.length) ||
    match d.tk.list with
    | [] => true
    | t :: _ => (d.tkt t).cls != cls || (d.tkt t).state == 2

/-- The instant a ticket on the list is solved for: a ROUTED one's make instant, else the earliest there can be. -/
def Dev.restoreAt (d : Dev) (t : Nat) : Nat :=
  if (d.tkt t).state ≠ 2 then d.now + 8000 else
  match d.allXings.find? (fun x => x.makes.contains t) with
  | some x => d.planAt x
  | none => max (d.inst (d.tkt t).make) (d.now + 8000)

/-- A ROUTED ticket re-solved: its route written. A make not committed keeps its place in the pipeline, its parts following the new
route; one that had been withdrawn re-enters stage 4 with its stamp and ASAP 1; the moves it needs go with it (R98). (Log entry 18 DEDUCED.) -/
def Dev.rerouteRouted (d : Dev) (t : Nat) (r : Route) (mv : List (Nat × Route)) (rm : List Nat) : Dev :=
  let d := (d.setRoute t r).updTkt t (fun k => { k with restoring := false })
  match d.allXings.find? (fun x => x.makes.contains t) with
  | some x =>
    let y := { x with moves := x.moves ++ mv, room := x.room ++ rm }
    let d := (d.repart y).loadParts x.parts
    (match d.xing x.id with
      | some z => if z.stage == .distribute && z.parts.all (fun p => p.ready) then d.tryCommit z else d
      | none => d)
  | none =>
    let x := { xing0 .remake with stamp := d.inst (d.tkt t).make, makes := [t], moves := mv, room := rm }
    (d.addXing x).startCompute { x with id := d.cmd.nextX }

/-- Work goes before the next restoration solve (R229): of Q0 or Q1, or one operation of the weighted group that needs no solve. -/
def Dev.workBefore (d : Dev) : Bool :=
  !d.on TIM_CTL_SUSPEND && (!(d.ready 0).isEmpty || !(d.ready 1).isEmpty
    || (List.range 64).any d.canSelect)

/-- One restoration solve ends. -/
def Dev.rowRestore (d : Dev) : Dev :=
  if d.cmd.solving.isSome || d.still || !d.acting || d.workBefore then d else
  let d := { d with cmd := { d.cmd with between := false } }
  match d.tk.list with
  | [] => (d.commitOpen).runEnd
  | t :: rest =>
    let k := d.tkt t
    let d := { d with tk := { d.tk with list := rest } }
    let d :=
      if (k.state = 3 ∨ k.state = 4) ∧ d.stuck k = true then (d.updTkt t (fun r => { r with restoring := false })).awaitRestore t false
      else match d.solveFor k.cls k.ends (d.restoreAt t) [t] with
      | .route r mv rm =>
        if k.state = 2 then d.rerouteRouted t r mv rm
        else
          let d := if k.state = 5 then d.placeTkt t r else d
          { d with tk := { d.tk with gather := d.tk.gather ++ [(t, r)], gMoves := d.tk.gMoves ++ mv, gRoom := d.tk.gRoom ++ rm } }
      | .refused _ =>
        if k.state = 5 then (d.updTkt t (fun r => { r with restoring := false })).tktEvent t 1 1 0
        else
          let d := d.strandTkt t 1
          if k.state = 3 ∨ k.state = 4 then { d with tk := { d.tk with gBreaks := d.tk.gBreaks ++ [t] } } else d
    let d := if d.openDue k.cls then d.commitOpen else d
    d.runEnd

/-- A unit is lost (R97): a failed driver, a middle block out of service, a reach without its clock. -/
def Dev.rowUnitLost (d : Dev) (u : LostUnit) : Dev :=
  match u with
  | .cell i => ((d.setCell i.val { d.cell i.val with failed := true }).loseUnits [i.val] []).raise 3 1 i.val 0 []
  | .middle m => d.leaveService (32 + m.val)
  | .clock n => d.rowClockLoss n.val

/-- A cell has been in open water for 10 s: its tickets set LONG_OPEN, it is a lost unit (R72, R92, R97). -/
def Dev.rowLongOpen (d : Dev) (i : Nat) : Dev :=
  let l := d.loop i
  if l.mode ≠ 4 then d else
  let d := d.atLeast (l.openAt + 10000000000)
  (d.setCell i { d.cell i with longOpen := true }).loseUnits [i] []

/-! ## The commands -/

/-- DOORBELL (R366): A write to SQ_TAIL records the new tail and starts fetching new entries, or sets SQ_ERR if out of
range. -/
def execDoorbell (r : Requester) (g : Fin 65) (tail : Nat) (s : State) : Ans := s.own r (0x32020 + g.val * 0x40) (fun d => d.rowDoorbell r g.val tail)

/-- ENTRY_FETCH (R366): A submission entry read returns; the entry is tagged and queued, or SQ_ERR set on a failed
read. -/
def execEntryFetch (g : Fin 65) (entry : Option RawEntry) (s : State) : Ans := s.upd (fun d => d.rowEntryFetch g.val entry)

/-- CANCEL (R111): A CANCEL operation withdraws the named CROSSING from every stage if at least 2 us before its
instant, or is refused. -/
def execCancel (g : Fin 65) (entry : RawEntry) (s : State) : Ans := s.upd (fun d => d.rowCancel g.val entry)

/-- CQ_HEAD_WRITE (R222): A write to CQ_HEAD frees completion places; held completions are written and fetching
resumes. -/
def execCqHeadWrite (r : Requester) (g : Fin 65) (index : Nat) (s : State) : Ans := s.own r (0x32028 + g.val * 0x40) (fun d => d.rowCqHead r g.val index)

/-- EQ_HEAD_WRITE (R222): A write to EQ_HEAD frees event places; an EVENTS_LOST entry is written first. -/
def execEqHeadWrite (r : Requester) (g : Fin 65) (index : Nat) (s : State) : Ans := s.own r (0x3202C + g.val * 0x40) (fun d => d.rowEqHead r g.val index)

/-- MSIX_MESSAGE (R363): A coalesced MSI-X message for a CQ or EQ is sent 1 us after the previous one. -/
def execMsixMessage (g : Fin 64) (eq : Bool) (s : State) : Ans := s.upd (fun d => d.rowMsix g.val eq)

/-- TOLL_CHANGE (R232): A write to a place's toll or weight takes effect at the next decision, resetting credit and
deficit. -/
def execTollChange (r : Requester) (p : Fin 64) (which : TollReg) (v : Nat) (s : State) : Ans := s.own r (0x34000 + p.val * 0x20 + tollOffset which) (fun d => d.rowToll p.val which v)

/-- SCHEDULER_DECISION (R227): the command scheduler admits one queue head or selects one admitted operation for
solving. -/
def execSchedulerDecision (s : State) : Ans := s.upd (fun d => d.rowDecision)

/-- SOLVE (R94): the serial route solver ends a solve for a ticket with a route, moves, or a refusal code. -/
def execSolve (s : State) : Ans := s.upd (fun d => d.rowSolve)

/-- COMPUTE_DONE (R231): stage 4 ends: berth values are computed and the toll is settled against the actual cost. -/
def execComputeDone (x : Nat) (s : State) : Ans := s.upd (fun d => d.rowCompute x)

/-- BLOCK_READY (R108): A block reports ready for a crossing part; when the last block reports, the crossing is
committed or refused LATE. -/
def execBlockReady (x : Nat) (b : Fin 96) (s : State) : Ans := s.upd (fun d => d.rowBlockReady x b.val)

/-- UNIT_LOST (R97): A unit is lost; the device forms a restoration list and withdraws committed makes through it. -/
def execUnitLost (unit : LostUnit) (s : State) : Ans := s.upd (fun d => d.rowUnitLost unit)

/-- RESTORE_SOLVE (R98): one restoration solve of the list ends; the ticket is rerouted or stranded and restore
crossings are committed in batches. -/
def execRestoreSolve (s : State) : Ans := s.upd (fun d => d.rowRestore)

/-- LONG_OPEN (R92): A cell has been in open water for 10 s; its tickets set LONG_OPEN and the cell becomes a lost
unit. -/
def execLongOpen (k : Fin 13824) (s : State) : Ans := s.upd (fun d => d.rowLongOpen k.val)

/-- CROSSING (R219): A CROSSING operation of makes and breaks is admitted, its tickets created and its toll charged.
-/
def execCrossing (tag : Nat) (s : State) : Ans := s.upd (fun d => d.admitRow tag 1)

/-- TKT_PRIO (R219): A TKT_PRIO operation changes the priority of a ticket. -/
def execTktPrio (tag : Nat) (s : State) : Ans := s.upd (fun d => d.admitRow tag 3)

/-- NOP (R219): A NOP operation is admitted and completes. -/
def execNop (tag : Nat) (s : State) : Ans := s.upd (fun d => d.admitRow tag 10)

end Sys2Proof.Machine
end

