-- ==== Sys2Proof/Machine/Time.lean ====
section
/-! DEFINITION. Module time: the servo, holdover, jumps, suspension, replicas, PPS and the sources of offset samples (R139-R154). -/

namespace Sys2Proof.Machine

/-! ## The servo (R143-R148) -/

/-- The increment from the adjustment and the thermal term: nominal x (1 - adj x 10^-9) + thermal, to the nearest
2^-32 ns (R144). (Log entry 38 DEDUCED.) -/
def Dev.putIncr (d : Dev) : Dev :=
  d.set TIM_INCR (4294967296 - nearest (d.tim.adj * 65536) 1000000000 + d.tim.thermal).toNat

/-- A value held within TIM_ADJ_MAX either way, in 2^-16 ppb. -/
def Dev.clampAdj (d : Dev) (x : Int) : Int :=
  let m : Int := (d.get TIM_ADJ_MAX * 65536000 : Nat)
  clampI (-m) m x

/-- HOLDOVER entered: the increment stays, PF0 is told (R146, R147). Not from UNSET. -/
def Dev.enterHoldover (d : Dev) : Dev :=
  if d.get TIM_STATUS_STATE = 0 ∨ d.get TIM_STATUS_STATE = 3 then d else
  let d := { (d.set TIM_STATUS_STATE 3) with tim := { (d.set TIM_STATUS_STATE 3).tim with within := 0, beyond := 0 } }
  (d.eventPf0 0x30 1).raise 91 0 0 0 []

/-- The source changes (R146): MASTER_CHANGED set, the integrator and samples of the old source discarded, the
adjustment kept. While UNSET the new source is only selected. -/
def Dev.sourceChange (d : Dev) : Dev :=
  let d := { d with tim := { d.tim with samples := [], known := false } }
  if d.get TIM_STATUS_STATE = 0 then d else
  let d := d.setB TIM_STATUS_MASTER_CHANGED true
  ({ d with tim := { d.tim with integ := 0 } }).enterHoldover

/-- An offset sample yielded, for the servo to process (R143). -/
def Dev.yieldSample (d : Dev) (θ : Int) : Dev :=
  { d with tim := { d.tim with samples := d.tim.samples ++ [θ], lastAny := d.tick } }

/-- A sample refused: JUMP_REFUSED, its counter and its class. -/
def Dev.refuseSample (d : Dev) : Dev :=
  ((d.setB TIM_STATUS_JUMP_REFUSED true).inc TIM_CNT_REFUSED).raise 90 0 0 0 []

/-- An instant of module time a step of δ ns later. -/
def shiftNs (δ : Int) (t : Nat) : Nat := ((t : Int) + δ).toNat

/-- Every listed value of a table changed by one function. -/
def mapTab {α : Type} (t : Tab α) (g : α → α) : Tab α := ⟨t.cells.map (fun (c : Nat × α) => (c.1, g c.2))⟩

/-- What measures time elapsed follows a step of module time: the step is no passing of time; the capstans' cycles realign at the next
whole microsecond (R149, R151). -/
def Dev.rebase (d : Dev) (δ : Int) : Dev :=
  let f := shiftNs δ
  { d with
    cmd := { d.cmd with
      tollAt := ⟨((List.range 64).map (fun p => (p, d.now / 1000))).filter (fun (c : Nat × Nat) => c.2 != 0)⟩
      rings := mapTab d.cmd.rings (fun r => { r with cqMsg := r.cqMsg.map f, eqMsg := r.eqMsg.map f }) }
    tk := { d.tk with store := mapTab d.tk.store (fun k => { k with settled := d.now }) }
    cap := { d.cap with
      gridAt := wholeUs d.now
      loops := mapTab d.cap.loops (fun l =>
        { l with switched := l.switched.map f, openAt := if l.opened then f l.openAt else l.openAt, lastAt := none })
      groups := mapTab d.cap.groups (fun g => { g with rampAt := g.rampAt.map f, lastAt := none }) }
    cal := { d.cal with dump := d.cal.dump.map (fun x => { x with at_ := f x.at_ }) }
    fab := { d.fab with
      readAt := mapTab d.fab.readAt (fun o => o.map f)
      blks := mapTab d.fab.blks (fun b =>
        { b with parking := b.parking.map f, reloadAt := if b.reload.isEmpty then b.reloadAt else f b.reloadAt })
      inPrt := mapTab d.fab.inPrt (fun p => { p with overSince := p.overSince.map f }) } }

/-- Module time stepped by x units of 2^-32 ns at one tick, in the counter and every replica (R149). -/
def Dev.stepTime (d : Dev) (x : Int) : Dev :=
  let d := d.settleTolls
  let d := { d with tk := { d.tk with store := mapTab d.tk.store (fun k => k.settle d.now) } }
  let old := d.now
  let d := { d with mt := ((d.mt : Int) + x).toNat }
  d.rebase ((d.now : Int) - old)

/-- Lock tracking of an accepted sample (R145). (Log entry 38 DEDUCED.) -/
def Dev.trackLock (d : Dev) (θ : Int) : Dev :=
  let near := decide (θ.natAbs ≤ d.get TIM_LOCK_THRESH * 65536)
  let st := d.get TIM_STATUS_STATE
  let d := if st = 3 then (d.set TIM_STATUS_STATE 1).eventPf0 0x30 0 else d
  let w := if near then d.tim.within + 1 else 0
  let b := if near then 0 else d.tim.beyond + 1
  let st := d.get TIM_STATUS_STATE
  if st = 1 ∧ 16 ≤ w then { (d.set TIM_STATUS_STATE 2) with tim := { d.tim with within := w, beyond := 0 } }
  else if st = 2 ∧ 4 ≤ b then { (d.set TIM_STATUS_STATE 1) with tim := { d.tim with within := 0, beyond := b } }
  else { d with tim := { d.tim with within := w, beyond := b } }

/-- A sample accepted: the integrator, the adjustment and the increment move (R144). θ in 2^-16 ns, τ in ticks. (Log entry 38 DEDUCED.) -/
def Dev.acceptSample (d : Dev) (θ : Int) : Dev :=
  let τ := d.tick - d.tim.lastOk
  let ki := sgn 32 (d.get TIM_KI)
  let kp := sgn 32 (d.get TIM_KP)
  let integ := d.clampAdj (d.tim.integ + nearest (ki * θ * (τ : Int)) 65536000000000)
  let adj := d.clampAdj (nearest (kp * θ) 65536 + integ)
  let d := { (d.set TIM_STATUS_REFUSED_RUN 0) with
             tim := { d.tim with integ, adj, lastOk := d.tick } }
  d.putIncr.trackLock θ

/-- One sample processed (R144, R148, R149). -/
def Dev.processSample (d : Dev) (θ : Int) : Dev :=
  let d := d.set TIM_OFFSET (uns 32 (clampI (-2147483648) 2147483647 (nearest θ 65536)))
  if d.get TIM_STATUS_STATE = 0 then
    if (d.mt : Int) < θ * 65536 then d.refuseSample
    else
      let d := (d.stepTime (-(θ * 65536))).set TIM_STATUS_STATE 1
      { d with tim := { d.tim with integ := 0, lastOk := d.tick } }
  else if d.get TIM_JUMP_MAX * 65536 < θ.natAbs then
    let d := d.refuseSample
    let d := d.set TIM_STATUS_REFUSED_RUN (min 8 (d.get TIM_STATUS_REFUSED_RUN + 1))
    if d.get TIM_STATUS_REFUSED_RUN = 8 then d.enterHoldover else d
  else d.acceptSample θ

/-- OFFSET_SAMPLE: the oldest sample yielded and not processed, while the servo is enabled. -/
def Dev.rowSample (d : Dev) : Dev :=
  match d.tim.samples with
  | [] => d
  | θ :: l =>
    let d := { d with tim := { d.tim with samples := l } }
    if d.on TIM_CTL_SERVO_EN then d.processSample θ else d

/-- No sample for TIM_LOSS_TIMEOUT. -/
def Dev.rowLossTimeout (d : Dev) : Dev :=
  let st := d.get TIM_STATUS_STATE
  if st = 1 ∨ st = 2 then (d.atTick (d.tim.lastAny + d.get TIM_LOSS_TIMEOUT * 1000000)).enterHoldover else d

/-- A write of TIM_CTL.SRC and FERRY_PORT. -/
def Dev.rowSource (d : Dev) (src port : Nat) : Dev :=
  if d.get TIM_CTL_SRC = src % 4 ∧ d.get TIM_CTL_FERRY_PORT = port % 8 then d
  else ((d.set TIM_CTL_SRC src).set TIM_CTL_FERRY_PORT port).sourceChange

/-- A PPS_IN edge: captured; under SRC 3 its sample is the phase of the captured time, in whole ns, to the nearest whole second. -/
def Dev.rowPpsIn (d : Dev) : Dev :=
  let d := d.set TIM_CAP_PPS (stampOf d.now)
  if d.get TIM_CTL_SRC ≠ 3 then d else
  let s : Int := 1000000000
  let x : Int := (d.now : Int) + sgn 16 (d.get TIM_PPS_DELAY)
  let m := x % s
  d.yieldSample ((if 2 * m < s then m else if s < 2 * m then m - s else if Config.tieUp x then m - s else m) * 65536)

/-- A PTP message of a transport (UDP/IPv4 or IEEE 802.3) and a domain is one the ordinary clock takes: SRC 2, its domain, the
transport that PTP_UDP selects, for UDP/IPv4 with an address set (R152, R375). -/
def Dev.ptpTakes (d : Dev) (udp : Bool) (domain : Nat) : Bool :=
  d.get TIM_CTL_SRC == 2 && d.get TIM_CTL_PTP_DOMAIN == domain && d.mgmtOn && udp == d.on TIM_CTL_PTP_UDP
    && (!udp || d.get HST_MGMT_IPV4 != 0)

/-- A Sync with its delay measurement: from the master followed its offset is a sample, in 2^-16 ns; one that the clock does not take is dropped. -/
def Dev.rowPtpSync (d : Dev) (udp : Bool) (domain port : Nat) (θ : Int) : Dev :=
  if !d.mgmtOn then d
  else if !d.ptpTakes udp domain then d.mgmtIn.inc HST_MGMT_CNT_DROP
  else
    let d := d.mgmtIn.inc HST_MGMT_CNT_RX
    if d.tim.known && d.tim.gmPort == port then d.yieldSample θ else d

/-- An Announce of the domain: the first is followed, a different identity is a source change. -/
def Dev.rowPtpAnnounce (d : Dev) (udp : Bool) (domain gm port : Nat) : Dev :=
  if !d.mgmtOn then d
  else if !d.ptpTakes udp domain then d.mgmtIn.inc HST_MGMT_CNT_DROP else
  let d := d.mgmtIn.inc HST_MGMT_CNT_RX
  let d := if d.tim.known && (d.tim.gm != gm || d.tim.gmPort != port) then d.sourceChange else d
  { d with tim := { d.tim with gm, gmPort := port, known := true } }

/-! ## Suspension and jumps (R129, R149-R151) -/

/-- Suspension has ended: the admission check applied again to what was admitted and waits, crossings whose blocks
are ready committed (R109, R150). (Log entry 38 DEDUCED.) -/
def Dev.resume (d : Dev) : Dev :=
  let d := d.allOps.foldl (fun d o =>
    if o.admitted && !o.selected && d.lateAtAdmission o.entry then
      let q := queueOf o.ring
      ((d.setReady q ((d.ready q).erase (.op o.tag))).letGo o).refuseOp o 0x10 0
    else d) d
  d.allXings.foldl (fun d x =>
    match d.xing x.id with
    | some y => if y.stage == .distribute && y.parts.all (fun p => p.ready) then d.tryCommit y else d
    | none => d) d

/-- A write of TIM_CTL.SUSPEND; 0 is ignored while the action SUSPEND holds. -/
def Dev.rowSuspend (d : Dev) (on : Bool) : Dev :=
  if on then (d.setB TIM_CTL_SUSPEND true).holdSuspended
  else if d.tim.hold || !d.on TIM_CTL_SUSPEND then d
  else (d.setB TIM_CTL_SUSPEND false).resume

/-! ## Replicas and the reference (R152) -/

/-- The comparison of every replica with the time island: replica and its offset in 2^-32 ns. -/
def Dev.rowReplica (d : Dev) : List (Nat × Int) → Dev
  | [] => d
  | (k, x) :: l =>
    let n := x.natAbs
    if 17 ≤ k then d.rowReplica l
    else if n ≤ nsUnit then ({ d with tim := { d.tim with replica := d.tim.replica.put 0 k x } }).rowReplica l
    else
      let d := { d with tim := { d.tim with replica := d.tim.replica.put 0 k 0 } }
      let d := d.logL0 89 0 0 0 [d.statusWord 89 0 0]
      (if 2 * nsUnit < n then d.raise 88 0 0 0 [] else d).rowReplica l

/-- TCXO_IN has been missing for 10 us. -/
def Dev.rowTcxo (d : Dev) : Dev := (d.setB TIM_STATUS_TCXO_OK false).raise 88 0 0 0 []

/-- PPS_OUT: high at the next whole second while enabled, low 100 ms later (R153). -/
def Dev.rowPpsOut (d : Dev) : Dev :=
  if d.tim.ppsOut then
    let d := d.atLeast (d.now / 1000000000 * 1000000000 + 100000000)
    ({ d with tim := { d.tim with ppsOut := false } }).emit (.pin 2 false)
  else if d.on TIM_CTL_PPS_OUT_EN then
    let d := d.atLeast (ceilMul d.now 1000000000)
    ({ d with tim := { d.tim with ppsOut := true } }).emit (.pin 2 true)
  else d

/-- A read of TIM_NOW_NS or VF_TIME_NS: the snapshot of the requester taken, its nanoseconds answered (R142, R361). -/
def Dev.rowSnapshot (d : Dev) (r : Requester) : Dev :=
  let k := reqKey r
  let off := match r with | .fn f => if f.val = 0 then 0x50010 else 0x110 | .master _ => 0x50010
  let d := d.unlatch r
  ({ d with tim := { d.tim with snaps := d.tim.snaps.put 0 k d.now } }).emit (.answer k off (d.now % 1000000000))

/-! ## The commands -/

/-- TIME_SNAPSHOT (R142): A read of TIM_NOW_NS or VF_TIME_NS copies module time into the requester's snapshot. -/
def execTimeSnapshot (r : Requester) (s : State) : Ans := s.access (fun d => d.rowSnapshot r)

/-- OFFSET_SAMPLE (R144): the servo processes an offset sample: first setting, refusal, or slew of the increment and
lock tracking. -/
def execOffsetSample (s : State) : Ans := s.upd (fun d => d.rowSample)

/-- TIM_LOSS_TIMEOUT (R146): no offset sample has arrived for TIM_LOSS_TIMEOUT and the servo enters HOLDOVER. -/
def execTimLossTimeout (s : State) : Ans := s.upd (fun d => d.rowLossTimeout)

/-- TIME_SOURCE_SELECT (R146): A write of a new TIM_CTL.SRC or FERRY_PORT changes the source, with holdover unless
UNSET. -/
def execTimeSourceSelect (r : Requester) (src : Fin 4) (port : Fin 8) (s : State) : Ans := s.own r 0x50000 (fun d => d.rowSource src.val port.val)

/-- SUSPEND (R150): A write of TIM_CTL.SUSPEND suspends or resumes the commitment of crossings. -/
def execSuspend (r : Requester) (on : Bool) (s : State) : Ans := s.own r 0x50000 (fun d => d.rowSuspend on)

/-- REPLICA_CHECK (R152): each microsecond the time island compares every replica, realigns slips and raises TIM_LOSS
beyond 2 ns. -/
def execReplicaCheck (offs : List (Nat × Int)) (s : State) : Ans := s.upd (fun d => d.rowReplica offs)

/-- TCXO_LOSS (R152): TCXO_IN missing for 10 us raises TIM_LOSS. -/
def execTcxoLoss (s : State) : Ans := s.upd (fun d => d.rowTcxo)

/-- PPS_IN_EDGE (R143): A PPS_IN rising edge is captured in TIM_CAP_PPS and yields an offset sample for SRC 3. -/
def execPpsInEdge (s : State) : Ans := s.upd (fun d => d.rowPpsIn)

/-- PTP_SYNC (R143): an IEEE 1588 Sync with its delay measurement on the management port yields an offset sample. -/
def execPtpSync (udp : Bool) (domain : Nat) (port : Nat) (theta : Int) (s : State) : Ans := s.upd (fun d => d.rowPtpSync udp domain port theta)

/-- PTP_ANNOUNCE (R146): an Announce with a different grandmaster or source port is a source change. -/
def execPtpAnnounce (udp : Bool) (domain : Nat) (gm : Nat) (port : Nat) (s : State) : Ans := s.upd (fun d => d.rowPtpAnnounce udp domain gm port)

/-- PPS_OUT (R153): with PPS_OUT_EN set, PPS_OUT is driven high at each whole second of module time and low 100 ms
later. -/
def execPpsOut (s : State) : Ans := s.upd (fun d => d.rowPpsOut)

end Sys2Proof.Machine
end

