-- ==== Sys2Proof/Machine/Ferry.lean ====
section
/-! DEFINITION. The commands of ferry ports: bring-up, windows, replay, violations, time exchange, transit (R326-R347, R467). -/

namespace Sys2Proof.Machine

/-! ## Bring-up (R332, R344, R467) -/

/-- Port k may train: enabled, with a ROLE, neither lane in test. (Log entry 72 DESIGN CHOICE.) -/
def Dev.mayTrain (d : Dev) (k : Nat) : Bool :=
  d.on (FRY_PORT_CTL_ENABLE k) && d.fryRole k != 0 && !d.srdsOut
    && !([2 * k, 2 * k + 1].any (fun l => d.on (TST_FL_CTL_GEN_EN l) || d.on (TST_FL_CTL_CHK_EN l)))

/-- Training begins: no lane locked, no HELLO, no clean codeword, nothing known of the partner. -/
def Dev.train (d : Dev) (k : Nat) : Dev :=
  let d := d.sets [(FRY_PORT_STATUS_STATE k, 1), (FRY_PORT_STATUS_CAUSE k, 0), (FRY_PORT_STATUS_PEER k, 0),
    (FRY_PORT_STATUS_PEER_VALID k, 0), (FRY_LANE_STATUS_LOCK (2 * k), 0), (FRY_LANE_STATUS_LOCK (2 * k + 1), 0),
    (FRY_LANE_STATUS_ALIGNED (2 * k), 0), (FRY_LANE_STATUS_ALIGNED (2 * k + 1), 0)]
  (d.setFryP k { (d.fryP k).emptied with helloAt := none, peerRole := 0 }).markUp

/-- A DISABLED port that may train does (R344). -/
def Dev.tryTrain (d : Dev) (k : Nat) : Dev :=
  if d.get (FRY_PORT_STATUS_STATE k) = 0 ∧ d.mayTrain k = true then d.train k else d

/-- A write of ENABLE: 0 disables the port unless UNIT_OFF holds it DOWN, 1 lets it train. -/
def Dev.rowEnable (d : Dev) (k : Nat) (on : Bool) : Dev :=
  let d := d.setB (FRY_PORT_CTL_ENABLE k) on
  let d := if on then d.takeWaiting (fun key => (keySec key == 11 && keyWord key / 4 == k) || key == manKey 1 0 0) else d
  if (d.fryP k).off then d
  else if on then d.tryTrain k
  else
    let d := (d.set (FRY_PORT_STATUS_STATE k) 0).set (FRY_PORT_STATUS_CAUSE k) 0
    (d.setFryP k (d.fryP k).emptied).markUp

/-- A codeword received: its lanes are locked and aligned; a correctable one frees what its ACK covers and ends a
discard at the next frame start, an uncorrectable one is a CRC violation and starts one (R328, R339, R342). h: its header;
corr: the lanes on which symbols were corrected. (Log entry 46 DESIGN CHOICE.) -/
def Dev.rowCodeword (d : Dev) (k h : Nat) (uncorr corr0 corr1 : Bool) : Dev :=
  let start := bits h 12 7
  let ack := bits h 0 12
  let st := d.get (FRY_PORT_STATUS_STATE k)
  if st ≠ 1 ∧ st ≠ 2 then d else
  let d := [2 * k, 2 * k + 1].foldl (fun d l => (d.setB (FRY_LANE_STATUS_LOCK l) true).setB (FRY_LANE_STATUS_ALIGNED l) true) d
  if uncorr then
    let d := (d.inc (FRY_LANE_FEC_UNCORR (2 * k))).inc (FRY_LANE_FEC_UNCORR (2 * k + 1))
    let d := d.setFryP k { d.fryP k with clean := 0, discard := true }
    if st = 2 then d.violation k 1 (d.fryP k).rx true else d
  else
    let d := if corr0 then d.inc (FRY_LANE_FEC_CORR (2 * k)) else d
    let d := if corr1 then d.inc (FRY_LANE_FEC_CORR (2 * k + 1)) else d
    let p := d.fryP k
    let p := { p with clean := p.clean + 1, discard := p.discard && decide (80 ≤ start) }
    if st = 1 then d.setFryP k p
    else if p.retry.any (fun f => f.lseq == ack % 4096) then
      let gone := p.retry.takeWhile (fun f => f.lseq != ack % 4096)
      let cov := fun (s : Nat) => s == ack % 4096 || gone.any (fun f => f.lseq == s)
      let rest := p.retry.filter (fun f => !cov f.lseq)
      let keep := fun (l : List QFrame) => l.filter (fun q => !(q.again && cov q.frame.lseq))
      let p := { p with retry := rest, ackTick := d.tick, tc0 := keep p.tc0, tc1 := keep p.tc1, tc2 := keep p.tc2,
                        tc3 := keep p.tc3, rptCnt := if cov p.rptSeq then 0 else p.rptCnt }
      (d.setFryP k p).pump k p.tc3.length
    else d.setFryP k p

/-- A HELLO sent: every 1 ms while training, the lanes aligned, until one is received, every 100 ms while UP. -/
def Dev.rowHelloSend (d : Dev) (k : Nat) : Dev :=
  let st := d.get (FRY_PORT_STATUS_STATE k)
  let p := d.fryP k
  if st = 2 ∨ (st = 1 ∧ p.hello = false ∧ d.on (FRY_LANE_STATUS_ALIGNED (2 * k)) = true ∧ d.on (FRY_LANE_STATUS_ALIGNED (2 * k + 1)) = true) then
    let d := match p.helloAt with
      | some t => d.atTick (t + if st = 1 then 1000000 else 100000000)
      | none => d
    let d := d.setFryP k { d.fryP k with helloAt := some d.tick }
    d.enqueue k (d.frame 0x70 false 0 [d.moduleId + d.fryRole k * 4096 + b2n (d.safetyA k) * 32768 + d.timeRole * 65536])
  else d

/-- A HELLO received: the partner's ID and ROLE; the own ID takes the port DOWN with LOOP. -/
def Dev.rowHello (d : Dev) (k : Nat) (f : Frame) : Dev :=
  let st := d.get (FRY_PORT_STATUS_STATE k)
  if f.typ ≠ 0x70 ∨ (st ≠ 1 ∧ st ≠ 2) then d
  else if f.crcOk = false ∨ f.length ≠ 64 ∨ f.cls ≠ 3 then (if st = 2 then d.receive k f id else d)
  else
    let w := f.words.getD 0 0
    let d := d.sets [(FRY_PORT_STATUS_PEER k, w % 4096), (FRY_PORT_STATUS_PEER_VALID k, 1)]
    if w % 4096 = d.moduleId then d.portDown k 4 (16 + k)
    else d.setFryP k { d.fryP k with hello := true, peerRole := bits w 12 3 }

/-- A trained port with a HELLO and 1,024 clean codewords is UP: link sequences from 0, retry buffer empty. skew0 and
skew1: each lane's delay behind the other, in 0.1 ns, 20 ns at most. (Log entry 46 DESIGN CHOICE.) -/
def Dev.rowPortUp (d : Dev) (k skew0 skew1 : Nat) : Dev :=
  let p := d.fryP k
  if d.get (FRY_PORT_STATUS_STATE k) ≠ 1 ∨ p.hello = false ∨ p.clean < 1024 ∨ 200 < skew0 ∨ 200 < skew1 then d else
  let d := d.sets [(FRY_PORT_STATUS_STATE k, 2), (FRY_LANE_STATUS_SKEW (2 * k), skew0), (FRY_LANE_STATUS_SKEW (2 * k + 1), skew1)]
  (d.setFryP k { p with tx := 0, rx := 0, retry := [], rptSeq := 0, rptCnt := 0, viol := 0, ackTick := d.tick }).markUp

/-! ## Windows, replay, violations (R336-R343) -/

/-- A sailing window of n whole codewords, at the next multiple of PERIOD: at most LEN x 7 / 170 of them. -/
def Dev.rowWindow (d : Dev) (k n : Nat) : Dev :=
  if d.get (FRY_PORT_STATUS_STATE k) ≠ 2 then d else
  let d := d.atLeastIn [16] (ceilMul d.now (d.get (FRY_PORT_WIN_PERIOD k)))
  let b := 640 * min n (d.get (FRY_PORT_WIN_LEN k) * 7 / 170)
  let p := d.fryP k
  let d := d.fill k b (p.tc0.length + p.tc1.length + p.tc2.length)
  let d := d.setFryP k (d.fryP k).age
  d.pump k (d.fryP k).tc3.length

/-- A replay from LSEQ s: a ninth in a row without its acknowledgement takes the port DOWN. -/
def Dev.startReplay (d : Dev) (k s : Nat) : Dev :=
  let p := d.fryP k
  if p.rptSeq = s ∧ 8 ≤ p.rptCnt then d.portDown k 3 (16 + k)
  else
    let d := (d.setFryP k { p.replay s with ackTick := d.tick }).inc (FRY_PORT_CNT_REPLAY k)
    d.pump k (d.fryP k).tc3.length

/-- A NAK received; with REPLAY it starts a replay from the LSEQ it names, or restarts one in progress from an earlier
one. -/
def Dev.nak (d : Dev) (k : Nat) (f : Frame) : Dev :=
  let w := f.words.getD 0 0
  let d := d.inc (FRY_PORT_CNT_NAKRX k)
  let p := d.fryP k
  let s := w % 4096
  let place := fun (s : Nat) => (p.retry.map (fun f => f.lseq)).idxOf s
  if bit w 20 = false ∨ p.retry.any (fun f => f.lseq == s) = false then d
  else if p.replaying && decide (place p.rptSeq ≤ place s) then d
  else d.startReplay k s

/-- ACK has not advanced for 100 us while frames are held. -/
def Dev.rowReplayTimeout (d : Dev) (k : Nat) : Dev :=
  match (d.fryP k).retry with
  | [] => d
  | f :: _ =>
    if d.get (FRY_PORT_STATUS_STATE k) ≠ 2 then d
    else (d.atTick ((d.fryP k).ackTick + 100000)).startReplay k f.lseq

/-- The end of a second of ticks: the count shown, the port DOWN where it exceeds VIOL_THRESH. -/
def Dev.rowViolSecond (d : Dev) (k : Nat) : Dev :=
  let d := d.atTick (ceilMul d.tick 1000000000)
  let v := (d.fryP k).viol
  let d := (d.set (FRY_PORT_VIOL_RATE k) (min v 65535)).setFryP k { d.fryP k with viol := 0 }
  if d.violThresh k ≠ 0 ∧ d.violThresh k < v ∧ d.get (FRY_PORT_STATUS_STATE k) = 2 then d.portDown k 2 (16 + k) else d

/-- Lock or alignment lost on a lane for 1 ms: an UP port goes DOWN. -/
def Dev.rowLockLoss (d : Dev) (l : Nat) : Dev :=
  let k := l / 2
  let d := (d.setB (FRY_LANE_STATUS_LOCK l) false).setB (FRY_LANE_STATUS_ALIGNED l) false
  if d.get (FRY_PORT_STATUS_STATE k) = 2 then d.portDown k 1 l else d

/-- A port DOWN with LOCK trains again after 100 ms. -/
def Dev.rowRetrain (d : Dev) (k : Nat) : Dev :=
  if d.get (FRY_PORT_STATUS_STATE k) ≠ 3 ∨ d.get (FRY_PORT_STATUS_CAUSE k) ≠ 1 then d
  else (d.atTick ((d.fryP k).downAt + 100000000)).train k

/-! ## Time exchange (R345-R347) -/

/-- Port k serves time, takes time: its ROLE and the partner's are 2 and 3, as TIME_ROLE lets them. -/
def Dev.serves (d : Dev) (k : Nat) : Bool :=
  d.fryRole k == 2 && (d.fryP k).peerRole == 3 && (d.timeRole == 1 || d.timeRole == 2)
def Dev.takes (d : Dev) (k : Nat) : Bool :=
  d.fryRole k == 3 && (d.fryP k).peerRole == 2 && d.timeRole != 1

/-- An exchange started by a serving port every TIME_INT x 125 us: SYNC; a relay serves while LOCKED. -/
def Dev.rowExchange (d : Dev) (k : Nat) : Dev :=
  if d.get (FRY_PORT_STATUS_STATE k) ≠ 2 ∨ d.serves k = false ∨ (d.timeRole = 2 ∧ d.get TIM_STATUS_STATE ≠ 2) then d else
  let d := match (d.fryP k).exchAt with
    | some t => d.atLeast (t + d.get FRY_CTL_TIME_INT * 125000)
    | none => d
  let p := d.fryP k
  let x := (p.exch + 1) % 65536
  let d := d.setFryP k { p with exch := x, exchAt := some d.now, serving := true }
  let master := if d.timeRole = 1 then d.moduleId else d.tim.master
  let steps := if d.timeRole = 1 then 0 else d.fry.steps + 1
  d.enqueue k (d.frame 0x10 false 0 [0, 0, x * 65536, master % 4096 + steps % 16 * 4096 + d.get TIM_STATUS_STATE * 65536])

/-- SYNC received by a taking port: T2 recorded, DELAY_REQ sent. -/
def Dev.sync (d : Dev) (k : Nat) (f : Frame) : Dev :=
  if !d.takes k then d.violation k 5 0 false else
  let w := fun j => f.words.getD j 0
  let t : Taker :=
    { exch := w 2 / 65536 % 65536, t1 := d.inst (w 0 + w 1 * 2 ^ 32) * 65536 + w 2 % 65536, t2 := d.fine, t3 := none,
      master := bits (w 3) 0 12, steps := bits (w 3) 12 4, state := bits (w 3) 16 2, tick := d.tick }
  let d := d.setFryP k { d.fryP k with taker := some t }
  d.enqueue k (d.frame 0x11 false 0 [0, 0, t.exch * 65536])

/-- DELAY_REQ received by a serving port: T4 recorded and returned. -/
def Dev.delayReq (d : Dev) (k : Nat) (f : Frame) : Dev :=
  if !d.serves k then d.violation k 5 0 false else
  let p := d.fryP k
  let x := f.words.getD 2 0 / 65536 % 65536
  if p.serving = false ∨ p.exch ≠ x then d else
  let d := d.setFryP k { p with serving := false }
  let s := stampOf d.now
  d.enqueue k (d.frame 0x12 false 0 [s % 2 ^ 32, s / 2 ^ 32, d.fine % 65536 + x * 65536])

/-- A sample of the port that the servo takes time from: only with STEPS 0 or a LOCKED server; a new master is a source
change (R347). -/
def Dev.ferrySample (d : Dev) (k : Nat) (t : Taker) (θ : Int) : Dev :=
  if d.get TIM_CTL_SRC ≠ 1 ∨ d.get TIM_CTL_FERRY_PORT ≠ k ∨ (t.steps ≠ 0 ∧ t.state ≠ 2) then d else
  let d := if d.tim.known && d.tim.master != t.master then d.sourceChange else d
  let d := { d with tim := { d.tim with master := t.master, known := true }, fry := { d.fry with steps := t.steps } }
  d.yieldSample θ

/-- DELAY_RESP received: the offset ((T2 - T1) - (T4 - T3)) / 2 - ASYM / 2 (R346). -/
def Dev.delayResp (d : Dev) (k : Nat) (f : Frame) : Dev :=
  if !d.takes k then d.violation k 5 0 false else
  let p := d.fryP k
  let w := fun j => f.words.getD j 0
  match p.taker with
  | some t =>
    match t.t3 with
    | some t3 =>
      if t.exch ≠ w 2 / 65536 % 65536 then d else
      let t4 : Int := (d.inst (w 0 + w 1 * 2 ^ 32) * 65536 + w 2 % 65536 : Nat)
      let x : Int := ((t.t2 : Int) - t.t1) - (t4 - t3)
      let θ := nearest (x * 1000 - sgn 16 (d.get (FRY_PORT_ASYM k)) * 65536) 2000
      (d.setFryP k { p with taker := none }).ferrySample k t θ
    | none => d
  | none => d

/-- An exchange without its DELAY_RESP 100 us after its SYNC is dropped. -/
def Dev.rowAbandon (d : Dev) (k : Nat) : Dev :=
  let p := d.fryP k
  match p.taker with
  | some t => (d.atTick (t.tick + 100000)).setFryP k { p with taker := none }
  | none =>
    if p.serving then (d.atLeast (p.exchAt.getD 0 + 100000)).setFryP k { p with serving := false } else d

/-! ## Transit (R331) -/

/-- A received frame for another module, or one that violates the protocol. -/
def Dev.rowForward (d : Dev) (k : Nat) (f : Frame) : Dev :=
  if (linkLocal f.typ || f.bcast || f.dst == d.moduleId) && f.crcOk && (typeRow f.typ).isSome && lengthOk f.typ f.length then d
  else d.receive k f id

/-! ## The commands -/

/-- FRAME_FORWARD (R331): A received frame not for this module is forwarded, or dropped and NAKed NO_ROUTE. -/
def execFrameForward (k : Fin 8) (f : RawFrame) (s : State) : Ans := s.upd (fun d => d.rowForward k.val (readFrame f))

/-- FERRY_PORT_ENABLE (R332): A write of FRY_PORT_CTL.ENABLE starts or stops a port's bring-up. -/
def execFerryPortEnable (r : Requester) (k : Fin 8) (on : Bool) (s : State) : Ans := s.own r (0x70100 + k.val * 0x40) (fun d => d.rowEnable k.val on)

/-- HELLO (R332): A HELLO frame from the partner is received; own ID takes the port DOWN with LOOP. -/
def execHello (k : Fin 8) (f : RawFrame) (s : State) : Ans := s.upd (fun d => d.rowHello k.val (readFrame f))

/-- HELLO_SEND (R332): A port sends a HELLO every 1 ms while training and every 100 ms while UP. -/
def execHelloSend (k : Fin 8) (s : State) : Ans := s.upd (fun d => d.rowHelloSend k.val)

/-- PORT_UP (R332): after a HELLO and 1,024 clean codewords the port becomes UP. -/
def execPortUp (k : Fin 8) (skew0 : Nat) (skew1 : Nat) (s : State) : Ans := s.upd (fun d => d.rowPortUp k.val skew0 skew1)

/-- SAILING_WINDOW (R336): A port opens a sailing window at each whole multiple of PERIOD for time-critical frames. -/
def execSailingWindow (k : Fin 8) (codewords : Nat) (s : State) : Ans := s.upd (fun d => d.rowWindow k.val codewords)

/-- NAK (R340): A NAK frame is received and replay starts from the named LSEQ when REPLAY is set. -/
def execNak (k : Fin 8) (f : RawFrame) (s : State) : Ans := s.upd (fun d => d.receiveAs 0x71 k.val (readFrame f) (fun d => d.nak k.val (readFrame f)))

/-- REPLAY_TIMEOUT (R340): ACK does not advance for 100 us and the sender replays from its oldest held frame. -/
def execReplayTimeout (k : Fin 8) (s : State) : Ans := s.upd (fun d => d.rowReplayTimeout k.val)

/-- VIOLATION_SECOND (R343): at the end of each second a port with violations above VIOL_THRESH goes DOWN. -/
def execViolationSecond (k : Fin 8) (s : State) : Ans := s.upd (fun d => d.rowViolSecond k.val)

/-- LOCK_LOSS (R343): loss of lock or alignment on a lane for 1 ms takes the port DOWN with cause LOCK. -/
def execLockLoss (lane : Fin 16) (s : State) : Ans := s.upd (fun d => d.rowLockLoss lane.val)

/-- LOCK_RETRAIN (R344): A port DOWN with cause LOCK returns to TRAINING every 100 ms. -/
def execLockRetrain (k : Fin 8) (s : State) : Ans := s.upd (fun d => d.rowRetrain k.val)

/-- EXCHANGE_START (R346): A serving port starts a time exchange every TIME_INT x 125 us by sending SYNC. -/
def execExchangeStart (k : Fin 8) (s : State) : Ans := s.upd (fun d => d.rowExchange k.val)

/-- SYNC (R346): A taking port receives SYNC, records T2 and sends DELAY_REQ. -/
def execSync (k : Fin 8) (f : RawFrame) (s : State) : Ans := s.upd (fun d => d.receiveAs 0x10 k.val (readFrame f) (fun d => d.sync k.val (readFrame f)))

/-- DELAY_REQ (R346): A serving port receives DELAY_REQ, records T4 and returns DELAY_RESP. -/
def execDelayReq (k : Fin 8) (f : RawFrame) (s : State) : Ans := s.upd (fun d => d.receiveAs 0x11 k.val (readFrame f) (fun d => d.delayReq k.val (readFrame f)))

/-- DELAY_RESP (R346): A taking port receives DELAY_RESP and computes an offset sample. -/
def execDelayResp (k : Fin 8) (f : RawFrame) (s : State) : Ans := s.upd (fun d => d.receiveAs 0x12 k.val (readFrame f) (fun d => d.delayResp k.val (readFrame f)))

/-- EXCHANGE_ABANDON (R346): an exchange whose DELAY_RESP has not arrived 100 us after SYNC is abandoned. -/
def execExchangeAbandon (k : Fin 8) (s : State) : Ans := s.upd (fun d => d.rowAbandon k.val)

/-- CODEWORD (R328): A ferry port receives a codeword: it corrects it and frees the retry-buffer frames its ACK
covers, or, when it is uncorrectable, discards the stream up to the next frame start given by START. -/
def execCodeword (k : Fin 8) (h : Nat) (uncorr : Bool) (corr0 : Bool) (corr1 : Bool) (s : State) : Ans := s.upd (fun d => d.rowCodeword k.val h uncorr corr0 corr1)

end Sys2Proof.Machine
end

