-- ==== Sys2Proof/Machine/Dark.lean ====
section
/-! DEFINITION. The dark function: slots and their causes, dark lines, the Q0 break, SAFE_OK, safety messages sent (R308-R321). -/

namespace Sys2Proof.Machine

/-! ## Dark lines and the Q0 crossing (R313-R315) -/

/-- Outputs newly held: their dark lines asserted, each VOA DARK, its confirmation awaited. -/
def Dev.assertLines (d : Dev) (l : List Nat) : Dev :=
  l.foldl (fun d o =>
    if d.darkLine o then d else
    let d := { d with ilk := { d.ilk with lines := d.ilk.lines.put false o true, unconf := d.ilk.unconf ++ [(o, d.tick)] } }
    d.darken o) d

/-- The dark lines of outputs that nothing holds any more released. -/
def Dev.releaseLines (d : Dev) : Dev :=
  if !d.manLoaded || d.ilk.wd then d else
  { d with ilk := { d.ilk with
      lines := ⟨d.ilk.lines.cells.filter (fun (c : Nat × Bool) => d.heldOut c.1)⟩
      unconf := d.ilk.unconf.filter (fun x => d.heldOut x.1)
      late := d.ilk.late.filter (fun o => d.heldOut o) } }

/-- The dark set of each slot that is not CLOSED takes in the outputs that carry a circuit of its inputs. -/
def Dev.growSets (d : Dev) : Dev :=
  (List.range 8).foldl (fun d i =>
    if d.ilkState i = 0 then d else
    let s := d.ilkSlot i
    let outs := (d.litTkts.filter (fun x => !x.2.srcLamp && !x.2.dstDrain && (d.ilkIn i x.2.src || s.keptIn.contains x.2.src))).map (fun x => x.2.dst)
    d.setIlkSlot i { s with extra := (s.extra ++ outs).eraseDups }) d

/-- A ticket names a port of a dark set. -/
def Dev.shut (d : Dev) (k : Ticket) : Bool := (!k.srcLamp && d.heldIn k.src) || (!k.dstDrain && d.heldOut k.dst)

/-- A queued safety break has the ticket already. -/
def Dev.inSafety (d : Dev) (t : Nat) : Bool :=
  d.allXings.any (fun x => match x.kind with | .safety _ => x.breaks.contains t | _ => false)

/-- Operations not yet committed that make or break a circuit on a port of a dark set are refused PORT_BUSY. (Log entry 55 DEDUCED.) -/
def Dev.refuseShut (d : Dev) : Dev :=
  d.allXings.foldl (fun d x =>
    let own := match x.kind with | .op _ | .sys _ => true | _ => false
    if own && x.stage != .committed && x.stage != .flipped && (x.makes ++ x.breaks).any (fun t => d.shut (d.tkt t)) then
      let y := (d.cmd.solving == some (.xing x.id))
      let d := if y then { d with cmd := { d.cmd with solving := none } } else d
      d.endXing x 0x22
    else d) d

/-- Running tables that list a port of a dark set go FAILED with STEP_LOST; their circuits become ordinary tickets. -/
def Dev.failShut (d : Dev) : Dev :=
  (List.range 4).foldl (fun d s =>
    match d.run s with
    | some u => (match d.table u.table with
      | some t => if t.inSet.any d.heldIn || t.outSet.any d.heldOut then ((d.endRun s 6 9).failOps u 9).tblEvent u.table t.owner 0x12 else d
      | none => d)
    | none => d) d

/-- One Q0 crossing breaks every circuit in place with an end in a dark set. (Log entries 19 DESIGN CHOICE, 55 DEDUCED.) -/
def Dev.breakShut (d : Dev) : Dev :=
  let l := (d.litTkts.filter (fun x => d.shut x.2 && !d.inSafety x.1)).map (·.1)
  if l.isEmpty then d else
  let n := d.cmd.nextX
  let d := d.addXing { xing0 (.safety 2) with breaks := l }
  d.setReady 0 (d.ready 0 ++ [.xing n])

/-- The reaction on whatever now lies in a dark set. -/
def Dev.sweepDark (d : Dev) : Dev :=
  let d := d.growSets
  let d := d.assertLines ((List.range 512).filter d.heldOut)
  d.refuseShut.failShut.breakShut

/-! ## Safety messages (R321) -/

/-- A safety message: TYPE 1 STATE, 2 ACK. -/
def safetyWords (typ src slot seq dst time : Nat) (isOpen : Bool) : List Nat :=
  let l := [0x494C4B31, typ % 256 + src % 4096 * 2 ^ 8 + slot % 8 * 2 ^ 20 + b2n isOpen * 2 ^ 24, seq % 2 ^ 32, dst % 4096, time % 2 ^ 32,
    time / 2 ^ 32 % 2 ^ 32, 0]
  l ++ [crc32c l]

/-- A message sent on network A, through a port with SAFETY_A only, or on network B. -/
def Dev.sendSafety (d : Dev) (netA : Bool) (dst : Nat) (ws : List Nat) : Dev :=
  if !netA then (if d.mgmtOn then d.emit (.mgmt 0x88B5 0xFFFFFFFFFFFF ws) else d) else
  match d.portTo dst with
  | some k => if d.safetyA k then d.enqueue k (d.frame 0x20 false dst ws) else d.inc FRY_CNT_NOROUTE
  | none => d.inc FRY_CNT_NOROUTE

/-- The STATE message of a forwarding entry sent on both networks. -/
def Dev.sendState (d : Dev) (e : Nat) : Dev :=
  if !d.on (ILK_FWD_EN e) then d else
  let f := d.fwd e
  let slot := d.get (ILK_FWD_SLOT e)
  let dst := d.get (ILK_FWD_MODULE e)
  let seq := (f.seq + 1) % 2 ^ 32
  let ws := safetyWords 1 d.moduleId slot seq dst (stampOf d.now) (d.ilkState slot != 0)
  let w := fun (o : Option Nat) => match o with | some t => some t | none => some d.tick
  ((d.setFwd e { seq, sentAt := some d.tick, waitA := w f.waitA, waitB := w f.waitB }).sendSafety true dst ws).sendSafety false dst ws

/-- The slot has left or entered CLOSED: its forwarding entries send at once. -/
def Dev.tellSlot (d : Dev) (i : Nat) : Dev :=
  (List.range 16).foldl (fun d e => if d.get (ILK_FWD_SLOT e) = i then d.sendState e else d) d

/-! ## Slots (R310, R311, R316) -/

/-- A cause of R311 holds for a slot. (Log entry 55 DEDUCED.) -/
def Dev.cause (d : Dev) (i : Nat) : Bool :=
  let here := bit (d.get ILK_LOCAL_EN) i
    && (!bit (d.get ILK_CONTACTS_A) i || !bit (d.get ILK_CONTACTS_B) i || bit (d.get ILK_DISC) i)
  here || (List.range 4).any (fun j => d.on (ILK_SRC_EN i j) && (d.src (i * 4 + j)).opened)

/-- A slot leaves CLOSED. (Log entry 55 DEDUCED.) -/
def Dev.openSlot (d : Dev) (i : Nat) : Dev :=
  let d := ((d.putIlkState i 1).set (ILK_OPENED i) (stampOf d.now)).inc (ILK_CNT_OPEN i)
  ((d.endMoor).sweepDark).tellSlot i

/-- A slot looked at again: OPEN while a cause holds, READY without one once a manifest is loaded. -/
def Dev.evalSlot (d : Dev) (i : Nat) : Dev :=
  let rem := (List.range 4).any (fun j => d.on (ILK_SRC_EN i j) && (d.src (i * 4 + j)).opened)
  let d := d.set ILK_CONTACTS_REMOTE (putBit (d.get ILK_CONTACTS_REMOTE) i rem)
  let c := d.cause i
  match d.ilkState i with
  | 0 => if c then d.openSlot i else d
  | 1 => if !c && d.manLoaded then d.putIlkState i 2 else d
  | _ => if c then d.putIlkState i 1 else d

/-- Every slot. -/
def Dev.evalSlots (d : Dev) : Dev := (List.range 8).foldl (fun d i => d.evalSlot i) d

/-- A restart of slot i: CLOSED, its dark lines released. -/
def Dev.closeSlot (d : Dev) (i : Nat) : Dev :=
  if d.ilkState i = 2 ∧ d.cause i = false then
    (((d.putIlkState i 0).setIlkSlot i { d.ilkSlot i with extra := [], keptIn := [] }).releaseLines).tellSlot i
  else d

/-- The first manifest load since a reset ends the hold of every output (R324); test darkening starts (R320). -/
def Dev.ilkLoaded (d : Dev) : Dev :=
  let idle := ((List.range 512).filter (fun o => !d.outLit o)).map (fun o => (o, true))
  let d := { d with ilk := { d.ilk with testAt := some d.tick, idle := ⟨idle⟩ } }
  d.releaseLines.sweepDark.evalSlots

/-- A commit has changed the maps: what a slot that is not CLOSED has lost stays dark until it closes, what it has
gained goes dark (R252). -/
def Dev.mapsChanged (d old : Dev) : Dev :=
  let d := (List.range 8).foldl (fun d i =>
    if d.ilkState i = 0 then d else
    let s := d.ilkSlot i
    d.setIlkSlot i { s with
      extra := (s.extra ++ (List.range 512).filter (fun o => old.ilkOut i o && !d.ilkOut i o)).eraseDups
      keptIn := (s.keptIn ++ (List.range 512).filter (fun p => old.ilkIn i p && !d.ilkIn i p)).eraseDups }) d
  d.sweepDark

/-! ## SAFE_OK (R317, R318) -/

/-- The levels of SAFE_OK_P and SAFE_OK_N: both low once the read-back has failed. (Log entry 56 DESIGN CHOICE.) -/
def Dev.safeOkPins (d : Dev) : Bool × Bool := if d.ilk.rb then (false, false) else (d.safeOk, !d.safeOk)

end Sys2Proof.Machine
end

