-- ==== Sys2Proof/Machine/Manifest.lean ====
section
/-! DEFINITION. The manifest: its fields and their classes, loads, single fields, commits, and units leaving and entering service (R236-R253). -/

namespace Sys2Proof.Machine

/-! ## The fields (R237, R238) -/

/-- The class of a manifest field; resv: reserved, never written, 0 in a manifest that is accepted. -/
inductive MClass where
  | staged | live | frozen | resv
  deriving DecidableEq, Repr

/-- One field of a body word: lowest bit, width, class, seal marking (0 none, 1 SL and TP, 2 SL), range. -/
structure MF where
  lo   : Nat
  w    : Nat
  cls  : MClass
  prot : Nat
  ok   : Nat → Bool

/-- Words of a section's body. -/
def manWords (sec : Nat) : Nat :=
  [0, 16, 96, 38784, 24, 256, 2048, 128, 256, 128, 288, 32, 8, 16].getD sec 0

/-- Every value of the field is in range. -/
def anyVal : Nat → Bool := fun _ => true

/-- The channels a plan of block b can name, beside 0xFFFF (R238). -/
def hasChan (b v : Nat) : Bool :=
  decide (v < 288) || (!isMiddle b && decide (v < 304)) || (isEgress b && decide (v < 320)) || (isIngress b && v == 320)

/-- The fields of word w of a section. -/
def manFields (sec w : Nat) : List MF :=
  match sec with
  | 1 => if w ≠ 0 then [] else
    [⟨0, 12, .frozen, 0, anyVal⟩, ⟨12, 1, .staged, 0, anyVal⟩, ⟨13, 1, .staged, 0, anyVal⟩, ⟨14, 1, .frozen, 0, anyVal⟩,
     ⟨15, 1, .live, 2, anyVal⟩, ⟨16, 5, .staged, 0, anyVal⟩]
  | 2 => [⟨0, 1, .live, 0, anyVal⟩, ⟨1, 1, .frozen, 0, anyVal⟩,
          if w % 2 = 0 then ⟨2, 1, .staged, 0, anyVal⟩ else ⟨2, 1, .resv, 0, anyVal⟩]
  | 3 =>
    if w % 404 = 0 then [⟨0, 6, .frozen, 0, fun v => decide (v ≤ 32)⟩]
    else if w % 404 < 4 then []
    else
      let ok := fun v => v == 0xFFFF || hasChan (w / 404) v
      [⟨0, 16, .frozen, 0, ok⟩, ⟨16, 16, .frozen, 0, ok⟩]
  | 4 => if w % 2 = 0 then [⟨0, 1, .frozen, 0, anyVal⟩] else [⟨0, 7, .live, 0, fun v => decide (10 ≤ v ∧ v ≤ 100)⟩]
  | 5 =>
    let ok := fun v => decide (-1000 ≤ sgn 16 v ∧ sgn 16 v ≤ 2000)
    [⟨0, 16, .staged, 0, ok⟩, ⟨16, 16, .staged, 0, ok⟩]
  | 6 => if w < 32 then [] else [⟨0, 32, .staged, 1, anyVal⟩]
  | 7 =>
    let ok := fun v => decide (v ≤ 16352)
    if w < 2 then []
    else if w % 2 = 0 then [⟨0, 1, .staged, 1, anyVal⟩, ⟨1, 1, .staged, 1, anyVal⟩, ⟨2, 3, .staged, 1, anyVal⟩]
    else [⟨0, 14, .staged, 1, ok⟩, ⟨16, 14, .staged, 1, ok⟩]
  | 8 =>
    match w % 4 with
    | 0 => if w < 4 then [] else [⟨0, 24, .live, 0, anyVal⟩]
    | 1 => if w < 4 then [] else [⟨0, 16, .live, 0, fun v => decide (1 ≤ v)⟩, ⟨16, 16, .live, 0, anyVal⟩]
    | 2 => [⟨0, 8, .live, 0, anyVal⟩]
    | _ => [⟨0, 15, .live, 0, fun v => decide (16 ≤ v ∧ v ≤ 16384)⟩]
  | 9 =>
    match classRow w with
    | none => [⟨0, 32, .resv, 0, anyVal⟩]
    | some r =>
      let p := if safetyClass w then 1 else 0
      [⟨0, 3, .staged, p, fun v => decide (r.lo ≤ v ∧ v ≤ r.hi)⟩, ⟨4, 20, .staged, p, fun v => decide (10 ≤ v ∧ v ≤ 1000000)⟩]
  | 10 =>
    if w % 36 < 32 then [⟨0, 32, .staged, 1, anyVal⟩]
    else if w % 36 = 32 then [⟨0, 8, .staged, 1, fun v => decide (1 ≤ v)⟩] else []
  | 11 =>
    match w % 4 with
    | 0 => [⟨0, 3, .frozen, 0, fun v => decide (v ≤ 3)⟩, ⟨3, 1, .frozen, 0, anyVal⟩]
    | 1 => [⟨0, 16, .frozen, 0, anyVal⟩]
    | _ => []
  | 12 => if w ≠ 0 then [] else [⟨0, 2, .frozen, 0, fun v => decide (v ≤ 2)⟩]
  | 13 =>
    if w < 6 then [⟨0, 32, .frozen, 0, anyVal⟩]
    else if w = 6 then [⟨0, 8, .frozen, 0, anyVal⟩, ⟨8, 24, .resv, 0, anyVal⟩]
    else if w = 7 then [⟨0, 10, .frozen, 0, anyVal⟩] else []
  | _ => []

/-- The field's value in a body word. -/
def MF.of (f : MF) (word : Nat) : Nat := bits word f.lo f.w

/-- A key is that of a STAGED field. -/
def stagedKey (k : Nat) : Bool := (manFields (keySec k) (keyWord k)).any (fun f => f.lo == keyLo k && f.cls == .staged)
/-- A key is that of a field of the protected set. -/
def protKey (k : Nat) : Bool := (manFields (keySec k) (keyWord k)).any (fun f => f.lo == keyLo k && f.prot == 1)

/-- A field's value in force: the tolls and quotas stand in their own registers (R249). (Log entry 29 DESIGN CHOICE.) -/
def Dev.manForce (d : Dev) (sec w lo : Nat) : Nat :=
  if sec = 8 then
    match w % 4, lo with
    | 0, _ => d.get (TOL_RATE (w / 4))
    | 1, 0 => d.get (TOL_DEPTH (w / 4))
    | 1, _ => d.get (TOL_DEBT (w / 4))
    | 2, _ => d.get (TOL_WEIGHT (w / 4))
    | _, _ => d.get (CMD_FN_QUOTA (w / 4))
  else d.manA sec w lo

/-- A field's present value (R248): its shadow value where it is STAGED, else its value in force. (Log entry 29 DESIGN CHOICE.) -/
def Dev.manPresent (d : Dev) (sec w : Nat) (f : MF) : Nat :=
  if f.cls = .staged then d.man.shadow.get 0 (manKey sec w f.lo) else d.manForce sec w f.lo

/-- MAN_FLD_DATA as it reads (R249): the selected word, of the shadow copy or, with view, in force. -/
def Dev.manWord (d : Dev) (sec w : Nat) (view : Bool) : Nat :=
  (manFields sec w).foldl (fun n f =>
    if f.cls = .resv then n
    else n + (if view then d.manForce sec w f.lo else d.manPresent sec w f) % 2 ^ f.w * 2 ^ f.lo) 0

/-! ## The rules of R246 -/

/-- A plan is accepted (R239): every channel of the block at least once, the two probes of each cell at one position on
two converters, 14 unowned slots for each place of P. (Log entry 31 DEDUCED.) -/
def planOk (b p : Nat) (slot : Nat → Nat) : Bool :=
  let l := (List.range 800).map (fun j => (slot j, j))
  let at_ := fun ch => (l.filter (fun x => x.1 == ch)).map (·.2)
  ((List.range 321).filter (hasChan b)).all (fun ch => !(at_ ch).isEmpty)
    && (List.range 144).all (fun c => (at_ (2 * c)).any (fun j => (at_ (2 * c + 1)).any (fun k =>
      j % 100 == k % 100 && j / 100 != k / 100)))
    && decide (14 * p ≤ (at_ 0xFFFF).length)

/-- No bit is set in two of the masks. -/
def disjointMasks : List Nat → Nat → Bool
  | [], _ => true
  | m :: l, acc => Nat.land acc m == 0 && disjointMasks l (Nat.lor acc m)

/-- The section whose rule a set of values breaks, if any; v gives the value of a section, word and lowest bit. (Log entries 30 DEDUCED, 32 DESIGN CHOICE.) -/
def manRules (v : Nat → Nat → Nat → Nat) : Option Nat :=
  let masks := (List.range 32).all (fun j => disjointMasks ((List.range 64).tail.map (fun f => v 6 (f * 32 + j) 0)) 0)
  let spares := (List.range 96).filter (fun b => v 2 b 1 != 0)
  let roles := (List.range 8).map (fun k => v 11 (4 * k) 0)
  let tr := v 12 0 0
  if bit (v 1 0 16) 3 = false ∨ bit (v 1 0 16) 4 = false then some 1
  else if 8 < spares.length ∨ spares.all isMiddle = false then some 2
  else if !(List.range 96).all (fun b => planOk b (v 3 (b * 404) 0) (fun j => v 3 (b * 404 + 4 + j / 2) (16 * (j % 2)))) then some 3
  else if !masks then some 6
  else if (tr = 1 ∧ roles.contains 2 = false) ∨ (tr = 0 ∧ 1 < roles.count 3) then some 12
  else none

/-! ## Units out of service (R240) -/

/-- The unit of a FROZEN field is out of service. -/
def Dev.unitOut (d : Dev) (sec w lo : Nat) : Bool :=
  match sec with
  | 1 => if lo = 14 then (List.range 64).all (fun c => d.get (DMA_STATUS_STATE c) == 0)
         else (List.range 8).all (fun k => d.get (FRY_PORT_STATUS_STATE k) == 0)
  | 2 => !d.inService w
  | 3 => !d.inService (w / 404)
  | 4 => (List.range 8).all (fun j => !d.inService (8 * (w / 2) + j))
  | 11 => !d.on (FRY_PORT_CTL_ENABLE (w / 4))
  | 12 => !d.on TIM_CTL_SERVO_EN
  | _ => !d.manLoaded

/-- The location of that unit (R304). -/
def frozenAt (sec w : Nat) : Nat × Nat :=
  match sec with
  | 2 => (3, w)
  | 3 => (3, w / 404)
  | 4 => (4, w / 2)
  | 11 => (10, 16 + w / 4)
  | _ => (0, 0)

/-! ## Service of blocks (R241-R243) -/

/-- Everything a held return waits for, but the request (R241); no block enters before the first load (R247), while its
selectors park, or while nothing moves any more. -/
def Dev.mayEnter (d : Dev) (b : Nat) : Bool :=
  d.manLoaded && d.on CAL_STATUS_TABLES_VALID && d.on CAL_STATUS_ADC_DONE && d.get THM_ROUNDS != 0
    && d.get (THM_TEMP_REPORTED b) != 0x8000 && !d.on (CAP_BLK_STATUS_FAILED b) && !d.on (MAN_BLK_CTL_SPARE_HELD b)
    && (d.blk b).parking.isNone && !d.still

/-- Block b asked back to service; RESULT says what its return waits for. -/
def Dev.askIn (d : Dev) (b : Nat) : Dev :=
  if d.inService b then d.set (MAN_BLK_CTL_RESULT b) 0 else
  (d.setB (MAN_BLK_CTL_RETURN_HELD b) true).set (MAN_BLK_CTL_RESULT b)
    (if d.on (CAP_BLK_STATUS_FAILED b) then 3 else if d.mayEnter b then 0 else 2)

/-- A tide table lists a port of block b (R242). -/
def Dev.listsBlk (d : Dev) (b : Nat) : Bool :=
  (d.tide.tables.cells.filterMap (·.2)).any (fun t =>
    if isIngress b then t.inSet.any (fun p => p / 16 == b) else t.outSet.any (fun p => p / 16 == b - 64))

/-- Block b asked out of service, a held return withdrawn; refused BUSY for an ingress or egress block in use, unless
forced (R242). -/
def Dev.askOut (d : Dev) (b : Nat) (force : Bool) : Dev :=
  let d := (d.setB (MAN_BLK_CTL_RETURN_HELD b) false).set (MAN_BLK_CTL_RESULT b) 0
  if !d.inService b then d
  else if !isMiddle b && !force && (!(d.blkTkts b).isEmpty || d.listsBlk b) then d.set (MAN_BLK_CTL_RESULT b) 1
  else d.leaveService b

/-- MAN_BLK_CTL.OUT written; with IN it is a reserved encoding (R253). -/
def Dev.rowOut (d : Dev) (b : Nat) (isIn force : Bool) : Dev := if isIn then d.badEncoding else d.askOut b force

/-- A loop as its block enters service. -/
def Loop.unlit (l : Loop) : Loop :=
  { l.enter 0 with
    freeze := false, loss := false, probeOpen := false, rValid := false, lockRun := 0, darkRun := 0, good := 0, priv := false }

/-- Block b enters service: its waiting values and those of its reach come in force, PARKED and FIXED clear, every loop
starts UNLIT, its moor ends; capacity returns (R97, R241). -/
def Dev.rowEnter (d : Dev) (b : Nat) : Dev :=
  if !d.on (MAN_BLK_CTL_RETURN_HELD b) || d.inService b || !d.mayEnter b then d else
  let d := d.takeWaiting (fun k =>
    (keySec k == 2 && keyWord k == b) || (keySec k == 3 && keyWord k / 404 == b) || (keySec k == 4 && keyWord k / 2 == blkReach b))
  let d := (d.setB (FAB_BLK_STATUS_IN_SERVICE b) true).setB (FAB_BLK_STATUS_PARKED b) false
  let d := (d.setB (MAN_BLK_CTL_RETURN_HELD b) false).set (MAN_BLK_CTL_RESULT b) 0
  let d := (d.setMoor b 3 false).takeAcc b
  let d := d.setBlk b { d.blk b with outPend := false }
  let d := (blkCells b).foldl (fun d i =>
    (d.setCell i { d.cell i with parked := false, failed := false, longOpen := false }).setLoop i (d.loop i).unlit) d
  (((d.relightAll (blkCells b)).refreshPriv b).followTemp b).capacity.refresh.gwSkip b

/-- A middle block that waits to park does so once nothing holds it. -/
def Dev.rowMidPark (d : Dev) (b : Nat) : Dev := if isMiddle b then d.parkIfClear b else d

/-- SPARE of a middle block out of service takes effect at once (R243). -/
def Dev.putSpare (d : Dev) (b v : Nat) : Dev :=
  let d := d.putForce (manKey 2 b 1) v
  if !isMiddle b then d
  else if v ≠ 0 then ((d.setB (MAN_BLK_CTL_SPARE_HELD b) true).setB (MAN_BLK_CTL_SPARE_RELEASED b) false).setB (MAN_BLK_CTL_RETURN_HELD b) false
  else if !d.on (MAN_BLK_CTL_SPARE_HELD b) then d
  else
    let d := d.setB (MAN_BLK_CTL_SPARE_HELD b) false
    if d.manInService b then d.askIn b else d

/-! ## Single fields (R10, R13, R248, R249, R264) -/

/-- A seal refusal: counted, recorded, SEAL_REFUSED raised. party: 1 for the B path. -/
def Dev.sealRefuse (d : Dev) (reason party : Nat) : Dev :=
  ((d.inc SEAL_CNT_REFUSED).sets [(SEAL_LAST_INFO_REASON, reason), (SEAL_LAST_INFO_PARTY, party),
    (SEAL_LAST_TIME, stampOf d.now)]).raise 104 0 0 reason []

/-- Ports whose staged ceiling differs from the one in force. -/
def Dev.stagedCeils (d : Dev) : List (Nat × Nat) :=
  ((List.range 512).filter (fun o => d.get (CAP_PORT_LIMIT_CEIL o) != d.get (CAP_PORT_CEIL o))).map
    (fun o => (o, d.get (CAP_PORT_LIMIT_CEIL o)))

/-- MAN_STATUS.PENDING follows the shadow copy. -/
def Dev.syncPending (d : Dev) : Dev :=
  d.setB MAN_STATUS_PENDING
    (d.man.shadow.cells != d.man.active.cells.filter (fun c => stagedKey c.1) || !d.stagedCeils.isEmpty)

/-- A LIVE field written: in force at once. (Log entry 29 DESIGN CHOICE.) -/
def Dev.putLive (d : Dev) (sec w lo v : Nat) : Dev :=
  match sec with
  | 2 =>
    let d := d.putForce (manKey 2 w lo) v
    if !d.manLoaded then d else if v ≠ 0 then d.askIn w else d.askOut w false
  | 8 =>
    match w % 4, lo with
    | 0, _ => d.rowToll (w / 4) .rate v
    | 1, 0 => d.rowToll (w / 4) .depth v
    | 1, _ => d.rowToll (w / 4) .debt v
    | 2, _ => d.rowToll (w / 4) .weight v
    | _, _ => (d.set (CMD_FN_QUOTA (w / 4)) v).quotaChanged (w / 4)
  | _ => d.putForce (manKey sec w lo) v

/-- A value that differs from the field's present one is a reserved encoding of it; SPARE is only for middle blocks. -/
def Dev.badField (d : Dev) (sec w : Nat) (f : MF) (v : Nat) : Bool :=
  f.cls != .resv && v != d.manPresent sec w f && (!f.ok v || (sec == 2 && f.lo == 1 && v != 0 && !isMiddle w))

/-- One field of a word written, or refused; a value it already has is no write. load: by a manifest load, whose
refusals set PART_APPLIED. (Log entry 32 DESIGN CHOICE.) -/
def Dev.writeField (d : Dev) (sec w : Nat) (f : MF) (v : Nat) (load : Bool) : Dev :=
  let part := fun (d : Dev) => if load then d.setB MAN_STATUS_PART_APPLIED true else d
  if f.cls = .resv ∨ v = d.manPresent sec w f then d
  else if d.badField sec w f v then d
  else if f.prot = 1 ∧ d.on SEAL_STATUS_CLOSED = true then part (d.sealRefuse 1 0)
  else if f.prot = 2 ∧ d.on SEAL_STATUS_CLOSED = true then part (d.sealRefuse 2 0)
  else
    let k := manKey sec w f.lo
    match f.cls with
    | .staged => { d with man := { d.man with shadow := d.man.shadow.put 0 k v } }
    | .live => d.putLive sec w f.lo v
    | _ =>
      if !d.unitOut sec w f.lo then
        let l := frozenAt sec w
        part ((((d.inc MAN_FROZEN_CNT).set MAN_FROZEN_LAST_SECTION sec).set MAN_FROZEN_LAST_INDEX w).raise 71 l.1 l.2 0 [])
      else if sec = 2 then d.putSpare w v
      else { d with man := { d.man with waiting := d.man.waiting.put 0 k (v + 1) } }

/-- Every field of a word written; a reserved encoding among them is logged once for the write (R12). -/
def Dev.writeWord (d : Dev) (sec w v : Nat) (load : Bool) : Dev :=
  let e := (manFields sec w).foldl (fun d f => d.writeField sec w f (f.of v) load) d
  if (manFields sec w).any (fun f => d.badField sec w f (f.of v)) then e.badEncoding else e

/-- The words of a body written from word w on. -/
def Dev.writeWords (d : Dev) (sec : Nat) : Nat → List Nat → Dev
  | _, [] => d
  | w, v :: l => (d.writeWord sec w v true).writeWords sec (w + 1) l

/-- MAN_FLD_DATA written: the selected word. -/
def Dev.rowField (d : Dev) (v : Nat) : Dev :=
  (d.writeWord (d.get MAN_FLD_SEL_SECTION) (d.get MAN_FLD_SEL_INDEX) v false).syncPending

/-! ## Loading (R245-R248) -/

/-- MAN_CTL.LOAD written: the read starts, or is refused BUSY without touching what runs. -/
def Dev.rowManLoad (d : Dev) : Dev :=
  if d.on MAN_STATUS_LOAD_BUSY || d.on MAN_STATUS_COMMIT_BUSY || d.on SEAL_STATUS_COMMITTING then
    (if d.get MAN_STATUS_ERR = 0 then d.set MAN_STATUS_ERR 1 else d)
  else
    let n := d.get MAN_LEN
    let r := d.cohRead 0 (d.get MAN_ADDR * 64) n
    { (r.1.setB MAN_STATUS_LOAD_BUSY true) with man := { r.1.man with len := n, miss := !r.2 } }

/-- The TYPE of the first section out of order, of an unlisted type or of another length than R237 gives; some 0 where
a manifest of its KIND holds other sections. -/
def sectionsBad (kind : Nat) : Nat → List (Nat × List Nat) → Option Nat
  | n, [] => if n = 0 ∨ (kind = 1 ∧ n ≠ 13) then some 0 else none
  | n, (t, ws) :: l =>
    if t = 0 ∨ 13 < t ∨ ws.length ≠ manWords t ∨ (l.head?.any (fun x => decide (x.1 ≤ t))) = true then some t
    else sectionsBad kind (n + 1) l

/-- A field of a section is out of range or reserved and not 0. (Log entry 32 DESIGN CHOICE.) -/
def fieldBad (sec w : Nat) (v : Nat) : Bool :=
  (manFields sec w).any (fun f => if f.cls = .resv then f.of v != 0 else !f.ok (f.of v))
    || (sec == 1 && w == 0 && bits v 19 2 != 3)

/-- Some word of a body, from word w on, is out of range. (Log entry 32 DESIGN CHOICE.) -/
def bodyBad (sec : Nat) : Nat → List Nat → Bool
  | _, [] => false
  | w, v :: l => fieldBad sec w v || bodyBad sec (w + 1) l

/-- Checks 3, 4, 6 and 7 of R245 on a manifest of some length and, for a load, KIND against LOADED (check 5): the code
and the section. -/
def manHeader (f : ManFile) (len : Nat) (needFull : Bool) : Option (Nat × Nat) :=
  if f.formatOk = false ∨ (f.kind ≠ 1 ∧ f.kind ≠ 2) ∨ f.bytes ≠ len then some (3, 0)
  else match sectionsBad f.kind 0 f.sections with
  | some t => some (3, t)
  | none =>
    if f.band ≠ Config.band then some (4, 0)
    else if needFull = true ∧ f.kind ≠ 1 then some (5, 0)
    else match f.badCrc with
    | some t => some (6, t)
    | none => if f.digestOk = false then some (7, 0) else none

/-- The body of a section, if the list holds it. -/
def sectionOf (l : List (Nat × List Nat)) (sec : Nat) : Option (List Nat) := look l sec

/-- The value a field would have after a load (R246): new where the load could apply it, else as it stands; first: by
the first load since a reset. -/
def Dev.loadVal (d : Dev) (secs : List (Nat × List Nat)) (first : Bool) (sec w lo : Nat) : Nat :=
  match (manFields sec w).find? (fun f => f.lo == lo && f.cls != .resv) with
  | none => 0
  | some f =>
    let present := match f.cls with
      | .frozen => (let x := d.man.waiting.get 0 (manKey sec w lo); if x = 0 then d.manForce sec w lo else x - 1)
      | _ => d.manPresent sec w f
    match sectionOf secs sec with
    | none => present
    | some ws =>
      let v := f.of (ws.getD w 0)
      if first then v
      else if f.prot ≠ 0 ∧ d.on SEAL_STATUS_CLOSED = true then present
      else if f.cls = .frozen ∧ (d.unitOut sec w lo = false ∨ v = d.manForce sec w lo) then present
      else v

/-- The listed values of a body from word w on, by rising key. -/
def bodyCells (sec : Nat) : Nat → List Nat → List (Nat × Nat)
  | _, [] => []
  | w, v :: l =>
    (((manFields sec w).filter (fun f => f.cls != .resv && f.of v != 0)).map (fun f => (manKey sec w f.lo, f.of v)))
      ++ bodyCells sec (w + 1) l

/-- A port's CEIL above its limit comes down to it (R252). (Log entry 33 DEDUCED.) -/
def Dev.lowerCeils (d : Dev) : Dev :=
  (List.range 512).foldl (fun d o =>
    let lim := d.ceilLimit o
    let low := fun (d : Dev) (f : Fld) => if sgn 16 lim < sgn 16 (d.get f) then d.set f lim else d
    low (low d (CAP_PORT_CEIL o)) (CAP_PORT_LIMIT_CEIL o)) d

/-- The first load since a reset (R247): every field in force and in the shadow copy; spares are held, blocks asked for
return; the interlock outputs are released. (Log entry 33 DEDUCED.) -/
def Dev.firstLoad (d : Dev) (secs : List (Nat × List Nat)) : Dev :=
  let cells := secs.flatMap (fun s => bodyCells s.1 0 s.2)
  let d := { d with man := { d.man with active := ⟨cells.filter (fun c => keySec c.1 != 8)⟩,
                                        shadow := ⟨cells.filter (fun c => stagedKey c.1)⟩, waiting := Tab.empty } }
  let d := match sectionOf secs 8 with
    | none => d
    | some ws => (List.range 64).foldl (fun (d : Dev) f =>
        (List.range 4).foldl (fun (d : Dev) j =>
          (manFields 8 (4 * f + j)).foldl (fun (d : Dev) (m : MF) => d.putLive 8 (4 * f + j) m.lo (m.of (ws.getD (4 * f + j) 0))) d) d) d
  let d := (List.range 96).foldl (fun d b => d.set (CAP_PRIV_BUDGET b) (d.manA 3 (b * 404) 0)) d
  let d := d.setB MAN_STATUS_LOADED true
  let d := (List.range 96).foldl (fun d b =>
    if isMiddle b && d.manSpare b then d.setB (MAN_BLK_CTL_SPARE_HELD b) true
    else if d.manInService b then d.askIn b else d) d
  d.lowerCeils.ilkLoaded

/-- The read of a manifest ends: the first check that fails, or the load applied field by field. (Log entry 30 DEDUCED.) -/
def Dev.rowManLoaded (d : Dev) (file : HostFile) : Dev :=
  if !d.on MAN_STATUS_LOAD_BUSY then d else
  let f := manFile file.readOk file.bytes
  let first := !d.manLoaded
  let err := if f.readOk = false ∨ d.man.miss = true then some (2, 0) else
    match manHeader f d.man.len first with
    | some e => some e
    | none =>
      match f.sections.find? (fun s => bodyBad s.1 0 s.2) with
      | some s => some (8, s.1)
      | none => (manRules (d.loadVal f.sections first)).map (fun t => (9, t))
  let d := match err with
    | some e => d.sets [(MAN_STATUS_ERR, e.1), (MAN_STATUS_SECTION, e.2)]
    | none =>
      let d := d.sets [(MAN_STATUS_ERR, 0), (MAN_STATUS_SECTION, 0)]
      let d := if first then d.firstLoad f.sections else f.sections.foldl (fun (d : Dev) (s : Nat × List Nat) => d.writeWords s.1 0 s.2) d
      (List.range 8).foldl (fun d q => d.set (MAN_DIGEST q) (f.digest.getD q 0)) (d.set MAN_SERIAL f.serial)
  ((d.setB MAN_STATUS_LOAD_BUSY false).syncPending).irq .manLoad

/-! ## Commits (R250-R252) -/

/-- The values that a commit of a shadow copy would leave in force. (Log entry 30 DEDUCED.) -/
def Dev.commitVal (d : Dev) (copy : Tab Nat) (sec w lo : Nat) : Nat :=
  if stagedKey (manKey sec w lo) then copy.get 0 (manKey sec w lo) else d.manForce sec w lo

/-- A commit of the shadow copy as it stands starts, or fails its check with no effect (R250). (Log entry 30 DEDUCED.) -/
def Dev.startCommit (d : Dev) (device : Bool) : Dev :=
  match manRules (d.commitVal d.man.shadow) with
  | some _ => (d.set MAN_STATUS_COMMIT_ERR 9).irq .manCommit
  | none =>
    let c : Commit := { copy := d.man.shadow, ceils := d.stagedCeils, instant := wholeUs (d.now + 2000), device }
    { (d.setB MAN_STATUS_COMMIT_BUSY true) with man := { (d.setB MAN_STATUS_COMMIT_BUSY true).man with commit := some c } }

/-- MAN_CTL.COMMIT written. -/
def Dev.rowCommit (d : Dev) : Dev :=
  if d.on MAN_STATUS_LOAD_BUSY || d.on MAN_STATUS_COMMIT_BUSY || d.on SEAL_STATUS_COMMITTING then d.set MAN_STATUS_COMMIT_ERR 1
  else d.startCommit false

/-- The proposal's end: nothing is staged any more. -/
def Dev.unstage (d : Dev) : Dev :=
  { (d.sets [(SEAL_STATUS_STAGED, 0), (SEAL_STATUS_HAVE_A, 0), (SEAL_STATUS_HAVE_B, 0), (SEAL_STATUS_COMMITTING, 0),
      (SEAL_STATUS_BAD_MACS, 0)]) with tps := { d.tps with prop := none, newKey := none } }

/-- The commit of an approved proposal takes effect: its new key too; it is counted (R263). -/
def Dev.sealApplied (d : Dev) : Dev :=
  match d.tps.prop with
  | none => d
  | some p =>
    let d := match d.tps.newKey with
      | some key => (List.range 8).foldl (fun (d : Dev) q =>
          d.set (if p.kind = 2 then SEAL_KEY_A q else SEAL_KEY_B q) (key / 2 ^ (32 * q))) d
      | none => d
    (d.unstage.inc SEAL_CNT_APPLIED).irq .seal

/-- The commit instant: every field of the copy in force together, with what R252 says follows. -/
def Dev.rowInstant (d : Dev) : Dev :=
  match d.man.commit with
  | none => d
  | some c =>
    let old := d.atLeast c.instant
    let active := c.copy.cells.foldl (fun (t : Tab Nat) (x : Nat × Nat) => t.put 0 x.1 x.2) (old.man.active.dropWhen stagedKey)
    let d := { old with man := { old.man with active, commit := none } }
    let d := c.ceils.foldl (fun (d : Dev) (x : Nat × Nat) => d.set (CAP_PORT_CEIL x.1) x.2) d
    let d := (d.lowerCeils.mapsChanged old).setB MAN_STATUS_COMMIT_BUSY false
    let d := if old.diag 0 && !d.diag 0 then (List.range 12).foldl (fun d n => d.stopRound n) d else d
    let d := if c.device then d.sealApplied else d
    (d.inc MAN_COMMITS).syncPending.irq .manCommit

/-- MAN_CTL.DISCARD written: every shadow value as in force; refused during a commit. -/
def Dev.rowDiscard (d : Dev) : Dev :=
  if d.on MAN_STATUS_COMMIT_BUSY then d.set MAN_STATUS_COMMIT_ERR 1 else
  let d := { d with man := { d.man with shadow := ⟨d.man.active.cells.filter (fun c => stagedKey c.1)⟩ } }
  (d.stagedCeils.foldl (fun (d : Dev) (x : Nat × Nat) => d.set (CAP_PORT_LIMIT_CEIL x.1) (d.get (CAP_PORT_CEIL x.1))) d).syncPending

/-! ## The commands -/

/-- MAN_LOAD (R245): A write of MAN_CTL.LOAD starts reading a manifest, or is refused BUSY. -/
def execManLoad (r : Requester) (s : State) : Ans := s.own r 0x10000 (fun d => d.rowManLoad)

/-- MAN_LOAD_COMPLETE (R248): the manifest read ends; it is checked and applied field by field, or refused. -/
def execManLoadComplete (f : HostFile) (s : State) : Ans := s.upd (fun d => d.rowManLoaded f)

/-- MAN_COMMIT (R250): A write of MAN_CTL.COMMIT checks the shadow copy and stamps a commit instant. -/
def execManCommit (r : Requester) (s : State) : Ans := s.own r 0x10000 (fun d => d.rowCommit)

/-- COMMIT_INSTANT (R250): at the commit instant every changed STAGED field takes effect in every island. -/
def execCommitInstant (s : State) : Ans := s.upd (fun d => d.rowInstant)

/-- DISCARD (R251): A write of MAN_CTL.DISCARD sets every shadow value to its value in force. -/
def execDiscard (r : Requester) (s : State) : Ans := s.own r 0x10000 (fun d => d.rowDiscard)

/-- FIELD_WRITE (R249): A write to MAN_FLD_DATA writes each field of the selected body word under its class and access
code. -/
def execFieldWrite (r : Requester) (v : Nat) (s : State) : Ans := s.own r 0x10044 (fun d => d.rowField v)

/-- BLOCK_OUT (R242): A MAN_BLK_CTL OUT write or IN_SERVICE change takes a block out of service, or is refused BUSY.
-/
def execBlockOut (r : Requester) (b : Fin 96) (isIn : Bool) (force : Bool) (s : State) : Ans := s.own r (0x10100 + b.val * 4) (fun d => d.rowOut b.val isIn force)

/-- MIDDLE_BLOCK_PARK (R242): A middle block out of service parks once no ticket passes through it and its restoration
run has ended. -/
def execMiddleBlockPark (b : Fin 96) (s : State) : Ans := s.upd (fun d => d.rowMidPark b.val)

/-- BLOCK_IN (R241): A MAN_BLK_CTL IN write or IN_SERVICE change requests a block's return to service. -/
def execBlockIn (r : Requester) (b : Fin 96) (s : State) : Ans := s.own r (0x10100 + b.val * 4) (fun d => d.askIn b.val)

/-- BLOCK_ENTER_SERVICE (R241): once its conditions hold a block enters service, applying pending FROZEN writes with
loops UNLIT. -/
def execBlockEnterService (b : Fin 96) (s : State) : Ans := s.upd (fun d => d.rowEnter b.val)

end Sys2Proof.Machine
end

