-- ==== Sys2Proof/Machine/Seal.lean ====
section
/-! DEFINITION. The two-party seal: closing, proposals, approvals, key loads and status over party B's path (R254-R265, R350, R373). -/

namespace Sys2Proof.Machine

/-! ## Keys and closing (R256, R257) -/

/-- A key: A, or with b, B. -/
def Dev.sealKey (d : Dev) (b : Bool) : Nat :=
  (List.range 8).foldl (fun n q => n + d.get (if b then SEAL_KEY_B q else SEAL_KEY_A q) * 2 ^ (32 * q)) 0

/-- A word of a key written in the setup window; the key counts as loaded once all eight have been. -/
def Dev.putKeyWord (d : Dev) (b : Bool) (q v : Nat) : Dev :=
  let d := d.set (if b then SEAL_KEY_B q else SEAL_KEY_A q) v
  if b then
    let m := putBit d.tps.wroteB q true
    { (d.setB SEAL_STATUS_KEY_B (m == 255)) with tps := { d.tps with wroteB := m } }
  else
    let m := putBit d.tps.wroteA q true
    { (d.setB SEAL_STATUS_KEY_A (m == 255)) with tps := { d.tps with wroteA := m } }

/-- The first condition of R257 that fails. -/
def Dev.closeFails (d : Dev) : Option Nat :=
  let a := d.sealKey false
  let b := d.sealKey true
  if d.on SEAL_STATUS_CLOSED then some 2
  else if !d.on SEAL_STATUS_KEY_A || !d.on SEAL_STATUS_KEY_B then some 3
  else if a == 0 || b == 0 || a == b then some 4
  else if !d.manLoaded then some 5
  else if d.on MAN_STATUS_LOAD_BUSY || d.on MAN_STATUS_COMMIT_BUSY || d.on MAN_STATUS_PENDING then some 6
  else none

/-- SEAL_CTL.CLOSE written. -/
def Dev.rowClosed (d : Dev) : Dev :=
  match d.closeFails with
  | some r => d.sealRefuse r 0
  | none => d.setB SEAL_STATUS_CLOSED true

/-! ## Proposals (R259-R261) -/

/-- A staged proposal discarded with its reason; PF0 is told (R375). -/
def Dev.discard (d : Dev) (reason party : Nat) : Dev := (d.unstage.sealRefuse reason party).irq .seal

/-- PF0 makes the access: the only one that proposes, withdraws and approves for party A (R260-R262). -/
def byPf0 (r : Requester) : Bool := masterOf r == 6 && reqKey r == 0

/-- SEAL_CTL.PROPOSE written: the read starts, or is refused; of another requester than PF0 it stages nothing. (Log entry 57 DESIGN CHOICE.) -/
def Dev.rowPropose (d : Dev) (r : Requester) : Dev :=
  if !byPf0 r then d
  else if !d.on SEAL_STATUS_CLOSED then d.sealRefuse 7 0
  else if d.on SEAL_STATUS_STAGED || d.on MAN_STATUS_LOAD_BUSY || d.tps.reading.isSome then d.sealRefuse 6 0
  else
    let n := d.get SEAL_PROP_LEN
    let r := d.cohRead 0 (d.get SEAL_PROP_ADDR * 64) n
    { r.1 with tps := { r.1.tps with reading := some (n, r.2) } }

/-- The sections of a proposal as it applies them: FAULTS entries of other classes than the safety classes stay out. -/
def propVal (secs : List (Nat × List Nat)) (k : Nat) : Option Nat :=
  if !protKey k then none else
  match sectionOf secs (keySec k), (manFields (keySec k) (keyWord k)).find? (fun f => f.lo == keyLo k) with
  | some ws, some f => some (f.of (ws.getD (keyWord k) 0))
  | _, _ => none

/-- The values in force with a proposal applied. -/
def Dev.withProp (d : Dev) (secs : List (Nat × List Nat)) (sec w lo : Nat) : Nat :=
  (propVal secs (manKey sec w lo)).getD (d.manForce sec w lo)

/-- The die identity (R201) as eight words. -/
def dieWords : List Nat := (List.range 8).map Config.dieId

/-- The first check of R260, from the second on, that a proposal fails. -/
def Dev.propFails (d : Dev) (f : PropFile) (len : Nat) : Option Nat :=
  let isMan := f.kind == 1
  let body := if isMan then
      f.man.readOk && f.man.kind == 2 && (manHeader f.man (f.bytes - 64) false).isNone
        && f.man.sections.all (fun s => [6, 7, 9, 10].contains s.1)
    else f.bytes == 128
  if !f.readOk || !f.formatOk || !(decide (1 ≤ f.kind) && decide (f.kind ≤ 3)) || f.bytes != len || !body then some 8
  else if (List.range 8).any (fun q => bits f.dieId (32 * q) 32 != dieWords.getD q 0 % 2 ^ 32) then some 9
  else if f.seq ≤ d.get SEAL_SEQ_HIGH then some 10
  else if isMan && (f.man.sections.any (fun s => bodyBad s.1 0 s.2) || (manRules (d.withProp f.man.sections)).isSome) then some 11
  else none

/-- The read of a proposal ends: it is staged and its window opens, or it is refused and changes nothing. -/
def Dev.rowStage (d : Dev) (file : HostFile) : Dev :=
  let f := propFile file
  match d.tps.reading with
  | none => d
  | some (len, ok) =>
    let d := { d with tps := { d.tps with reading := none } }
    match (if ok then d.propFails f len else some 8) with
    | some r => d.sealRefuse r 0
    | none =>
      let s := d.get SEAL_WINDOW
      let d := (List.range 8).foldl (fun d q => d.set (SEAL_PROP_DIGEST q) (f.digest.getD q 0)) d
      let d := d.sets [(SEAL_SEQ_HIGH, f.seq), (SEAL_PROP_SEQ, f.seq), (SEAL_PROP_EXPIRY, stampOf (d.now + s * 1000000000)),
        (SEAL_STATUS_STAGED, 1), (SEAL_STATUS_HAVE_A, 0), (SEAL_STATUS_HAVE_B, 0), (SEAL_STATUS_BAD_MACS, 0)]
      let p : Proposal := { kind := f.kind, seq := f.seq, digest := f.digest, secs := f.man.sections, wrap := f.wrap,
                            expiry := d.tick + s * 1000000000 }
      { d with tps := { d.tps with prop := some p } }

/-- SEAL_CTL.WITHDRAW written by PF0: a staged proposal that is not approved yet is discarded. (Log entry 57 DESIGN CHOICE.) -/
def Dev.rowWithdraw (d : Dev) (r : Requester) : Dev :=
  if byPf0 r && d.on SEAL_STATUS_STAGED && !d.on SEAL_STATUS_COMMITTING then d.discard 17 0 else d

/-- The window of a staged proposal ends. (Log entry 57 DESIGN CHOICE.) -/
def Dev.rowExpiry (d : Dev) : Dev :=
  match d.tps.prop with
  | some p => if d.on SEAL_STATUS_COMMITTING then d else (d.atTick p.expiry).discard 13 0
  | none => d

/-! ## Approvals (R262, R263) -/

/-- Eight words as one number, word 0 lowest. -/
def wordsNat (l : List Nat) : Nat := l.foldr (fun w n => w % 2 ^ 32 + n * 2 ^ 32) 0

/-- A wrong MAC counted; the third discards the proposal. (Log entry 57 DESIGN CHOICE.) -/
def Dev.wrongMac (d : Dev) (reason party : Nat) : Dev :=
  if d.get SEAL_STATUS_BAD_MACS = 2 then d.discard 15 party
  else (d.inc SEAL_STATUS_BAD_MACS).sealRefuse reason party

/-- Both approvals are recorded: a new key is unwrapped and checked, and the apply waits for what runs. (Log entry 57 DESIGN CHOICE.) -/
def Dev.approved (d : Dev) (p : Proposal) (party : Nat) : Dev :=
  if p.kind = 1 then d.setB SEAL_STATUS_COMMITTING true else
  let b := p.kind == 3
  let key := Nat.xor p.wrap (leAt (hmac256 (leBytes 32 (d.sealKey b)) (leBytes 8 p.seq)) 0 32)
  if key == 0 || d.sealKey (!b) == 0 || key == d.sealKey (!b) then d.discard 4 party
  else
    { (d.setB SEAL_STATUS_COMMITTING true) with tps := { (d.setB SEAL_STATUS_COMMITTING true).tps with newKey := some key } }

/-- The MAC that party b's approval of a proposal must carry: the first 128 bits of the HMAC over D and SEQ, byte 0 lowest; a key's byte
0 is its bits 7:0. (Log entry 37 PRESUMED.) -/
def Dev.macOf (d : Dev) (b : Bool) (p : Proposal) : Nat :=
  leAt (hmac256 (leBytes 32 (d.sealKey b)) (wordBytes p.digest ++ leBytes 8 p.seq)) 0 16

/-- An approval handled: b for party B, onPath for the path R262 gives it. An approved proposal is discarded by none. (Log entry 57 DESIGN CHOICE.) -/
def Dev.approve (d : Dev) (b onPath : Bool) (seq mac : Nat) : Dev :=
  let party := b2n b
  let have_ := if b then SEAL_STATUS_HAVE_B else SEAL_STATUS_HAVE_A
  match d.tps.prop with
  | none => d.sealRefuse 12 party
  | some p =>
    if seq ≠ p.seq then d.sealRefuse 12 party
    else if d.on SEAL_STATUS_COMMITTING then
      d.sealRefuse (if !onPath then 14 else if mac ≠ d.macOf b p then 15 else 16) party
    else if p.expiry ≤ d.tick then d.discard 13 party
    else if !onPath then d.wrongMac 14 party
    else if mac ≠ d.macOf b p then d.wrongMac 15 party
    else if d.on have_ then d.sealRefuse 16 party
    else
      let d := d.setB have_ true
      if d.on SEAL_STATUS_HAVE_A && d.on SEAL_STATUS_HAVE_B then d.approved p party else d

/-- SEAL_CTL.APPROVE_A written, by PF0 or on a wrong path. -/
def Dev.rowApproveA (d : Dev) (r : Requester) : Dev :=
  d.approve false (byPf0 r) (d.get SEAL_APPR_SEQ) (wordsNat ((List.range 4).map (fun q => d.get (SEAL_APPR_MAC q))))

/-- Every field that a proposal names set in the shadow copy. -/
def Dev.shadowProp (d : Dev) (secs : List (Nat × List Nat)) : Dev :=
  let l := secs.flatMap (fun s => (List.range s.2.length).flatMap (fun w =>
    ((manFields s.1 w).filter (fun f => f.prot == 1)).map (fun f => (manKey s.1 w f.lo, f.of (s.2.getD w 0)))))
  { d with man := { d.man with shadow := l.foldl (fun (t : Tab Nat) (x : Nat × Nat) => t.put 0 x.1 x.2) d.man.shadow } }

/-- The protected shadow values back at the values in force. -/
def Dev.restoreProt (d : Dev) : Dev :=
  let keep := d.man.shadow.dropWhen protKey
  { d with man := { d.man with
    shadow := (d.man.active.cells.filter (fun c => protKey c.1)).foldl (fun (t : Tab Nat) (x : Nat × Nat) => t.put 0 x.1 x.2) keep } }

/-- An approved proposal written to the shadow copy and committed, once no load and no commit runs; discarded where
R246 fails. -/
def Dev.rowApply (d : Dev) : Dev :=
  match d.tps.prop with
  | none => d
  | some p =>
    if !d.on SEAL_STATUS_COMMITTING || d.on MAN_STATUS_LOAD_BUSY || d.on MAN_STATUS_COMMIT_BUSY then d else
    let d := d.shadowProp p.secs
    if (manRules (d.commitVal d.man.shadow)).isSome then d.restoreProt.discard 11 0
    else d.startCommit true

/-! ## Party B's path (R350, R373) -/

/-- A SEAL_B frame of one KIND, received on ferry port k or, for none, on the management port from a MAC: take where it
is accepted; an APPROVAL that only its path rules out goes to wrong. Refused ones are UNSOLICITED or dropped. -/
def Dev.rowSealB (d : Dev) (k : Option Nat) (mac : Nat) (f : Frame) (kind : Nat) (ok : Bool) (take wrong : Dev → Dev) : Dev :=
  if bits (f.words.getD 0 0) 0 3 ≠ kind then d else
  match k with
  | some k => d.receiveAs 0x50 k f (fun d =>
      let from_ := d.on FRY_SEAL_SRC_EN && f.src == d.get FRY_SEAL_SRC_MODULE
      if from_ && d.sealFerry && ok then take d
      else (if from_ && !d.sealFerry then wrong d else d).violation k 5 f.lseq false)
  | none =>
    if !d.mgmtOn then d else
    let d := d.mgmtIn
    let from_ := d.on HST_MGMT_SEAL_EN && mac == d.get HST_MGMT_SEAL_MAC && f.crcOk && f.typ == 0x50 && f.length == 128
      && f.hops == 0 && f.lseq == 0 && f.dst == d.moduleId
    if from_ && !d.sealFerry && ok then take (d.inc HST_MGMT_CNT_RX)
    else (if from_ && d.sealFerry then wrong d else d).inc HST_MGMT_CNT_DROP

/-- A key-load message, accepted during the setup window. -/
def Dev.rowKeyLoad (d : Dev) (k : Option Nat) (mac : Nat) (f : Frame) : Dev :=
  d.rowSealB k mac f 1 (!d.on SEAL_STATUS_CLOSED)
    (fun d => (List.range 8).foldl (fun d q => d.putKeyWord true q (f.words.getD (4 + q) 0)) d) (fun d => d)

/-- The STATUS answer: SEQ, SEAL_STATUS and D. -/
def Dev.statusWords (d : Dev) : List Nat :=
  let s := d.get SEAL_PROP_SEQ
  [3, 0, 0, 0, s % 2 ^ 32, s / 2 ^ 32, d.rawReg 0x18004, 0, 0, 0, 0, 0] ++ (List.range 8).map (fun q => d.get (SEAL_PROP_DIGEST q))

/-- A STATUS_REQ answered on its path. -/
def Dev.rowStatusReq (d : Dev) (k : Option Nat) (mac : Nat) (f : Frame) : Dev :=
  d.rowSealB k mac f 2 true
    (fun d => match k with
      | some _ => d.sendFrame 0x50 f.src d.statusWords
      | none => d.emit (.mgmt 0x88B6 mac (frameWords { d.frame 0x50 false f.src d.statusWords with hops := 0 }))) (fun d => d)

/-- An APPROVAL of party B: its record's SEQ at 0x08 and MAC at 0x10; MAGIC must read 0x53415031. (Log entry 57 DESIGN CHOICE.) -/
def Dev.rowApproval (d : Dev) (k : Option Nat) (mac : Nat) (f : Frame) : Dev :=
  let w := fun q => f.words.getD (4 + q) 0
  let ok := w 0 == 0x53415031 && w 1 == 0
  let go := fun (onPath : Bool) (d : Dev) => d.approve true onPath (w 2 + w 3 * 2 ^ 32) (wordsNat [w 4, w 5, w 6, w 7])
  d.rowSealB k mac f 4 ok (go true) (fun d => if ok then go false d else d)

/-! ## The commands -/

/-- SEAL_CLOSE (R257): A write of SEAL_CTL.CLOSE closes the seal if its conditions hold, or is refused. -/
def execSealClose (r : Requester) (s : State) : Ans := s.own r 0x18000 (fun d => d.rowClosed)

/-- PROPOSE (R260): A write of SEAL_CTL.PROPOSE starts reading a proposal record. -/
def execPropose (r : Requester) (s : State) : Ans := s.own r 0x18000 (fun d => d.rowPropose r)

/-- PROPOSAL_STAGE (R260): the proposal read ends; it is checked and staged with its window, or refused. -/
def execProposalStage (f : HostFile) (s : State) : Ans := s.upd (fun d => d.rowStage f)

/-- WITHDRAW (R261): A write of SEAL_CTL.WITHDRAW discards the staged proposal. -/
def execWithdraw (r : Requester) (s : State) : Ans := s.own r 0x18000 (fun d => d.rowWithdraw r)

/-- APPROVE_A (R262): A write of SEAL_CTL.APPROVE_A submits party A's approval for verification. -/
def execApproveA (r : Requester) (s : State) : Ans := s.own r 0x18000 (fun d => d.rowApproveA r)

/-- APPROVAL (R262): A party B approval record arrives on its path and is verified. -/
def execApproval (k : Option (Fin 8)) (mac : Nat) (f : RawFrame) (s : State) : Ans := s.upd (fun d => d.rowApproval (k.map Fin.val) mac (readFrame f))

/-- PROPOSAL_EXPIRY (R262): A staged proposal's window ends and it is discarded as EXPIRED. -/
def execProposalExpiry (s : State) : Ans := s.upd (fun d => d.rowExpiry)

/-- SEAL_APPLY (R263): after both approvals and any running load or commit, the proposal is written to the shadow copy
and committed. -/
def execSealApply (s : State) : Ans := s.upd (fun d => d.rowApply)

/-- KEY_LOAD (R256): A key-load message for key B on the SEAL_B path is accepted during the setup window. -/
def execKeyLoad (k : Option (Fin 8)) (mac : Nat) (f : RawFrame) (s : State) : Ans := s.upd (fun d => d.rowKeyLoad (k.map Fin.val) mac (readFrame f))

/-- STATUS_REQ (R350): A STATUS_REQ from party B is answered with a STATUS frame. -/
def execStatusReq (k : Option (Fin 8)) (mac : Nat) (f : RawFrame) (s : State) : Ans := s.upd (fun d => d.rowStatusReq (k.map Fin.val) mac (readFrame f))

end Sys2Proof.Machine
end

