-- ==== Sys2Proof/Machine/SystemRows.lean ====
section
/-! DEFINITION. The commands of system crossings: proposals, votes, decisions (R131-R135, R348). -/

namespace Sys2Proof.Machine

/-- The 64-bit ID of a crossing frame. -/
def frameId (f : Frame) : Nat := f.words.getD 0 0 % 2 ^ 32 + f.words.getD 1 0 % 2 ^ 32 * 2 ^ 32

/-- A proposal reaches the wheelhouse: known, and queued in Q1 to be voted on. -/
def Dev.takeProposal (d : Dev) (f : Frame) : Dev :=
  let id := frameId f
  let t := d.inst (f.words.getD 2 0 % 2 ^ 32 + f.words.getD 3 0 % 2 ^ 32 * 2 ^ 32)
  let s := (d.sysX id).getD (sys0 id)
  if s.proposed then d else
  (d.setSysX id (some { s with proposed := true, instant := t })).setReady 1 (d.ready 1 ++ [.proposal id])

/-- A vote reaches the coordinator: dropped as UNSOLICITED, discarded as a repeat, or counted. -/
def Dev.takeVote (d : Dev) (k : Nat) (f : Frame) : Dev :=
  let id := frameId f
  let w := f.words.getD 2 0
  let v := (bits w 16 12, bit w 0, bits w 8 8)
  let bad := d.violation k 5 f.lseq false
  if id / 2 ^ 52 ≠ d.moduleId then bad else
  match d.sysX id with
  | none => bad
  | some s =>
    if !s.coord || !s.members.contains v.1 then bad
    else match s.votes.find? (fun u => u.1 == v.1) with
    | some u => if u = v then d else bad
    | none =>
      if s.decision.isSome then bad
      else (d.setSysX id (some { s with votes := s.votes ++ [v] })).tally id

/-- A decision reaches a participant. -/
def Dev.takeDecision (d : Dev) (k : Nat) (f : Frame) : Dev :=
  let id := frameId f
  let w := f.words.getD 2 0
  let bad := d.violation k 5 f.lseq false
  if f.src ≠ id / 2 ^ 52 then bad else
  match d.sysX id with
  | none => if bit w 0 then bad else d
  | some s =>
    if bit w 0 && !s.ready then bad
    else if s.decision.isSome then d
    else d.setSysX id (some { s with decision := some (bit w 0), why := (bits w 12 2, bits w 16 12) })

/-- A decision report reaches the coordinator: the crossing is recorded as missed. -/
def Dev.takeReport (d : Dev) (k : Nat) (f : Frame) : Dev :=
  if frameId f / 2 ^ 52 ≠ d.moduleId then d.violation k 5 f.lseq false
  else d.missed (frameId f) 2 (bits (f.words.getD 2 0) 0 12)

/-- A crossing frame consumed by the active wheelhouse. -/
def Dev.takeFrame (d : Dev) (k : Nat) (f : Frame) : Dev :=
  match f.typ with
  | 1 => d.takeProposal f
  | 2 => d.takeVote k f
  | 3 => d.takeDecision k f
  | 4 => d.takeReport k f
  | _ => d

/-- A crossing frame received: a word of the inlet, consumed at once while a wheelhouse is active. (Log entry 42 DESIGN CHOICE.) -/
def Dev.rowCrossFrame (d : Dev) (typ k : Nat) (f : Frame) : Dev :=
  if !d.inletRoom then d else
  d.receiveAs typ k f (fun d =>
    let d := d.inletPut false
    if d.acting then d.takeFrame k f else { d with whl := { d.whl with frames := d.whl.frames ++ [(k, f)] } })

/-- The part of a system crossing taken back before its vote, refused with a status. -/
def Dev.refusePart (d : Dev) (s : Sys) (status : Nat) : Dev :=
  match s.xing.bind d.xing with
  | some x => d.endXing x status
  | none =>
    match s.part.bind d.op with
    | some o =>
      let q := queueOf o.ring
      ((d.setReady q ((d.ready q).erase (.op o.tag))).letGo o).refuseOp o status 0
    | none => d

/-- The vote deadline, by this module's own XNG_VOTE_GAP whatever the proposal's DEADLINE says (R132): a participant that has not voted votes NO, with NO_PART (a free value) or LATE; a
coordinator without every vote decides ABORT. (Log entries 22 DESIGN CHOICE, 84 DESIGN CHOICE.) -/
def Dev.rowDeadline (d : Dev) (id : Nat) : Dev :=
  match d.sysX id with
  | none => d
  | some s =>
    let d := d.atLeast (s.instant - d.get XNG_VOTE_GAP * 1000)
    let d :=
      if !s.proposed || s.voted then d
      else if s.part.isNone then (d.useFresh).sendVote id false (Config.freeNat d.fresh % 256)
      else if (s.xing.bind d.xing).any (fun x => x.stage == .committed) then d.sendVote id true 0
      else
        let d := d.refusePart s 0x10
        if (d.sysX id).any (fun s => !s.voted) then d.sendVote id false 0x10 else d
    let d := d.tally id
    match d.sysX id with
    | some s =>
      if s.coord && s.decision.isNone then
        d.rule id false 0 ((s.members.find? (fun m => !s.votes.any (fun v => v.1 == m))).getD 0)
      else d
    | none => d

/-- The part of a system crossing withdrawn, its operation completed with MISSED_SAILING, the crossing reported. -/
def Dev.withdrawPart (d : Dev) (id : Nat) (s : Sys) (reason module : Nat) : Dev :=
  let d := match s.xing.bind d.xing with | some x => d.dropXing x | none => d
  let d := match s.part.bind d.op with
    | some o => (if s.xing.isNone then d.letGo o else d).finish o 0x15 0 (missInfo reason module)
    | none => d
  let d := d.missed id reason module
  match d.sysX id with
  | some s => if s.coord then d.setSysX id (some { s with part := none, xing := none }) else d.setSysX id none
  | none => d

/-- A GO is lost, or cannot be kept: XNG_DECISION_LOST, the report to the coordinator, the part withdrawn (R133,
R298). -/
def Dev.decisionLost (d : Dev) (id : Nat) (s : Sys) : Dev :=
  let d := (d.raise 92 0 0 0 []).eventPf0 0x21 id
  let d := if id / 2 ^ 52 = d.moduleId then d
    else d.sendFrame 0x04 (id / 2 ^ 52) [id % 2 ^ 32, id / 2 ^ 32, d.moduleId]
  d.withdrawPart id s 2 d.moduleId

/-- 2.000 us before the instant a participant acts on what it holds (R133). -/
def Dev.rowCheck (d : Dev) (id : Nat) : Dev :=
  match d.sysX id with
  | none => d
  | some s =>
    if !s.proposed then d else
    let d := d.atLeast (s.instant - 2000)
    match s.decision with
    | some true => d.setSysX id (some { s with go := true })
    | some false => d.withdrawPart id s s.why.1 s.why.2
    | none => if s.ready then (d.inc XNG_CNT_DECISION_LOST).decisionLost id s else d

/-! ## The commands -/

/-- SYS_PART (R131): A SYS_PART operation submits this module's part of a system crossing. -/
def execSysPart (tag : Nat) (s : State) : Ans := s.upd (fun d => d.admitRow tag 8)

/-- SYS_PROPOSE (R131): A SYS_PROPOSE operation admits a system-crossing proposal and sends it to the participants. -/
def execSysPropose (tag : Nat) (s : State) : Ans := s.upd (fun d => d.admitRow tag 9)

/-- PROPOSAL (R131): A PROPOSAL frame of a system crossing is received and queued in Q1. -/
def execProposal (k : Fin 8) (f : RawFrame) (s : State) : Ans := s.upd (fun d => d.rowCrossFrame 1 k.val (readFrame f))

/-- VOTE (R132): A VOTE frame reaches the coordinator; at the first NO it sends ABORT, when all are READY it sends GO.
-/
def execVote (k : Fin 8) (f : RawFrame) (s : State) : Ans := s.upd (fun d => d.rowCrossFrame 2 k.val (readFrame f))

/-- DECISION (R133): A DECISION frame (GO or ABORT) is received by a participant. -/
def execDecision (k : Fin 8) (f : RawFrame) (s : State) : Ans := s.upd (fun d => d.rowCrossFrame 3 k.val (readFrame f))

/-- DECISION_REPORT (R134): A DECISION_REPORT frame reaches the coordinator and the crossing is recorded as missed. -/
def execDecisionReport (k : Fin 8) (f : RawFrame) (s : State) : Ans := s.upd (fun d => d.rowCrossFrame 4 k.val (readFrame f))

/-- VOTE_DEADLINE (R132): the vote deadline passes; a participant without a part votes NO and the coordinator aborts
on missing votes. -/
def execVoteDeadline (id : Nat) (s : State) : Ans := s.upd (fun d => d.rowDeadline id)

/-- DECISION_CHECK (R133): 2 us before the instant each participant executes on GO or withdraws its part on ABORT or
no decision. -/
def execDecisionCheck (id : Nat) (s : State) : Ans := s.upd (fun d => d.rowCheck id)

end Sys2Proof.Machine
end

