-- ==== Sys2Proof/Machine/Wheel.lean ====
section
/-! DEFINITION. The wheelhouses: the command inlet, commit points, claims and output stages, the token keeper, watches, switchover, return and self-test (R266-R286). -/

namespace Sys2Proof.Machine

/-! ## Fields by wheelhouse (0 WH-A, 1 WH-B) -/

/-- STATE_A or STATE_B: 0 RESET, 1 BOOT, 2 RESYNC, 3 STANDBY, 4 ACTIVE, 5 STALE, 6 FAILED (R284). (Log entry 36 DEDUCED.) -/
def whStateF (w : Nat) : Fld := if w = 0 then WHL_STATUS_STATE_A else WHL_STATUS_STATE_B
def Dev.whState (d : Dev) (w : Nat) : Nat := d.get (whStateF w)

/-- A wheelhouse changes state; its matrix master is reset where it enters RESET, BOOT, STALE or FAILED (R397). -/
def Dev.setWhState (d : Dev) (w v : Nat) : Dev :=
  let e := d.set (whStateF w) v
  if d.whState w ≠ v ∧ ([0, 1, 5, 6] : List Nat).contains v = true then e.masterReset w else e

/-- The other wheelhouse. -/
def other (w : Nat) : Nat := 1 - w

/-- Wheelhouse w is the active one. -/
def Dev.isActive (d : Dev) (w : Nat) : Bool := d.get WHL_STATUS_ACTIVE == w + 1

/-- WATCH mode holds (R275). -/
def Dev.watchMode (d : Dev) : Bool := d.on WHL_STATUS_MODE

/-- AGE_MS of a wheelhouse's last health report: whole milliseconds, 255 at most and without a report (R286). -/
def Dev.healthAge (d : Dev) (w : Nat) : Nat :=
  match (d.wh w).healthAt with
  | none => 255
  | some t => min 255 ((d.tick - t) / 1000000)

/-- WHL_HEALTH_A or WHL_HEALTH_B. -/
def Dev.healthW (d : Dev) (w : Nat) : Nat :=
  (if w = 0 then d.get WHL_HEALTH_A_OK + d.get WHL_HEALTH_A_BIST_FAIL * 2 + d.get WHL_HEALTH_A_KAT_FAIL * 4
      + d.get WHL_HEALTH_A_INJ_FAIL * 8 + d.get WHL_HEALTH_A_SLICE * 16
    else d.get WHL_HEALTH_B_OK + d.get WHL_HEALTH_B_BIST_FAIL * 2 + d.get WHL_HEALTH_B_KAT_FAIL * 4
      + d.get WHL_HEALTH_B_INJ_FAIL * 8 + d.get WHL_HEALTH_B_SLICE * 16) + d.healthAge w * 256

/-- WHL_LEASE: what remains of the lease in whole microseconds, 0 in WATCH mode (R286). -/
def Dev.leaseUs (d : Dev) : Nat :=
  match d.whl.leaseAt with
  | some t => if d.watchMode then 0 else (t + 10000000 - d.tick) / 1000
  | none => 0

/-- The health condition of R275 and R285 for a standby: its last report OK and at most 20 ms old; waived while DIAG
bit 1 is 0. -/
def Dev.healthy (d : Dev) (w : Nat) : Bool :=
  !d.diag 1 ||
    (d.on (if w = 0 then WHL_HEALTH_A_OK else WHL_HEALTH_B_OK)
      && (match (d.wh w).healthAt with | some t => decide (d.tick ≤ t + 20000000) | none => false))

/-- A WHL class raised at a wheelhouse, with its partner's health word in the snapshot (R305). -/
def Dev.raiseWh (d : Dev) (cls w sub : Nat) : Dev := d.raise cls 5 w sub [d.healthW (other w)]

/-! ## Output stages (R266, R272) -/

/-- The output stages: 96 berth sequencers, the ticket store's write port, the queue heads, the ferry transmitters. -/
def stageCount : Nat := 99

/-- Every output stage revoked. -/
def Dev.revoke (d : Dev) : Dev :=
  ((List.range stageCount).foldl (fun d i => d.setStage i { d.stage i with revoked := true }) d).setB WHL_STATUS_REVOKED true

/-- What a stage does with a word under a claim and CPN: whether it accepts, and otherwise whether it answers STALE or
REVOKED. -/
inductive Verdict where
  | accepted | duplicate | stale (unissued : Bool) | revoked
  deriving DecidableEq, Repr

/-- R272's table. -/
def OutStage.judge (o : OutStage) (claim cpn : Nat) : Verdict :=
  if o.revoked then .revoked
  else if claim < o.claim then .stale false
  else if o.claim < claim then .stale true
  else if o.cpn < cpn then .accepted
  else .duplicate

/-- One word at one stage: an accepted one waits for its commit point's END, with which LAST_CPN follows (R408); an ignored one is
counted, the first of an episode logged. (Log entry 44 DESIGN CHOICE.) -/
def Dev.stageWord (d : Dev) (i w claim cpn : Nat) (fin : Bool) : Dev :=
  let o := d.stage i
  match o.judge claim cpn with
  | .accepted => if fin then d.setStage i { o with cpn, buf := 0 } else d.setStage i { o with buf := o.buf + 1 }
  | .duplicate => d.inc WHL_CNT_STALE
  | .revoked => d.inc WHL_CNT_STALE
  | .stale un =>
    let d := d.inc WHL_CNT_STALE
    if o.logged then d else (d.setStage i { o with logged := true }).raiseWh 50 w (if un then 2 else 1)

/-- The words of a commit point at their stages, the last for each stage marked END (R408). -/
def Dev.stageWords (d : Dev) (w claim cpn : Nat) : List (Nat × Nat) → Dev
  | [] => d
  | (i, _) :: l => (d.stageWord i w claim cpn (l.all (fun x => x.1 != i))).stageWords w claim cpn l

/-- A commit point released: its words reach their stages, WHL_CPN shows it; the last 16 are kept (R269, R278). (Log entry 43 DESIGN CHOICE.) -/
def Dev.release (d : Dev) (w : Nat) (p : CommitPoint) : Dev :=
  let d := (d.stageWords w (d.wh w).claim p.cpn p.words).set WHL_CPN p.cpn
  { d with whl := { d.whl with point := none, recent := (p :: d.whl.recent).take 16 } }

/-! ## No wheelhouse, return abandoned (R281, R282) -/

/-- No wheelhouse can act: WHL_NONE with its cause, once, and a return in progress is abandoned. -/
def Dev.noWheel (d : Dev) (sub : Nat) : Dev :=
  let sub := if d.whState 0 = 6 ∧ d.whState 1 = 6 then 1 else sub
  let d := d.set WHL_STATUS_ACTIVE 0
  let d := if d.on RST_STATUS_LEASE_DONE then
      [0, 1].foldl (fun d w => if d.whState w = 1 ∨ d.whState w = 2 then d.setWhState w 6 else d) d
    else d
  if d.whl.none_ then d else ({ d with whl := { d.whl with none_ := true } }).raise 54 0 0 sub [d.rawReg 0x20000]

/-! ## Token and claim (R273, R275) -/

/-- The token granted to a wheelhouse on a lease: LEASE mode, the grant counted and its instant kept. -/
def Dev.grantToken (d : Dev) (w : Nat) : Dev :=
  let d := (d.set WHL_STATUS_TOKEN (w + 1)).setB WHL_STATUS_MODE false
  let d := (d.inc WHL_CNT_SWITCH).set WHL_LAST_SWITCH (stampOf d.now)
  { d with whl := { d.whl with leaseAt := some d.tick } }

/-- The cause of the last switch and the wheelhouse replaced. -/
def Dev.switchCause (d : Dev) (cause w : Nat) : Dev :=
  (d.set WHL_LAST_CAUSE_CAUSE cause).set WHL_LAST_CAUSE_FROM (w + 1)

/-- The claim raised for its holder and issued to every stage; at its top the raise is refused (R273). -/
def Dev.raiseClaim (d : Dev) (w : Nat) : Dev :=
  let c := d.get WHL_CLAIM
  if c = 0xFFFFFFFF then d.noWheel 5
  else
    let d := (d.set WHL_CLAIM (c + 1)).setB WHL_STATUS_REVOKED false
    let d := (List.range stageCount).foldl
      (fun d i => d.setStage i { d.stage i with claim := c + 1, revoked := false, logged := false }) d
    (d.reparkWh w).setWh w { d.wh w with claim := c + 1 }

/-- The claim in force is that of wheelhouse w: its raise was not refused. -/
def Dev.hasClaim (d : Dev) (w : Nat) : Bool := d.get WHL_CLAIM == (d.wh w).claim && d.get WHL_CLAIM != 0

/-! ## Resumption (R114, R278, R279) -/

/-- The queue a crossing waits in for its solve. -/
def Dev.queueOfX (d : Dev) (x : Xing) : Nat :=
  match x.kind with
  | .op tag => (match d.op tag with | some o => queueOf o.ring | none => 0)
  | .sys id => (match ((d.sysX id).bind (·.part)).bind d.op with | some o => queueOf o.ring | none => 1)
  | .lamp _ => 3
  | _ => 0

/-- A crossing that had passed stage 1 and is not committed starts again at stage 3, its loads undone. -/
def Dev.restartX (d : Dev) (x : Xing) : Dev :=
  if x.stage == .committed || x.stage == .flipped then d else
  let q := d.queueOfX x
  let d := d.setXing x.id (some { x with stage := .solve, unsolved := x.makes, moves := [], room := [], parts := [], flips := 0 })
  let d := d.loadParts (x.parts.filter (·.ready))
  d.setReady q (.xing x.id :: (d.ready q).erase (.xing x.id))

/-- Every such crossing; the work the solver was on begins again. -/
def Dev.restartAll (d : Dev) : Dev :=
  let d := match d.cmd.solving with
    | some (.recompile n) => d.setReady 2 (.recompile n :: d.ready 2)
    | _ => d
  let d := { d with cmd := { d.cmd with solving := none } }
  d.allXings.reverse.foldl (fun d x => d.restartX x) d

/-- Input words that waited are consumed: frames, then what the rings and the ferry ports are owed. (Log entry 42 DESIGN CHOICE.) -/
def Dev.wake (d : Dev) : Dev :=
  if !d.acting then d else
  let fs := d.whl.frames
  let os := d.whl.outbox
  let d := { d with whl := { d.whl with inlet := 0, inletR := 0, none_ := false, frames := [], outbox := [] } }
  let d := fs.foldl (fun d (x : Nat × Frame) => d.takeFrame x.1 x.2) d
  let d := os.foldl (fun d (x : Nat × Nat × List Nat) => d.sendFrame x.1 x.2.1 x.2.2) d
  (List.range 64).foldl (fun d g => d.wakeRing g) d

/-- The new active releases its words of every commit point above each stage's LAST_CPN, oldest first. -/
def Dev.rerelease (d : Dev) (w : Nat) : Dev :=
  let ps := d.whl.recent.reverse ++ d.whl.point.toList
  let d := ps.foldl (fun d p =>
    (d.stageWords w (d.wh w).claim p.cpn (p.words.filter (fun x => decide ((d.stage x.1).cpn < p.cpn)))).set WHL_CPN p.cpn) d
  { d with whl := { d.whl with point := none, recent := ps.reverse.take 16 } }

/-- A wheelhouse that holds the token raises the claim and becomes ACTIVE. -/
def Dev.assume (d : Dev) (w : Nat) : Dev :=
  let d := d.raiseClaim w
  if d.hasClaim w then ((d.setWhState w 4).set WHL_STATUS_ACTIVE (w + 1)).rerelease w else d

/-- TAKEOVER (R278): the standby j declares the active w dead: WHL_LOSS, the token, the claim, its own words above
every LAST_CPN, then its input. (Log entry 44 DESIGN CHOICE.) -/
def Dev.takeover (d : Dev) (j w cause : Nat) : Dev :=
  let d := d.raiseWh 49 w cause
  let d := { d with whl := { d.whl with swap := false } }
  if !d.healthy j then d.noWheel 4
  else (((((d.grantToken j).switchCause cause w).assume j).restartAll).wake)

/-- The standby is lost or failed: FAILED, and the active holds the token on a lease (R270, R277, R283). (Log entry 44 DESIGN CHOICE.) -/
def Dev.failStandby (d : Dev) (s : Nat) : Dev :=
  let d := ((d.setWhState s 6).setB WHL_STATUS_MODE false).set WHL_STATUS_TOKEN (other s + 1)
  { d with whl := { d.whl with leaseAt := some d.tick, swap := false } }

/-! ## Inputs (R268) -/

/-- A time word: one every microsecond while the inlet has room, or one in answer to a time read of the active. -/
def Dev.rowTimeWord (d : Dev) (read : Bool) : Dev :=
  let d := if read then d else d.atLeast ((d.now / 1000 + 1) * 1000)
  if (read && !d.acting) || !d.inletRoom then d else d.inletPut false

/-! ## Commit points (R269-R271, R285) -/

/-- A standby is in step. -/
def Dev.inStep (d : Dev) : Bool :=
  d.watchMode && (d.whState 0 == 3 || d.whState 1 == 3)

/-- The active wheelhouse. -/
def Dev.activeWh (d : Dev) : Nat := d.get WHL_STATUS_ACTIVE - 1

/-- The roles exchange at the end of a SWAP: the claim raised, no resync, WATCH mode again; the former active's first
report is OK (R283, R285). -/
def Dev.doSwap (d : Dev) : Dev :=
  let a := d.activeWh
  let s := other a
  let d := { d with whl := { d.whl with swap := false } }
  let d := ((d.grantToken s).switchCause 4 a).raiseClaim s
  if !d.hasClaim s then d else
  let d := d.setWh a { d.wh a with claim := d.get WHL_CLAIM, healthAt := if d.diag 1 then some d.tick else (d.wh a).healthAt }
  let d := if d.diag 1 then
      (if a = 0 then d.sets [(WHL_HEALTH_A_OK, 1), (WHL_HEALTH_A_BIST_FAIL, 0), (WHL_HEALTH_A_KAT_FAIL, 0), (WHL_HEALTH_A_INJ_FAIL, 0)]
       else d.sets [(WHL_HEALTH_B_OK, 1), (WHL_HEALTH_B_BIST_FAIL, 0), (WHL_HEALTH_B_KAT_FAIL, 0), (WHL_HEALTH_B_INJ_FAIL, 0)])
    else d
  let d := ((d.setWhState s 4).setWhState a 3).sets [(WHL_STATUS_ACTIVE, s + 1), (WHL_STATUS_TOKEN, 0), (WHL_STATUS_MODE, 1)]
  ({ d with whl := { d.whl with leaseAt := none } }).restartAll.wake

/-- SWAP: accepted in WATCH mode with a healthy standby; it waits for the MATCH of a point that is held. (Log entry 44 DESIGN CHOICE.) -/
def Dev.rowSwap (d : Dev) : Dev :=
  let a := d.activeWh
  if d.acting && d.watchMode && d.whState (other a) == 3 && d.healthy (other a) && !d.whl.swap then
    if d.whl.point.isSome then ({ d with whl := { d.whl with swap := true } }).setB WHL_STATUS_MODE false
    else d.doSwap
  else d.setB WHL_STATUS_SWAP_REFUSED true

/-- The digest of a commit point: the CRC-64 of its output words (R269). (Log entry 43 DESIGN CHOICE.) -/
def commitDigest (words : List (Nat × Nat)) : Nat := crc64 (words.flatMap Config.outBytes)

/-- The active closes a commit point: its number and digest go to the standby, and it is held for the standby's reply, or released at once without one in step. (Log entry 43 DESIGN CHOICE.) -/
def Dev.rowClose (d : Dev) (words : List (Nat × Nat)) : Dev :=
  if !d.acting || d.whl.point.isSome then d else
  let n := (d.whl.lastCpn + 1) % 2 ^ 48
  let p : CommitPoint := { cpn := n, words, closed := d.tick, tested := false }
  let d := { d with whl := { d.whl with lastCpn := n } }
  if d.inStep then
    (({ d with whl := { d.whl with point := some p } }).emit (.link (28 + d.activeWh) 0 n)).emit (.link (28 + d.activeWh) 0 (commitDigest words))
  else d.release d.activeWh p

/-- The standby's reply: MATCH releases the point, and ends a SWAP; MISMATCH raises WHL_DIVERGE and starts the
known-answer test. -/
def Dev.rowReply (d : Dev) (isMatch : Bool) : Dev :=
  match d.whl.point with
  | none => d
  | some p =>
    if p.tested || !d.acting then d
    else if isMatch then
      let d := d.release d.activeWh p
      if d.whl.swap then d.doSwap else d
    else
      let d := { d with whl := { d.whl with point := some { p with tested := true, closed := d.tick }, swap := false } }
      (d.inc WHL_CNT_DIVERGE).raiseWh 48 d.activeWh 2

/-- No reply 2.000 us after closure. -/
def Dev.rowLag (d : Dev) : Dev :=
  match d.whl.point with
  | none => d
  | some p =>
    if p.tested || !d.acting then d else
    let d := d.atTick (p.closed + 2000)
    let a := d.activeWh
    (((d.release a p).inc WHL_CNT_DIVERGE).raiseWh 48 a 1).failStandby (other a)

/-- The known-answer test ends, 20 us after the mismatch: act, stb: the active and the standby passed (R271). -/
def Dev.rowKnown (d : Dev) (act stb : Bool) : Dev :=
  match d.whl.point with
  | none => d
  | some p =>
    if !p.tested then d else
    let d := d.atTick (p.closed + 20000)
    let a := d.activeWh
    let s := other a
    if act then
      let d := { d with whl := { d.whl with point := none } }
      ((d.failStandby s).restartAll).wake
    else if stb then
      ({ d with whl := { d.whl with point := some { p with tested := false } } }).takeover s a 3
    else
      let d := { d with whl := { d.whl with point := none } }
      ((d.setWhState a 6).setWhState s 6).noWheel 1

/-! ## Stale controllers (R272, R280) -/

/-- A wheelhouse in ACTIVE becomes STALE. -/
def Dev.goStale (d : Dev) (w : Nat) : Dev :=
  if d.whState w ≠ 4 then d else
  let d := d.setWhState w 5
  if !d.isActive w then d
  else if d.whState (other w) = 3 then d.set WHL_STATUS_ACTIVE 0
  else d.noWheel 2

/-- A word of wheelhouse w reaches stage i; a STALE or REVOKED answer makes an active sender STALE. -/
def Dev.rowStageWord (d : Dev) (i w claim cpn : Nat) (fin : Bool) : Dev :=
  let v := (d.stage i).judge claim cpn
  let d := d.stageWord i w claim cpn fin
  match v with
  | .accepted => d
  | .duplicate => d
  | _ => d.goStale w

/-! ## The keeper (R273, R275) -/

/-- The token holder asks for a raise; one that was not active yet takes its place. -/
def Dev.rowClaim (d : Dev) (w : Nat) : Dev :=
  if d.get WHL_STATUS_TOKEN ≠ w + 1 then d
  else if d.whState w = 4 then d.raiseClaim w
  else if d.whState w = 3 then (d.assume w).restartAll.wake
  else d

/-- A token request: granted in WATCH mode to a healthy standby in step; its refusal leaves no wheelhouse to act. -/
def Dev.rowToken (d : Dev) (w : Nat) : Dev :=
  if !d.watchMode || d.whState w != 3 then d
  else if d.healthy w then d.grantToken w
  else d.noWheel 4

/-- The active renews its lease, 2.000 ms after the last renewal. -/
def Dev.rowRenew (d : Dev) : Dev :=
  match d.whl.leaseAt with
  | some t =>
    if d.watchMode || d.get WHL_STATUS_TOKEN = 0 || d.whState (d.get WHL_STATUS_TOKEN - 1) != 4
        || decide (t + 10000000 ≤ d.tick) then d
    else
      let d := d.atTick (t + 2000000)
      { d with whl := { d.whl with leaseAt := some d.tick } }
  | none => d

/-- The lease lapses 10.000 ms after the last renewal: stages revoked, WHL_LOSS, the token freed. (Log entry 44 DESIGN CHOICE.) -/
def Dev.rowLapseLease (d : Dev) : Dev :=
  match d.whl.leaseAt with
  | some t =>
    let h := d.get WHL_STATUS_TOKEN - 1
    if d.watchMode || d.get WHL_STATUS_TOKEN = 0 then d else
    let d := (d.atTick (t + 10000000)).revoke
    let d := ({ d with whl := { d.whl with leaseAt := none } }).set WHL_STATUS_TOKEN 0
    let d := (d.raiseWh 49 h 6).switchCause 6 h
    ([0, 1].foldl (fun d w => if d.whState w = 4 then d.setWhState w 5 else d) d).noWheel 3
  | none => d

/-! ## Watches (R276, R277) -/

/-- A heartbeat of wheelhouse w, as it arrives on the two paths. One of a higher claim makes its partner STALE. -/
def Dev.rowBeat (d : Dev) (w : Nat) (bb wire : Bool) : Dev :=
  let st := d.whState w
  if st ≠ 3 ∧ st ≠ 4 ∧ st ≠ 5 then d else
  let x := d.wh w
  let seq := if d.acting then d.get WHL_INLET_SEQ else x.consumed
  let d := d.setWh w { x with consumed := seq, bbAt := if bb then some d.tick else x.bbAt,
                              wireAt := if wire then some d.tick else x.wireAt }
  let d := if bb then d.setB (if w = 0 then WHL_WATCH_BB_A else WHL_WATCH_BB_B) true else d
  let d := if wire then d.setB (if w = 0 then WHL_WATCH_WIRE_A else WHL_WATCH_WIRE_B) true else d
  if bb && decide ((d.wh (other w)).claim < x.claim) then d.goStale (other w) else d

/-- WHL_STANDBY_LOST. -/
def Dev.standbyLost (d : Dev) (s : Nat) : Dev := (d.raiseWh 52 s 0).failStandby s

/-- 4.000 us without a heartbeat of wheelhouse w on the backbone, on its wire, or on both. -/
def Dev.rowSilence (d : Dev) (w : Nat) (bb wire : Bool) : Dev :=
  let x := d.wh w
  let o := other w
  if !bb && !wire then d else
  let t := max (if bb then x.bbAt.getD d.tick else 0) (if wire then x.wireAt.getD d.tick else 0)
  let d := d.atTick (t + 4000)
  let d := if bb then d.setB (if w = 0 then WHL_WATCH_BB_A else WHL_WATCH_BB_B) false else d
  let d := if wire then d.setB (if w = 0 then WHL_WATCH_WIRE_A else WHL_WATCH_WIRE_B) false else d
  let judging := (d.whState o == 3 && d.whState w == 4) || (d.whState o == 4 && d.whState w == 3)
  if !judging then d
  else if bb && wire then
    if d.whState o = 3 then d.takeover o w 1 else d.standbyLost w
  else if bb then d.raise 51 6 (28 + w) 0 []
  else d.raiseWh 51 w 0

/-- A fatal error of wheelhouse w (R276): all its output stops; cause 2 FATAL, 5 FAIL_CMD. -/
def Dev.fatal (d : Dev) (w cause : Nat) : Dev :=
  let st := d.whState w
  if st = 0 ∨ st = 6 then d else
  let d := (d.setWhState w 6).emit (.link (28 + w) 2 0)
  if d.isActive w then
    if d.whState (other w) = 3 then d.takeover (other w) w cause
    else d.noWheel 2
  else if st = 3 ∧ d.isActive (other w) = true then d.standbyLost w
  else d

/-- A write of FAIL_A or FAIL_B. -/
def Dev.rowFail (d : Dev) (w : Nat) : Dev :=
  if d.watchMode && d.whState (other w) == 3 then d.fatal w 5 else d

/-! ## Start-up, return, self-test (R281, R283, R284, R460) -/

/-- The lease step: the token and the first claim to a wheelhouse that has completed BOOT; the other enters RESYNC once
it has too. After a Helm reset the settlement comes before any input. -/
def Dev.leaseStep (d : Dev) (w : Nat) : Dev :=
  let d := (d.setB RST_STATUS_LEASE_DONE true).grantToken w
  let d := { d with whl := { d.whl with want := false, stepAt := some (d.whl.stepAt.getD d.tick) } }
  let d := d.assume w
  let o := other w
  let d := if d.whState o = 1 ∧ (d.wh o).booted = true then d.setWhState o 2 else d
  if d.on RST_STATUS_HELM_BUSY then d else d.wake

/-- RESYNC_A or RESYNC_B: a STALE or FAILED wheelhouse returns while the other is ACTIVE. -/
def Dev.rowResync (d : Dev) (w : Nat) : Dev :=
  if (d.whState w = 5 ∨ d.whState w = 6) ∧ d.whState (other w) = 4 ∧ d.isActive (other w) = true then
    (d.setWhState w 1).setWh w { d.wh w with back := true, booted := false }
  else d

/-- BOOT ends: FAILED on a failed BIST; else the lease step where it waits, RESYNC while the other acts, FAILED where
the return is abandoned. (Log entry 44 DESIGN CHOICE.) -/
def Dev.rowBooted (d : Dev) (w : Nat) (ok : Bool) : Dev :=
  if d.whState w ≠ 1 ∨ (d.wh w).booted = true then d
  else if !ok then
    let d := d.setWhState w 6
    if d.whState (other w) = 6 then d.noWheel 1 else d
  else
    let d := d.setWh w { d.wh w with booted := true }
    if d.whl.want then d.leaseStep w
    else if !d.on RST_STATUS_LEASE_DONE then d
    else if d.isActive (other w) then d.setWhState w 2
    else d.setWhState w 6

/-- 50 ms after the lease step: a wheelhouse still in its first BOOT goes FAILED. -/
def Dev.rowBootLate (d : Dev) (w : Nat) : Dev :=
  match d.whl.stepAt with
  | some t =>
    if d.whState w = 1 ∧ (d.wh w).booted = false ∧ (d.wh w).back = false then let d := (d.atTick (t + 50000000)).setWhState w 6
      if d.whState (other w) = 6 then ({ d with whl := { d.whl with want := false } }).noWheel 1 else d
    else d
  | none => d

/-- A health report of wheelhouse w: the slice tested and what failed. A failure raises WHL_STANDBY_FAULT. -/
def Dev.report (d : Dev) (w slice : Nat) (bist kat inj : Bool) : Dev :=
  let ok := !bist && !kat && !inj
  let d := if w = 0 then d.sets [(WHL_HEALTH_A_OK, b2n ok), (WHL_HEALTH_A_BIST_FAIL, b2n bist), (WHL_HEALTH_A_KAT_FAIL, b2n kat),
        (WHL_HEALTH_A_INJ_FAIL, b2n inj), (WHL_HEALTH_A_SLICE, slice)]
    else d.sets [(WHL_HEALTH_B_OK, b2n ok), (WHL_HEALTH_B_BIST_FAIL, b2n bist), (WHL_HEALTH_B_KAT_FAIL, b2n kat),
        (WHL_HEALTH_B_INJ_FAIL, b2n inj), (WHL_HEALTH_B_SLICE, slice)]
  let d := d.setWh w { d.wh w with healthAt := some d.tick }
  if ok then d else (d.raiseWh 53 w 0).failStandby w

/-- The final pass of a resync ends: the claim in force reissued, STANDBY, WATCH mode, the first report; abandoned where
the other no longer acts. -/
def Dev.rowResynced (d : Dev) (w slice : Nat) (bist kat inj : Bool) : Dev :=
  if d.whState w ≠ 2 then d
  else if !d.isActive (other w) then d.setWhState w 6
  else
    let d := (d.setWhState w 3).setWh w { d.wh w with claim := d.get WHL_CLAIM, back := false }
    let d := (d.setB WHL_STATUS_MODE true).set WHL_STATUS_TOKEN 0
    let d := { d with whl := { d.whl with leaseAt := none } }
    if d.diag 1 then d.report w slice bist kat inj else d

/-- The standby's report, 10.000 ms after its last. -/
def Dev.rowHealth (d : Dev) (w slice : Nat) (bist kat inj : Bool) : Dev :=
  if !d.diag 1 || d.whState w != 3 then d else
  match (d.wh w).healthAt with
  | some t => (d.atTick (t + 10000000)).report w slice bist kat inj
  | none => d.report w slice bist kat inj

/-! ## The commands -/

/-- TIME_WORD (R268): the command inlet inserts a time word every microsecond and on each time read. -/
def execTimeWord (read : Bool) (s : State) : Ans := s.upd (fun d => d.rowTimeWord read)

/-- COMMIT_POINT_CLOSE (R269): the active wheelhouse closes a commit point and sends its CPN and digest to the
standby. -/
def execCommitPointClose (words : List (Fin 99 × Nat)) (s : State) : Ans := s.upd (fun d => d.rowClose (words.map (fun x => (x.1.val, x.2))))

/-- CPN_REPLY (R269): A MATCH or MISMATCH reply reaches the active; it releases the commit point or stops and starts
the known-answer test. -/
def execCpnReply (isMatch : Bool) (s : State) : Ans := s.upd (fun d => d.rowReply isMatch)

/-- COMPARE_TIMEOUT (R270): no reply arrives 2 us after closure; the point is released, the standby FAILED and LEASE
mode entered. -/
def execCompareTimeout (s : State) : Ans := s.upd (fun d => d.rowLag)

/-- KNOWN_ANSWER_DONE (R271): the 20 us known-answer test after a mismatch ends and the outcome table is applied. -/
def execKnownAnswerDone (act : Bool) (stb : Bool) (s : State) : Ans := s.upd (fun d => d.rowKnown act stb)

/-- OUTPUT_STAGE_WORD (R272): an output stage receives a wheelhouse word and accepts, discards or ignores it by claim
and CPN. -/
def execOutputStageWord (k : Fin 99) (w : Fin 2) (claim : Nat) (cpn : Nat) (fin : Bool) (s : State) : Ans := s.upd (fun d => d.rowStageWord k.val w.val claim cpn fin)

/-- CLAIM_RAISE (R273): the keeper increments the claim and issues it to every output stage, confirming after all
acknowledge. -/
def execClaimRaise (w : Fin 2) (s : State) : Ans := s.upd (fun d => d.rowClaim w.val)

/-- TOKEN_REQUEST (R275): A wheelhouse requests the token and the keeper grants or refuses it. -/
def execTokenRequest (w : Fin 2) (s : State) : Ans := s.upd (fun d => d.rowToken w.val)

/-- LEASE_RENEW (R275): the active renews its 10 ms lease every 2 ms in LEASE mode. -/
def execLeaseRenew (s : State) : Ans := s.upd (fun d => d.rowRenew)

/-- LEASE_LAPSE (R275): A lease not renewed for 10 ms lapses; stages are revoked and WHL_LOSS raised. -/
def execLeaseLapse (s : State) : Ans := s.upd (fun d => d.rowLapseLease)

/-- HEARTBEAT (R276): A wheelhouse sends its heartbeat word and watch-wire pulse every microsecond. -/
def execHeartbeat (w : Fin 2) (bb : Bool) (wire : Bool) (s : State) : Ans := s.upd (fun d => d.rowBeat w.val bb wire)

/-- HEARTBEAT_LOSS (R277): no heartbeat from the partner for 4 us on one or both paths. -/
def execHeartbeatLoss (w : Fin 2) (bb : Bool) (wire : Bool) (s : State) : Ans := s.upd (fun d => d.rowSilence w.val bb wire)

/-- FATAL (R276): A wheelhouse detects a fatal error in itself, stops all output and signals FATAL. -/
def execFatal (w : Fin 2) (s : State) : Ans := s.upd (fun d => d.fatal w.val 2)

/-- SWAP (R285): A write of WHL_CTL.SWAP makes a planned switchover, or sets SWAP_REFUSED. -/
def execSwap (r : Requester) (s : State) : Ans := s.own r 0x20004 (fun d => d.rowSwap)

/-- FAIL (R285): A write of WHL_CTL.FAIL_A or FAIL_B acts as a fatal error of the named wheelhouse. -/
def execFail (r : Requester) (w : Fin 2) (s : State) : Ans := s.own r 0x20004 (fun d => d.rowFail w.val)

/-- RESYNC (R281): A write of WHL_CTL.RESYNC_A or RESYNC_B starts a wheelhouse's return via BOOT. -/
def execResync (r : Requester) (w : Fin 2) (s : State) : Ans := s.own r 0x20004 (fun d => d.rowResync w.val)

/-- BOOT_COMPLETE (R284): A wheelhouse completes BOOT and goes ACTIVE, RESYNC or FAILED. -/
def execBootComplete (w : Fin 2) (ok : Bool) (s : State) : Ans := s.upd (fun d => d.rowBooted w.val ok)

/-- BOOT_TIMEOUT (R284): A wheelhouse that has not completed BOOT 50 ms after the lease step goes FAILED. -/
def execBootTimeout (w : Fin 2) (s : State) : Ans := s.upd (fun d => d.rowBootLate w.val)

/-- RESYNC_COMPLETE (R281): the final pass of a resync ends; the claim is reissued and the wheelhouse becomes STANDBY
in WATCH mode. -/
def execResyncComplete (w : Fin 2) (slice : Fin 10) (bist : Bool) (kat : Bool) (inj : Bool) (s : State) : Ans := s.upd (fun d => d.rowResynced w.val slice.val bist kat inj)

/-- HEALTH_REPORT (R283): every 10 ms the standby issues its self-test health report. -/
def execHealthReport (w : Fin 2) (slice : Fin 10) (bist : Bool) (kat : Bool) (inj : Bool) (s : State) : Ans := s.upd (fun d => d.rowHealth w.val slice.val bist kat inj)

end Sys2Proof.Machine
end

