-- ==== Sys2Proof/Machine/Access.lean ====
section
/-! DEFINITION. Register accesses: what every register reads as, and the reads and writes that no row of their own covers (R8-R15, R80, R361, R362, R492-R501). -/

namespace Sys2Proof.Machine

/-! ## Computed fields -/

/-- SVY_STATUS of converter c, and the head of its results (R418, R429). -/
def Dev.showConv (d : Dev) (c : Nat) : Dev :=
  let x := d.conv c
  d.sets [(SVY_STATUS_STATE c, d.convState c), (SVY_STATUS_LATCHED c, b2n x.latched.isSome), (SVY_STATUS_REQ_COUNT c, x.reqs.length),
    (SVY_STATUS_RES_COUNT c, x.results.length), (SVY_RES c, x.results.headD 0), (SVY_STATUS_OFF_CAUSE c, if x.fault then 1 else if d.convOff c then 2 else 0)]

/-- FLT_CLS_STATUS of class c (R307). -/
def Dev.showClass (d : Dev) (c : Nat) : Dev :=
  let o := d.occ c
  d.sets [(FLT_CLS_STATUS_OPEN c, b2n (o.level != 0)), (FLT_CLS_STATUS_LEVEL_CFG c, d.levelOf c), (FLT_CLS_STATUS_LEVEL_NOW c, o.level),
    (FLT_CLS_STATUS_TIMER_RUN c, b2n o.deadline.isSome),
    (FLT_CLS_STATUS_REMAIN_US c, match o.deadline with | some t => (t - d.tick) / 1000 | none => 0)]

/-- The classes open, by number. -/
def Dev.openClasses (d : Dev) : List Nat := (d.flt.occs.cells.filter (fun c => c.2.level != 0)).map (·.1)

/-- The entry that CAL_ACC_SEL names, as CAL_ACC_DATA reads (R201): as written where that still waits. -/
def Dev.accWord (d : Dev) : Nat :=
  let i := d.get CAL_ACC_SEL_INDEX
  let d := match d.cal.waiting.find? (fun x => x.1 == d.get CAL_ACC_SEL_TABLE && x.2.1 == i) with
    | some x => d.putAcc x.1 x.2.1 x.2.2
    | none => d
  match d.get CAL_ACC_SEL_TABLE with
  | 0 => uns 16 (d.adc i).ofs + (d.adc i).gain * 2 ^ 16
  | 1 => uns 16 (d.probeCor i).ofs + (d.probeCor i).resp * 2 ^ 16 + uns 16 (d.probeCor i).zero * 2 ^ 32
  | 2 =>
    let e := d.ff (i / 2)
    if i % 2 = 0 then uns 16 e.ff0B + uns 16 e.ff0C * 2 ^ 16 + uns 16 e.tcB * 2 ^ 32 + uns 16 e.tcC * 2 ^ 48
    else e.htr + b2n e.measured * 2 ^ 16 + b2n e.rejected * 2 ^ 17
  | _ => uns 16 (d.tref i) + uns 16 (d.trig i) * 2 ^ 16

/-- ILK_HELD word w (R325): inputs in bits 0-511, outputs in bits 512-1023. (Log entry 74 DESIGN CHOICE.) -/
def Dev.heldWord (d : Dev) (w : Nat) : Nat :=
  (List.range 32).foldl (fun n j =>
    let k := 32 * w + j
    putBit n j (if k < 512 then d.heldIn k else d.heldOut (k - 512))) 0

/-- The fields of the register at an offset that show other state, brought up to date. (Log entry 74 DESIGN CHOICE.) -/
def Dev.shown (d : Dev) (off : Nat) : Dev :=
  if off = XNG_STATUS_OUTSTANDING.off then
    d.sets [(XNG_STATUS_OUTSTANDING, d.outAll), (XNG_STATUS_FETCH_STOP, b2n (decide (16384 ≤ d.outAll))), (XNG_STATUS_COMMITTED_MAX, d.committedMax)]
  else if off = TIM_STATUS_SUSPENDED.off then d.setB TIM_STATUS_SUSPENDED d.suspended
  else if off = CMD_STATUS_TOLL_ON_CHANGE.off then
    (d.setB CMD_STATUS_TOLL_ON_CHANGE d.tollOnChange).setB CMD_STATUS_REARRANGE_MOVABLE d.rearrange
  else if off = (WHL_HEALTH_A_AGE_MS).off then d.set WHL_HEALTH_A_AGE_MS (d.healthAge 0)
  else if off = (WHL_HEALTH_B_AGE_MS).off then d.set WHL_HEALTH_B_AGE_MS (d.healthAge 1)
  else if off = WHL_LEASE.off then d.set WHL_LEASE d.leaseUs
  else if off = RST_STATUS_ARM_MODULE.off then
    let armed := fun (t : Option Nat) => match t with | some t => decide (d.tick ≤ t + 1000000) | none => false
    (d.setB RST_STATUS_ARM_MODULE (armed d.rst.armM)).setB RST_STATUS_ARM_HELM (armed d.rst.armH)
  else if off = FLT_STATUS_OPEN.off then
    (d.set FLT_STATUS_OPEN d.openClasses.length).set FLT_STATUS_MAX_LEVEL (d.openClasses.foldl (fun m c => max m (d.occ c).level) 0)
  else if off = ILK_STATUS_SAFE_OK.off then d.setB ILK_STATUS_SAFE_OK d.safeOk
  else if off = FRY_STATUS_MODULE_ID.off then d.set FRY_STATUS_MODULE_ID d.moduleId
  else if off = MAN_FLD_DATA.off then
    d.set MAN_FLD_DATA (d.manWord (d.get MAN_FLD_SEL_SECTION) (d.get MAN_FLD_SEL_INDEX) (d.on MAN_FLD_SEL_VIEW))
  else if off = CAL_ACC_DATA.off then d.set CAL_ACC_DATA d.accWord
  else if off = SVY_OFF.off then d.set SVY_OFF ((List.range 24).foldl (fun n c => putBit n c (d.convOff c)) 0)
  else if off = MTX_DECODE_CFG.off then d.set MTX_DECODE_CFG (d.manA 13 7 0)
  else if off = MTX_STATUS_CONFIGURED.off then d.setB MTX_STATUS_CONFIGURED d.manLoaded
  else if off = DMA_ENG_STATUS_MODE.off then
    let n := ((List.range 64).filter (fun c => d.get (DMA_STATUS_STATE c) == 3)).length
    let open_ := (List.range 64).filter (fun c => d.get (DMA_STATUS_STATE c) == 3 || d.get (DMA_STATUS_STATE c) == 1)
    let most := (open_.map (fun c => (readPlan (d.get (DMA_SRC c)) (d.get (DMA_CNT c))).length)).sum
    (d.setB DMA_ENG_STATUS_MODE d.dmaCompat).sets [(DMA_ENG_STATUS_BUSY, n),
      (DMA_ENG_STATUS_READS, Config.freeNat d.fresh % (min 256 most + 1))]
  else match groupIx off (MTX_MST_OUT_READS 0).off 10 4 with
  | some m => d.sets [(MTX_MST_OUT_READS m, d.mtxOut m false), (MTX_MST_OUT_WRITES m, d.mtxOut m true)]
  | none => match groupIx off (CAL_DIE_ID 0).off 8 4 with
  | some q => d.set (CAL_DIE_ID q) (Config.dieId q)
  | none => match groupIx off (FLT_OPEN 0).off 4 4 with
  | some q => d.set (FLT_OPEN q) ((List.range 32).foldl (fun n j => putBit n j (d.openClasses.contains (32 * q + j))) 0)
  | none => match groupIx off (FLT_CLS_STATUS_OPEN 0).off 128 16 with
  | some c => d.showClass c
  | none => match groupIx off (ILK_HELD 0).off 32 4 with
  | some w => d.set (ILK_HELD w) (d.heldWord w)
  | none => match groupIx off (MTX_SLICE 0).off 7 4 with
  | some w => d.set (MTX_SLICE w) (d.manA 13 w 0)
  | none => match groupIx off (SQ_BASE 0 |>.off) 65 64 with
  | some g => d.set (RING_STATUS_OUTSTANDING g) (d.outRing g)
  | none => match groupIx off (TOL_RATE 0).off 64 32 with
  | some f => d.settleToll f
  | none => match groupIx off (TID_RUN_STATUS_TABLE 0).off 4 32 with
  | some s => d.settleCycle s
  | none => match groupIx off (SVY_STATUS_STATE 0).off 24 64 with
  | some c => d.showConv c
  | none => match groupIx off 0xB1000 12 512 with
  | some n =>
    let left := fun (t : Option Nat) => match t with | some t => t - d.tick | none => 0
    (d.set (REC_TMR_REM n 0) (left (d.rcdr n).tmr0)).set (REC_TMR_REM n 1) (left (d.rcdr n).tmr1)
  | none => d

/-! ## Words (R80, R81, R496-R498) -/

/-- A word of logbook entry i (R304): words 0 to 15 of its 64 bytes. -/
def Dev.logWord (d : Dev) (i w : Nat) : Nat :=
  match d.flt.log.get none i with
  | none => 0
  | some e =>
    match w with
    | 0 => e.cls % 128 + e.kind % 4 * 2 ^ 8 + e.level % 8 * 2 ^ 12 + e.sub % 256 * 2 ^ 16 + 2 ^ 31
    | 1 => e.index % 2 ^ 28 + e.unit % 16 * 2 ^ 28
    | 2 => e.time % 2 ^ 32
    | 3 => e.time / 2 ^ 32 % 2 ^ 32
    | 4 => e.seq % 2 ^ 32
    | 5 => 0
    | _ => e.snap.getD (w - 6) 0

/-- A word of a cell's record (R55, R180). -/
def Dev.cellWord (d : Dev) (i w : Nat) : Nat :=
  match w with
  | 0 => d.cellStateW i
  | 1 => d.cellBerthW i
  | 2 => (d.cell i).count % 2 ^ 32
  | 3 => (d.cell i).count / 2 ^ 32 % 2 ^ 32
  | 4 => d.cellLoopW i
  | 5 => d.cellTrimW i
  | 6 => (d.loop i).kp
  | _ => (d.loop i).ki

/-- The words of the block and port windows that show other state (R61, R63, R181, R182). -/
def Dev.winWord (d : Dev) (off : Nat) : Option Nat :=
  if 0x200000 ≤ off ∧ off < 0x2C0000 then
    let b := (off - 0x200000) / 0x2000
    match (off - 0x200000) % 0x2000 with
    | 0x1200 => some (d.blkStatusW b)
    | 0x1204 => some (d.lampMonW b)
    | 0x1304 => some (d.capStatusW b)
    | _ => none
  else if 0x300000 ≤ off ∧ off < 0x380000 then
    (if (off - 0x300000) % 0x400 = 0 then some (d.inPowerW ((off - 0x300000) / 0x400)) else none)
  else if 0x380000 ≤ off ∧ off < 0x400000 then
    let o := (off - 0x380000) / 0x400
    match (off - 0x380000) % 0x400 with
    | 0 => some (d.outPowerW o)
    | 4 => some (d.drainPowerW o)
    | 8 => some (d.voaW o)
    | 0x48 => some (d.portStatusW o)
    | _ => none
  else none

/-- A field that a read shows: others read 0 (R10). -/
def RegField.reads (f : RegField) : Bool := f.acc != .wo && f.acc != .sk

/-- The register of a row at distance dist from its first instance, as it reads now: up to 64 bits. -/
def Dev.rowWord (d : Dev) (r : RegRow) (dist : Nat) : Nat :=
  let s := d.shown (r.off + dist)
  (r.fields.filter RegField.reads).foldl (fun n f => n + s.get (f.fld.at dist) * 2 ^ f.fld.lo) 0

/-- The aligned 32-bit word at a PF0 offset; what is reserved reads 0 (R12). -/
def Dev.word (d : Dev) (off : Nat) : Nat :=
  if 0x100000 ≤ off ∧ off < 0x200000 then d.tktWord ((off - 0x100000) / 64) (off % 64 / 4)
  else if 0x200000 ≤ off ∧ off < 0x2C0000 ∧ (off - 0x200000) % 0x2000 < 0x1200 then
    d.cellWord ((off - 0x200000) / 0x2000 * 144 + (off - 0x200000) % 0x2000 / 32) (off % 32 / 4)
  else if 0x1000000 ≤ off ∧ off < 0x4000000 then
    (d.rcdr ((off - 0x1000000) / 0x400000)).mem.get 0 ((off - 0x1000000) % 0x400000 / 8) / 2 ^ (off % 8 * 8) % 2 ^ 32
  else if 0x61000 ≤ off ∧ off < 0x62000 then d.logWord ((off - 0x61000) / 64) (off % 64 / 4)
  else match d.winWord off with
  | some w => w
  | none =>
    match findRow off with
    | some (r, dist, p) =>
      if 0x80100 ≤ off ∧ off < 0x81100 ∧ 0x20 ≤ off % 64 ∧ d.dmaCompat = false then 0
      else d.rowWord r dist / 2 ^ (8 * p) % 2 ^ 32
    | none => 0

/-- The offset of the 64-bit register that a PF0 offset lies in, if it does. -/
def wideAt (off : Nat) : Option Nat :=
  let b := off / 8 * 8
  if 0x100000 ≤ off ∧ off < 0x200000 then (if [0x10, 0x18, 0x30, 0x38].contains (b % 64) then some b else none)
  else if 0x200000 ≤ off ∧ off < 0x2C0000 ∧ (off - 0x200000) % 0x2000 < 0x1200 then (if b % 32 = 8 then some b else none)
  else if 0x1000000 ≤ off ∧ off < 0x4000000 then some b
  else if 0x61000 ≤ off ∧ off < 0x62000 then (if b % 64 = 8 then some b else none)
  else match findRow off with
  | some (r, _, p) => if r.wide then some (off - p) else none
  | none => none

/-! ## Requesters (R361, R362, R499, R501) -/

/-- The snapshot's seconds for a requester (R142, R361). -/
def Dev.snapSec (d : Dev) (r : Requester) : Nat := d.tim.snaps.get 0 (reqKey r) / 1000000000 % 2 ^ 48

/-- The word at an offset as a requester reads it. -/
def Dev.wordFor (d : Dev) (r : Requester) (off : Nat) : Nat :=
  match pf0Off r off with
  | some o =>
    if o = 0x50010 then d.tim.snaps.get 0 (reqKey r) % 1000000000
    else if o = 0x50018 then d.snapSec r % 2 ^ 32
    else if o = 0x5001C then d.snapSec r / 2 ^ 32
    else d.word o
  | none =>
    let f := reqKey r
    if off = 0x104 then f + b2n (d.on SEAL_STATUS_CLOSED) * 256 + b2n d.manLoaded * 512
    else if off = 0x118 then d.snapSec r % 2 ^ 32
    else if off = 0x11C then d.snapSec r / 2 ^ 32
    else if off = 0x200 then d.hst.pages.get 0 f
    else if 0x8000 ≤ off ∧ off < 0x10000 then
      let t := d.hst.pages.get 0 f * 512 + (off - 0x8000) / 64
      if (d.tkt t).state ≠ 0 ∧ (d.tkt t).tenant = f then d.tktWord t (off % 64 / 4) else 0
    else 0

/-- The offset of the 64-bit register that a requester's offset lies in, if it does. -/
def wideFor (r : Requester) (off : Nat) : Option Nat :=
  match pf0Off r off with
  | some o => (wideAt o).map (fun b => off - (o - b))
  | none =>
    if off = 0x118 ∨ off = 0x11C then some 0x118
    else if 0x8000 ≤ off ∧ off < 0x10000 then wideAt (0x100000 + off % 64) |>.map (fun b => off / 64 * 64 + b % 64)
    else none

/-! ## Reads (R8, R11) -/

/-- The RC fields of the register at a PF0 offset cleared. -/
def Dev.clearRc (d : Dev) (off : Nat) : Dev :=
  match findRow off with
  | some (r, dist, _) => (r.fields.filter (fun f => f.acc == .rc)).foldl (fun d f => d.set (f.fld.at dist) 0) d
  | none => d

/-- The register at a PF0 offset has an RC field. -/
def hasRc (off : Nat) : Bool :=
  match findRow off with
  | some (r, _, _) => r.fields.any (fun f => f.acc == .rc)
  | none => false

/-- The read of a register that a read does not act on, but for RC. -/
def Dev.readPlain (d : Dev) (r : Requester) (off : Nat) (wide : Bool) : Dev :=
  let v := d.wordFor r off
  let hi := d.wordFor r (off + 4)
  let clear := fun (d : Dev) => match pf0Off r off with | some x => d.clearRc x | none => d
  if wide then (clear (d.setRlatch r none)).emit (.answer (reqKey r) off (v + hi * 2 ^ 32))
  else match wideFor r off with
    | some b =>
      if off = b then (clear (d.setRlatch r (some (b, hi)))).emit (.answer (reqKey r) off v)
      else match d.acc.rlatch.get none (reqKey r) with
        | some (b', h) =>
          if b' = b then (d.setRlatch r none).emit (.answer (reqKey r) off h)
          else (clear (d.setRlatch r none)).emit (.answer (reqKey r) off v)
        | none => (clear d).emit (.answer (reqKey r) off v)
    | none => (clear (d.setRlatch r none)).emit (.answer (reqKey r) off v)

/-- An aligned 32-bit read, or with wide an aligned 64-bit read: it answers the value, latches the high word of a
64-bit register at its low word, clears RC fields, takes the snapshot or pops the result where the register does. -/
def Dev.readReg (d : Dev) (r : Requester) (off : Nat) (wide : Bool) : Dev :=
  let d := d.setWlatch r none
  let o := pf0Off r off
  if o = some 0x50010 ∨ (o = none ∧ off = 0x110) then (d.setRlatch r none).rowSnapshot r
  else
    match (match o with | some x => groupIx x (SVY_RES 0).off 24 64 | none => none) with
    | some c =>
      if off % 64 ≠ (SVY_RES 0).off % 64 then d.readPlain r off wide
      else if wide then
        let x := d.conv c
        ((d.setRlatch r none).setConv c { x with results := x.results.drop 1 }).emit (.answer (reqKey r) off (x.results.headD 0))
      else d.rowSvyPop r c
    | none => d.readPlain r off wide

end Sys2Proof.Machine
end

