-- ==== Sys2Proof/Machine/FabRows.lean ====
section
/-! DEFINITION. The commands of the fabric: the flip and what follows it, parking, wear, port powers and VOAs (R60-R66, R75-R77, R82, R115, R116). -/

namespace Sys2Proof.Machine

/-! ## Flip and reload (R107, R115, R116) -/

/-- The FINAL entry of the operation of a crossing that has executed: DONE, or PARTIAL (R106); of a crossing that is in part held back,
the items that have not waited are DONE (R218). -/
def Dev.flipDone (d : Dev) (x : Xing) (partly : Bool) : Dev :=
  let late := (d.xing x.id).elim [] (·.tickets)
  let did := (x.makes ++ x.breaks).filter (fun t => !late.contains t)
  let fin := fun (d : Dev) (o : Op) => d.finishAs o (b2n partly) x.instant 0 did
  match x.kind with
  | .op t => (match d.op t with | some o => fin d o | none => d)
  | .sys id =>
    (match d.sysX id with
      | some s =>
        let d := (match s.part.bind d.op with | some o => fin d o | none => d)
        if s.coord then d.setSysX id (some { s with part := none, xing := none }) else d.setSysX id none
      | none => d)
  | _ => d

/-- The reaches whose replicas a crossing waits for: those of its parts and of the port VOAs it drives (R23, R105). -/
def Dev.xingReaches (d : Dev) (x : Xing) : List Nat :=
  blkReaches (x.parts.map (·.blk) ++ (d.litOuts x ++ d.brokenOuts x).map (fun o => 64 + o / 16))

/-- After cells have switched: wear limits, clamps, and the causes of the tickets in place (R54, R76, R92). -/
def Dev.afterSwitch (d old : Dev) (l : List Nat) : Dev := ((d.switched old l).satCheckAll l).refresh

/-- A committed crossing at its instant; a part of a system crossing only with a GO held at its check (R133). (Log entry 45 DEDUCED.) -/
def Dev.rowFlip (d : Dev) (n : Nat) : Dev :=
  match d.xing n with
  | none => d
  | some x =>
    let go := match x.kind with | .sys id => (d.sysX id).any (fun s => s.go) | _ => true
    if x.stage != .committed || d.still || !go then d else
    let d := d.atLeastIn (d.xingReaches x) x.instant
    let heldParts := (x.parts.filter (fun p => d.notLoaded p)).length
    let old := d
    let d := ((d.flip x).inc XNG_CNT_DONE).afterSwitch d (x.parts.flatMap (fun p => p.cells.map (·.1)))
    let d := d.flipDone x (heldParts != 0 || !x.withdrawn.isEmpty)
    let d := match x.kind with
      | .step t k => (d.stepDone t k x ((x.parts.filter (fun p => !old.notLoaded p)).map (fun (p : Part) => p.cells.length)).sum (heldParts != 0)).holdSuspended
      | .stopBreak t => (match d.slotOf t with | some s => d.stopRun s | none => d)
      | _ => d
    d.parkClear.sweepDark

/-- The reload of a block: every idle berth of its switched cells takes the value of the selected one, and loads of
later crossings that waited for it follow (R25, R115); without its clock the drivers hold (R37). -/
def Dev.rowBerthReload (d : Dev) (b : Nat) : Dev :=
  if d.clockLost b then d else
  let l := (d.blk b).reload
  let d := d.setBlk b { d.blk b with reload := [] }
  l.foldl (fun d i => d.loadIdle i) d

/-- A reload still owed 1.000 us after the instant (R116). -/
def Dev.rowReloadOverrun (d : Dev) (b : Nat) : Dev :=
  if (d.blk b).reload.isEmpty then d else (d.atLeastIn [blkReach b] ((d.blk b).reloadAt + 1000)).raise 19 3 b 0 []

/-- A held-back part executes at the first whole microsecond by which its loads are written. -/
def Dev.rowHeldback (d : Dev) (n b : Nat) : Dev :=
  match d.xing n with
  | none => d
  | some x =>
    match x.parts.find? (fun p => p.blk == b && p.held) with
    | some p =>
      if x.stage != .flipped || d.notLoaded p || d.still then d else
      let d := d.atLeastIn [blkReach b] (wholeUs d.now)
      let old := d
      let d := match x.kind with
        | .step t _ => d.charge ((d.table t).elim 0 (·.owner)) (p.cells.length : Int)
        | _ => d
      ((d.flipHeld x p).afterSwitch old (p.cells.map (·.1))).parkClear.sweepDark
    | none => d

/-- 1 us before the instant the outputs broken without a make start to DARK, and the gates of lamp circuits that go
close (R59, R60). -/
def Dev.rowPredark (d : Dev) (n : Nat) : Dev :=
  match d.xing n with
  | none => d
  | some x =>
    if x.stage != .committed || d.still then d else
    let d := d.atLeastIn (blkReaches ((d.brokenOuts x).map (fun o => 64 + o / 16))) (x.instant - 1000)
    let lit := d.litOuts x
    let d := ((d.brokenOuts x).filter (fun o => !lit.contains o)).foldl (fun d o => d.darken o) d
    d.closeGates (x.room ++ x.breaks)

/-! ## Parking (R66) -/

/-- The circuit of a ticket that a park breaks: STRANDED, its output DARK, its gate closed (R59, R60, R90). -/
def Dev.parkTkt (d : Dev) (t : Nat) : Dev :=
  let k := d.tkt t
  let d := if k.state = 2 then d.withdraw t else if k.srcLamp then d.gate (k.src % 32) false else d
  let d := if k.state = 2 ∨ k.dstDrain = true then d else d.darken k.dst
  d.strandTkt t 3

/-- A park decision for blocks: the run of a reach that they touch aborts (R199), their circuits are broken
(R90), the sequence starts. A CLOSING ticket's break goes on. (Log entry 27 DEDUCED.) -/
def Dev.rowPark (d : Dev) (l : List Nat) : Dev :=
  let d := (l.map blkReach).eraseDups.foldl (fun d n => d.abortRun n) d
  let d := d.startPark l
  if d.safe then d else
  (d.allTkts.filter (fun x => (x.2.state == 2 || x.2.state == 3 || x.2.state == 4) && x.2.valid && x.2.blocks.any l.contains)).foldl
    (fun d x => d.parkTkt x.1) d

/-- The blocks whose park has waited longest, of those whose reach has its clock, and the instant it was decided at. -/
def Dev.nextPark (d : Dev) : Option (Ns × List Nat) :=
  let l := (List.range 96).filterMap (fun b => if d.clockLost b then none else (d.blk b).parking.map (fun t => (t, b)))
  match l with
  | [] => none
  | (t, _) :: _ =>
    let t := l.foldl (fun t x => min t x.1) t
    some (t, (l.filter (fun x => x.1 == t)).map (·.2))

/-- All selectors of blocks parked by one decision switch at one instant, 2 us after it by their reaches' time; blocks of a later
decision switch at theirs. -/
def Dev.rowParkSwitch (d : Dev) : Dev :=
  match d.nextPark with
  | none => d
  | some (t, l) =>
    let d := d.atLeastIn (blkReaches l) (t + 2000)
    (d.switchPark l).switched d (l.flatMap blkCells)

/-! ## Wear (R75-R77) -/


/-- A write of COUNT: only while the block is out of service, never below the present count. -/
def Dev.rowWearRestore (d : Dev) (i v : Nat) : Dev :=
  let c := d.cell i
  let v := v % 2 ^ 48
  if d.inService (cellBlk i) then d.frozenWrite
  else if v < c.count then d.badEncoding
  else (d.setCell i { c with wear := v, pend := 0 }).wearLimits i c

/-! ## Ports (R17, R61, R62, R82) -/

/-- An input has read above +20.5 dBm for 1 ms. -/
def Dev.rowOverpower (d : Dev) (p : Nat) : Dev :=
  match (d.inP p).overSince with
  | some t => (d.atLeast (t + 1000000)).raise 8 2 p 0 []
  | none => d

/-- A VOA read-back code: it is what ATTEN shows; more than 0.5 dB from the command after settling is an error, found
while DIAG bit 4 is 1. At DARK any read-back of at least 45 dB agrees. -/
def Dev.rowVoaRb (d : Dev) (o rb : Nat) : Dev :=
  let rb := rb % 65536
  let q := d.outP o
  let d := (d.setOutP o { q with rbCode := rb }).set (FAB_VOA_STATUS_ATTEN o) rb
  let agrees := if q.cmdCode = 0xFFFF then decide (4500 ≤ rb) else decide (rb ≤ q.cmdCode + 50 ∧ q.cmdCode ≤ rb + 50)
  let d := d.setB (FAB_VOA_STATUS_RB_ERR o) (!agrees)
  if !agrees && d.diag 4 then d.raise 10 2 (512 + o) 0 [] else d

/-- New port readings (not of inputs, drains and lamp feeds whose slots have passed to calibration samples, R197), each a raw code of
the port's probe; an input above +20.5 dBm starts to count (R62). -/
def Dev.readPorts (d : Dev) (ins outs drains lamps : List (Nat × Int)) : Dev :=
  let d := (ins.filter (fun x => !d.calibrating (x.1 % 512 / 16))).foldl (fun d x =>
    let p := x.1 % 512
    if d.underTest (p / 16) (probeIn p) then d else
    let v := d.readProbe (p / 16) (288 + p % 16) (probeIn p) x.2
    let d := d.portSample (p / 16) (288 + p % 16) (probeIn p) (FAB_IN_POWER_POWER p) (FAB_IN_POWER_FLOOR p) (FAB_IN_POWER_STALE p)
      (FAB_IN_POWER_OVER p) true x.2
    d.setInP p { d.inP p with
      overSince := if decide (2050 < v) then some ((d.inP p).overSince.getD d.now) else none }) d
  let d := outs.foldl (fun d x =>
    d.outSample (x.1 % 512) x.2) d
  let d := (drains.filter (fun x => !d.calibrating (64 + x.1 % 512 / 16))).foldl (fun d x =>
    let o := x.1 % 512
    d.portSample (64 + o / 16) (304 + o % 16) (probeDrain o) (FAB_DRAIN_POWER_POWER o) (FAB_DRAIN_POWER_FLOOR o)
      (FAB_DRAIN_POWER_STALE o) (FAB_DRAIN_POWER_OVER o) true x.2) d
  let lit := d.lampLit
  (lamps.filter (fun x => !d.calibrating (x.1 % 32) || lit (x.1 % 32))).foldl (fun d x =>
    let b := x.1 % 32
    d.portSample b 320 (probeLamp b) (FAB_LAMP_MON_POWER b) (FAB_LAMP_MON_FLOOR b) (FAB_LAMP_MON_STALE b) (FAB_LAMP_MON_OVER b)
      (!lit b) x.2) d

/-- One ticket's power, loss and flag fields from its ports' registers (R81, R82): PATH_LOSS is IN_PWR - OUT_PWR -
VOA_ATT in 16 bits. A drain has no VOA. -/
def Dev.tktPower (d : Dev) (t : Nat) : Dev :=
  let k := d.tkt t
  let i := if k.srcLamp then d.lampMonW (k.src % 32) else d.inPowerW k.src
  let o := if k.dstDrain then d.drainPowerW k.dst else d.outPowerW k.dst
  let v := if k.dstDrain then 0 else d.get (FAB_VOA_STATUS_ATTEN k.dst)
  d.updTkt t (fun r => { r with
    inPwr := bits i 0 16, outPwr := bits o 0 16, voaAtt := v,
    pathLoss := uns 16 (sgn 16 (bits i 0 16) - sgn 16 (bits o 0 16) - v),
    stale := bit i 17 || bit o 17, floor := bit i 16 || bit o 16 })

/-- The 100 us update of the tickets that are LIT or DEGRADED. -/
def Dev.rowTelemetry (d : Dev) (ins outs drains lamps : List (Nat × Int)) : Dev :=
  let d := d.readPorts ins outs drains lamps
  (d.allTkts.filter (fun x => x.2.state == 3 || x.2.state == 4)).foldl (fun d x => d.tktPower x.1) d

/-! ## The commands -/

/-- FLIP (R115): at a crossing instant each berth sequencer switches the selectors of the cells the crossing changes,
and tickets change state. -/
def execFlip (x : Nat) (s : State) : Ans := s.upd (fun d => d.rowFlip x)

/-- BERTH_RELOAD (R115): the DAC update bus writes the idle berth of each switched cell with the selected berth value.
-/
def execBerthReload (b : Fin 96) (s : State) : Ans := s.upd (fun d => d.rowBerthReload b.val)

/-- BLK_RELOAD_OVERRUN (R116): A block whose reload is incomplete 1 us after an instant raises BLK_RELOAD_OVERRUN. -/
def execBlkReloadOverrun (b : Fin 96) (s : State) : Ans := s.upd (fun d => d.rowReloadOverrun b.val)

/-- HELDBACK_PART_EXECUTE (R116): A held-back block part executes at the first whole microsecond by which every load
is written, and its outputs return under R60. -/
def execHeldbackPartExecute (x : Nat) (b : Fin 96) (s : State) : Ans := s.upd (fun d => d.rowHeldback x b.val)

/-- VOA_PREDARK (R60): 1 us before an instant that breaks a circuit without a make, the device starts driving that
output's VOA to DARK. -/
def execVoaPredark (x : Nat) (s : State) : Ans := s.upd (fun d => d.rowPredark x)

/-- PRT_OVERPOWER (R62): an input-port reading above +20.5 dBm held for 1 ms raises PRT_OVERPOWER. -/
def execPrtOverpower (p : Fin 512) (s : State) : Ans := s.upd (fun d => d.rowOverpower p.val)

/-- PRT_VOA_RB (R17): A VOA read-back differing from the command by more than 0.5 dB after settling raises PRT_VOA_RB.
-/
def execPrtVoaRb (o : Fin 512) (rb : Nat) (s : State) : Ans := s.upd (fun d => d.rowVoaRb o.val rb)

/-- PARK (R66): A block park decision turns off the lamp, closes gates, drives VOAs DARK and loads park values into
idle berths. -/
def execPark (blocks : List (Fin 96)) (s : State) : Ans := s.upd (fun d => d.rowPark (blocks.map Fin.val))

/-- PARK_SWITCH (R66): 2 us after the park decision all selectors of the parking blocks switch at one stamped instant.
-/
def execParkSwitch (s : State) : Ans := s.upd (fun d => d.rowParkSwitch)

/-- WEAR_ADD (R75): A block adds a cell's pending state-change count to its 48-bit hold counter every 1 ms or at
32,768. -/
def execWearAdd (k : Fin 13824) (s : State) : Ans := s.upd (fun d => (d.servePort .wear).addWear k.val)

/-- WEAR_RESTORE (R77): A write to FAB_CELL_WEAR.COUNT while the block is out of service sets the count, unless below
the current value. -/
def execWearRestore (r : Requester) (k : Fin 13824) (count : Nat) (s : State) : Ans := s.own r (0x200008 + k.val / 144 * 0x2000 + k.val % 144 * 32) (fun d => d.rowWearRestore k.val count)

/-- TICKET_TELEMETRY (R82): every 100 us the device updates the power, loss and flag fields of each LIT or DEGRADED
ticket. -/
def execTicketTelemetry (ins : List (Nat × Int)) (outs : List (Nat × Int)) (drains : List (Nat × Int)) (lamps : List (Nat × Int)) (s : State) : Ans := s.upd (fun d => d.rowTelemetry ins outs drains lamps)

end Sys2Proof.Machine
end

