-- ==== Sys2Proof/Machine/Mem.lean ====
section
/-! DEFINITION. The bytes of the hold (R379): one canonical list of address and byte; the regions; reading and writing. The counters of WEAR are the cells' own, the words of SPILL the recorders', the bytes of TABLE the stored tables'. -/

namespace Sys2Proof.Machine

/-- What an address that is not listed reads as: 0; in the HOST region once it has become undefined, a value left open
(R385). (Log entry 5 DESIGN CHOICE.) -/
def Memory.dflt (m : Memory) (a : Nat) : Byte := if m.gen ≠ 0 ∧ m.host ≤ a then Config.freeByte m.gen a else 0

/-- The byte stored at an address. -/
def Memory.byte (m : Memory) (a : Nat) : Byte := (look m.cells a).getD (m.dflt a)

/-- A byte written: one that the address reads as unlisted is not listed. -/
def Memory.put (m : Memory) (a : Nat) (v : Byte) : Memory :=
  { m with cells := if v = m.dflt a then del m.cells a else ins m.cells a v }

/-- Bytes written from an address on. -/
def Memory.puts (m : Memory) (a : Nat) : List Byte → Memory
  | [] => m
  | v :: l => (m.put a v).puts (a + 1) l

/-- Only the addresses that p picks stay listed. -/
def Memory.keep (m : Memory) (p : Nat → Bool) : Memory := { m with cells := m.cells.filter (fun c => p c.1) }

/-- The bytes from an address on become undefined: nothing there is listed any more. (Log entries 5 DESIGN CHOICE, 51 DESIGN CHOICE.) -/
def Memory.lose (m : Memory) (host : Nat) : Memory :=
  let n : Memory := { cells := m.cells.filter (fun c => decide (c.1 < host)), gen := m.gen + 1, host }
  { n with cells := n.cells.filter (fun c => decide (c.2 ≠ n.dflt c.1)) }

/-- The canonical form: addresses strictly rising, no entry equal to what its address reads as unlisted. -/
def Memory.wf (m : Memory) : Bool := rising 0 m.cells && m.cells.all (fun c => decide (c.2 ≠ m.dflt c.1))

/-! ## Regions (R379) -/

/-- Byte k of a value. -/
def byteOf (v k : Nat) : Byte := BitVec.ofNat 8 (v / 2 ^ (8 * k))

/-- The n bytes of a value, lowest first. -/
def bytesOf (v n : Nat) : List Byte := (List.range n).map (byteOf v)

/-- The reach whose spill window an address lies in, and the word there. (Log entry 74 DESIGN CHOICE.) -/
def Dev.spillAt (d : Dev) (a : Nat) : Option (Nat × Nat) :=
  let w := d.get HLD_SPILL_CFG * 1048576
  let b := d.get HLD_SPILL_BASE
  if b ≤ a ∧ a < b + 12 * w then some ((a - b) / w, (a - b) % w / 8) else none

/-- Bytes padded with zeros to a multiple of 64. -/
def pad64 (l : List Byte) : List Byte := l ++ List.replicate (ceilMul l.length 64 - l.length) 0

/-- A compiled step as the table pool holds it (R381), at its offset in the cycle. -/
def TStep.image (s : TStep) (off : Nat) : List Byte :=
  let bs := ((s.codes.map (fun c => cellBlk c.1)).eraseDups.map (fun b => 2 ^ b)).sum
  pad64 (bytesOf off 8 ++ bytesOf s.dwell 4 ++ bytesOf s.circs.length 4 ++ bytesOf s.codes.length 2 ++ List.replicate 14 0 ++ bytesOf bs 12
    ++ List.replicate 20 0
    ++ s.codes.flatMap (fun c => bytesOf (c.1 % 2 ^ 14 + b2n c.2.1 * 2 ^ 16 + uns 16 c.2.2 * 2 ^ 32) 8)
    ++ s.circs.flatMap (fun c => bytesOf (c.route.mid + c.route.ing * 32 + c.route.midc * 512 + c.route.egr * 8192 + 2 ^ 17) 4))

/-- The compiled steps of a table, each at the sum of the dwells before it. -/
def stepImages (off : Nat) : List TStep → List Byte
  | [] => []
  | s :: l => s.image off ++ stepImages (off + s.dwell) l

/-- What the table pool holds of table n: its source once read, its compiled steps once READY (R381). -/
def Dev.tableImage (d : Dev) (n : Nat) (t : Table) : List Byte :=
  pad64 t.src ++ (if d.get (TID_TBL_STATUS_STATE n) = 3 ∨ d.get (TID_TBL_STATUS_STATE n) = 4 ∨ d.get (TID_TBL_STATUS_STATE n) = 5
    then stepImages 0 t.steps else [])

/-- The byte of a stored table at an address of the TABLE region, through the table's extents in order (R381); none in extents that no table
takes. (Log entry 41 DESIGN CHOICE.) -/
def Dev.tableAt (d : Dev) (a : Nat) : Option Byte :=
  let b := d.get HLD_TABLE_BASE
  if a < b ∨ b + d.get HLD_TABLE_CFG * 1073741824 ≤ a then none else
  d.tide.tables.cells.findSome? (fun c =>
    match c.2 with
    | some t => (t.extents.idxOf? ((a - b) / 1048576)).bind (fun j => (d.tableImage c.1 t)[j * 1048576 + (a - b) % 1048576]?)
    | none => none)

/-- A byte of the hold as DMA and the device read it. (Log entry 74 DESIGN CHOICE.) -/
def Dev.holdByte (d : Dev) (m : Memory) (a : Nat) : Byte :=
  if a < 0x100000 then (if a / 8 < 13824 then byteOf (d.cell (a / 8)).wear (a % 8) else 0)
  else match d.spillAt a with
    | some (n, w) => byteOf ((d.rcdr n).spill.get 0 w) (a % 8)
    | none => (d.tableAt a).getD (m.byte a)

/-- The bytes of one GiB, of one MiB. -/
def gib : Nat := 1073741824
def mib : Nat := 1048576

/-- The bases of SPILL, TABLE and HOST for region sizes (R379), and the end of TABLE. -/
def spillBase (hist : Nat) : Nat := 0x100000 + hist * mib
def tableBase (hist spill : Nat) : Nat := ceilMul (spillBase hist + 12 * spill * mib) gib
def hostBase (hist spill table : Nat) : Nat := tableBase hist spill + table * gib

end Sys2Proof.Machine
end

