-- ==== Sys2Proof/Machine/TableRows.lean ====
section
/-! DEFINITION. The commands of tide tables: load, compile, start, step, stream, recompile, stop (R118-R130, R381). -/

namespace Sys2Proof.Machine

/-! ## Loading and compiling (R118-R121, R381) -/

/-- The step list of a source as a table keeps it before its routes are known. -/
def srcSteps (s : Source) : List TStep :=
  s.body.map fun st =>
    { dwell := st.1, circs := st.2.map (fun c => { src := c.1, dst := c.2, route := { mid := 0, ing := 0, midc := 0, egr := 0 } }), codes := [] }

/-- The extents that n bytes of the pool take (R381). -/
def extentsFor (n : Nat) : Nat := (n + 1048575) / 1048576

/-- n free extents of the pool for a table, lowest first, HLD_TABLE_FREE following; none where the pool lacks them (R381). -/
def Dev.takeExtents (d : Dev) (n : Nat) : Option (Dev × List Nat) :=
  if d.get HLD_TABLE_FREE < n then none
  else some (d.set HLD_TABLE_FREE (d.get HLD_TABLE_FREE - n), pickExtents d.usedExtents (d.usedExtents.length + n) 0 n)

/-- A source that has been read: checked, and stored in the hold (R120, R381). (Log entry 41 DESIGN CHOICE.) -/
def Dev.storeSource (d : Dev) (n fn len tag : Nat) (t : Table) (l : List Byte) : Dev :=
  match readSource l with
  | none => d.failLoad n 1 (some tag)
  | some s =>
    let e := if l.length ≠ len then 1 else d.srcErr fn l s
    if e ≠ 0 then d.failLoad n e (some tag)
    else if d.holdUp = false then d.failLoad n 6 (some tag)
    else match (d.servePort .load).takeExtents (extentsFor (ceilMul l.length 64)) with
    | none => d.failLoad n 6 (some tag)
    | some r =>
      (r.1.tblState n 2 0).setTable n
        (some { t with cls := s.cls, prio := s.prio, inSet := s.inSet, outSet := s.outSet, steps := srcSteps s, src := l, extents := r.2 })

/-- TID_LOAD: admitted if it still stands at its queue's head; its source, read, is checked and stored. (Log entry 41 DESIGN CHOICE.) -/
def Dev.rowLoad (d : Dev) (tag : Nat) (src : HostFile) : Dev :=
  let d := d.admitRow tag 4
  match d.op tag with
  | none => d
  | some o =>
    let n := o.tableNo
    match d.table n with
    | none => d
    | some t =>
      if t.loadOp ≠ some tag ∨ d.get (TID_TBL_STATUS_STATE n) ≠ 1 ∨ d.acting = false then d
      else
      let r := d.cohRead o.fn o.entry.arg20 (bits o.entry.arg 32 32)
      let d := r.1
      if src.readOk = false ∨ r.2 = false then (d.tblState n 6 0).finish o 0x32 0 0
      else d.storeSource n o.fn (bits o.entry.arg 32 32) tag t src.bytes

/-- Compilation ends: every step solved against the fixed and table-held cells, and stored; READY, or FAILED with its
code. (Log entry 41 DESIGN CHOICE.) -/
def Dev.rowCompiled (d : Dev) (n : Nat) : Dev :=
  match d.table n with
  | none => d
  | some t =>
    if d.get (TID_TBL_STATUS_STATE n) ≠ 2 ∨ d.acting = false then d else
    match d.solveSteps t.cls (d.allTkts.map (·.1)) (t.steps.map (fun s => (s.dwell, s.circs.map (fun c => (c.src, c.dst))))) with
    | .error e => d.failLoad n e t.loadOp
    | .ok l =>
      let t' := { t with steps := d.withCodes l }
      match (d.servePort .load).takeExtents (extentsFor t'.bytes - t.extents.length) with
      | none => d.failLoad n 6 t.loadOp
      | some r =>
        let d := (r.1.tblState n 3 0).setTable n (some { t' with extents := t.extents ++ r.2, loadOp := none })
        let d := d.set (TID_TBL_STATUS_STEPS n) l.length
        match t.loadOp.bind d.op with
        | some o => d.finish o 0x03 0 0
        | none => d

/-! ## Steps (R122, R124, R125) -/

/-- A compiled step beyond the 8,192nd streamed from the hold. -/
def Dev.rowStream (d : Dev) (n : Nat) : Dev :=
  match d.slotOf n with
  | none => d
  | some s =>
    match d.run s, d.table n with
    | some u, some t =>
      if t.steps.length ≤ 8192 ∨ u.held = true ∨ d.holdUp = false then d
      else d.setRun s (some { u with streamed := u.streamed + 1 })
    | _, _ => d

/-- A run that cannot begin: its start is refused, the table READY again. -/
def Dev.refuseStart (d : Dev) (s : Nat) (u : Run) (status : Nat) : Dev :=
  let d := d.endRun s 3 0
  match u.startOp.bind d.op with
  | some o => d.refuseOp o status 0
  | none => d

/-- The engine may commit a step of this run now: neither held nor suspended, steps left, fewer than 12 ahead, and the
step in the cache. -/
def Dev.mayCommit (d : Dev) (u : Run) : Bool :=
  u.active && !u.held && !d.on TIM_CTL_SUSPEND && !d.still && !u.past
    && decide ((d.stepsAhead u.table).length < 12) && (decide (u.nextStep < 8192) || decide (0 < u.streamed))

/-- The step given its instant and put in the berth sequencers; it takes its tickets at once where no other step
waits before it. -/
def Dev.putStep (d : Dev) (s : Nat) (u : Run) (t : Table) (st : TStep) (ps : List Part) (at_ : Nat) : Dev :=
  let ahead := !(d.stepsAhead u.table).isEmpty
  let n := d.cmd.nextX
  let x : Xing :=
    { xing0 (.step u.table u.nextStep) with
      id := n, stage := .committed, instant := at_, parts := ps, flips := (ps.map (fun p => p.cells.length)).sum }
  let d := (d.addXing x).loadParts ps
  let nx := u.after t.steps.length
  let d := d.setRun s (some { u with nextStep := nx.1, nextCyc := nx.2,
                                     streamed := if 8192 ≤ u.nextStep then u.streamed - 1 else u.streamed })
  let d := (if ahead then d else d.stepTkts s x st).refreshCal
  d.markNext s

/-- The release that ends a run whose stop mode is BREAK committed, at least 8 us ahead, for the instant the next step would have had
(R128). -/
def Dev.putRelease (d : Dev) (s : Nat) (u : Run) (t : Table) : Dev :=
  let at_ := u.instant t u.nextStep u.nextCyc
  let l := d.stepsAhead u.table
  if u.keep || u.held || u.start = 0 || d.on TIM_CTL_SUSPEND || d.still || decide (at_ < d.now + 8000)
    || l.any (fun x => match x.kind with | .stopBreak _ => true | _ => false) then d else
  let x : Xing := { xing0 (.stopBreak u.table) with id := d.cmd.nextX, stage := .committed, instant := at_ }
  let d := d.addXing x
  let d := if l.isEmpty then d.stepTkts s x { dwell := 0, circs := [], codes := [] } else d
  d.markNext s

/-- The next step of a running table committed at least 8 us ahead. The first fixes the grid: its stamp made final
under R109 and R112, or the start refused. (Log entry 41 DESIGN CHOICE.) -/
def Dev.rowStepCommit (d : Dev) (n : Nat) : Dev :=
  match d.slotOf n with
  | none => d
  | some s =>
    match d.run s, d.table n with
    | some u, some t =>
      if u.past then d.putRelease s u t else
      if !d.mayCommit u then d else
      match t.steps[u.nextStep]? with
      | none => d
      | some st =>
        if u.start = 0 then
          let e := (u.startOp.bind d.op).map (fun (o : Op) => (o.entry.asap, d.stampAt o.entry))
          let asap := (e.map (·.1)).getD true
          let stamp := (e.map (·.2)).getD 0
          let ps := d.stepParts u.firstCodes st (max stamp (d.now + 8000))
          let x := { xing0 (.step n u.nextStep) with stamp, parts := ps }
          if ps.any (fun p => decide (64 ≤ d.partsIn p.blk)) then d
          else if !asap && decide (stamp < d.now + 8000) then d.refuseStart s u 0x10
          else if !asap && (d.otherSwitches x).any (tooClose stamp) then d.refuseStart s u 0x12
          else
            let at_ := if asap then d.earliest x else stamp
            let d := if at_ ≠ stamp then d.inc XNG_CNT_ASAP else d
            d.putStep s { u with start := at_ } t st ps at_
        else
          let at_ := u.instant t u.nextStep u.nextCyc
          let ps := d.stepParts st.codes st at_
          if at_ < d.now + 8000 ∨ ps.any (fun p => decide (64 ≤ d.partsIn p.blk)) = true then d
          else d.putStep s u t st ps at_
    | _, _ => d

/-! ## Recompilation and stop (R127, R128) -/

/-- A step uses a lost unit. -/
def Dev.stepLost (d : Dev) (st : TStep) : Bool :=
  st.circs.any fun c => d.lostMid c.route.mid || c.path.any (fun h => d.lostCell h.cell)

/-- The steps that use a lost unit solved again, the run's own tickets left aside. -/
def Dev.recompile (d : Dev) (cls : Nat) (own : List Nat) : List TStep → Option (List TStep)
  | [] => some []
  | s :: l =>
    let r : Option (List Circ) :=
      if d.stepLost s then
        match d.solveStep cls own (s.circs.map (fun c => (c.src, c.dst))) [] with
        | .ok c => some c
        | .error _ => none
      else some s.circs
    match r, d.recompile cls own l with
    | some c, some k => some ({ s with circs := c } :: k)
    | _, _ => none

/-- The first step and cycle at or after the run's next one whose instant lies at or after t. -/
def Run.rejoin (u : Run) (tb : Table) (t : Nat) : Nat × Nat :=
  if t ≤ u.instant tb u.nextStep u.nextCyc then (u.nextStep, u.nextCyc) else
  let e := t + tb.upTo u.first - u.start
  let c := e / tb.cycle
  match (List.range tb.steps.length).find? (fun k => decide (e ≤ c * tb.cycle + tb.upTo k)) with
  | some k => (k, c)
  | none => (0, c + 1)

/-- Recompilation of a HELD table ends: the table resumes on its grid, or goes FAILED with STEP_LOST and its circuits
ordinary tickets. -/
def Dev.rowRecompiled (d : Dev) (n : Nat) : Dev :=
  if d.cmd.solving ≠ some (.recompile n) ∨ d.acting = false then d else
  let d := { d with cmd := { d.cmd with solving := none } }
  match d.slotOf n with
  | none => d
  | some s =>
    match d.run s, d.table n with
    | some u, some t =>
      if !u.held || u.noResume then d else
      let own := (d.tableTkts n).map (·.1)
      (match (d.setRun s none).recompile t.cls own t.steps with
        | some l =>
          let t := { t with steps := d.withCodes l }
          let r := u.rejoin t (d.now + 8000)
          let d := ((d.servePort .load).setTable n (some t)).setRun s (some { u with held := false, nextStep := r.1, nextCyc := r.2 })
          ((d.tblState n 4 0).setB (TID_RUN_STATUS_HELD s) false).markNext s
        | none =>
          ((d.endRun s 6 9).failOps u 9).tblEvent n t.owner 0x12)
    | _, _ => d

/-- The stop point of a running table: no committed step waits, and the instant the next one would have had is
reached (R128). Circuits to be released that no crossing releases by then are released as those of a HELD table are. -/
def Dev.rowTableStop (d : Dev) (n : Nat) : Dev :=
  match d.slotOf n with
  | none => d
  | some s =>
    match d.run s, d.table n with
    | some u, some t =>
      if u.held || !u.past || !(d.stepsAhead n).isEmpty then d else
      let d := d.atLeast (u.instant t u.nextStep u.nextCyc)
      if u.keep then d.stopRun s else d.stopHeld s
    | _, _ => d

/-! ## The commands -/

/-- TID_LOAD (R120): A TID_LOAD operation starts reading, checking and storing a table source. -/
def execTidLoad (tag : Nat) (src : HostFile) (s : State) : Ans := s.upd (fun d => d.rowLoad tag src)

/-- TABLE_COMPILE_DONE (R120): compilation of a loaded table ends; the table becomes READY or FAILED and the load
completes. -/
def execTableCompileDone (n : Fin 1024) (s : State) : Ans := s.upd (fun d => d.rowCompiled n.val)

/-- TID_START (R123): A TID_START operation checks ports, ticket IDs, toll rate and paths and starts a READY table on
its grid. -/
def execTidStart (tag : Nat) (s : State) : Ans := s.upd (fun d => d.admitRow tag 5)

/-- TID_STOP (R128): A TID_STOP operation schedules the end of a running table, or ends a HELD table at once. -/
def execTidStop (tag : Nat) (s : State) : Ans := s.upd (fun d => d.admitRow tag 6)

/-- TID_UNLOAD (R128): A TID_UNLOAD operation returns a READY or FAILED table to EMPTY and frees its hold space. -/
def execTidUnload (tag : Nat) (s : State) : Ans := s.upd (fun d => d.admitRow tag 7)

/-- TABLE_STEP_COMMIT (R124): the tide-table engine commits the next step of a running table to the berth sequencers
at least 8 us ahead. -/
def execTableStepCommit (n : Fin 1024) (s : State) : Ans := s.upd (fun d => d.rowStepCommit n.val)

/-- STEP_STREAM (R122): A compiled step beyond the 8,192nd is streamed from the hold into the step cache ahead of
need. -/
def execStepStream (n : Fin 1024) (s : State) : Ans := s.upd (fun d => d.rowStream n.val)

/-- TABLE_RECOMPILE (R127): recompilation of a HELD table ends; it resumes on its grid or goes FAILED with STEP_LOST.
-/
def execTableRecompile (n : Fin 1024) (s : State) : Ans := s.upd (fun d => d.rowRecompiled n.val)

/-- TABLE_STOP (R128): A running table reaches its stop point and applies KEEP or BREAK, returning to READY. -/
def execTableStop (n : Fin 1024) (s : State) : Ans := s.upd (fun d => d.rowTableStop n.val)

end Sys2Proof.Machine
end

