-- ==== Sys2Proof/Machine/Hold.lean ====
section
/-! DEFINITION. The hold port: bring-up, its layout, wear flushes, media errors (R376-R386, R396). -/

namespace Sys2Proof.Machine

/-- Every counter of the WEAR region zeroed: worn cells are not FIXED any more, and capacity returns (R97). -/
def Dev.zeroWear (d : Dev) : Dev :=
  let worn := d.fab.cells.cells.any (fun (c : Nat × Cell) => c.2.worn)
  (fun (e : Dev) => if worn then e.capacity else e) { d with fab := { d.fab with cells := ⟨(d.fab.cells.cells.map (fun (c : Nat × Cell) => (c.1, { c.2 with wear := 0 }))).filter
      (fun c => decide (c.2 ≠ cell0 c.1))⟩ } }

/-- The extents that tables other than those kept hold; the free ones follow (R381). -/
def Dev.freeExtents (d : Dev) (keep : Nat → Bool) : Dev :=
  let used := (d.tide.tables.cells.map (fun (c : Nat × Option Table) =>
    if keep c.1 then (match c.2 with | some t => t.extents.length | none => 0) else 0)).sum
  d.set HLD_TABLE_FREE (d.get HLD_TABLE_CFG * 1024 - used)

/-- A table runs: RUNNING or HELD. -/
def Dev.tableRuns (d : Dev) (n : Nat) : Bool := (d.slotOf n).isSome

/-- Zeros written over HIST; the other bytes stay. -/
def Dev.zeroHist (d : Dev) (m : Memory) : Memory :=
  m.keep (fun a => !(decide (0x100000 ≤ a) && decide (a < d.get HLD_SPILL_BASE)))

/-- Training and setup end (R377): the hold is UP with its capacity, WEAR and HIST zero. After a loss (R385) its contents
are lost: every block sets WEAR_LOST, the counters return with values the spec leaves open, the HOST region is
undefined, extents are free unless a running table holds them. (Log entry 51 DESIGN CHOICE.) -/
def Dev.rowHoldUp (d : Dev) (m : Memory) (e : Expander) : Dev × Memory :=
  if d.hld.off || d.srdsOut || !d.on HLD_CTL_EN || d.get HLD_STATUS_STATE == 2 then (d, m) else
  match e with
  | .absent => (d.set HLD_STATUS_STATE 0, m)
  | .notType3 => (d.sets [(HLD_STATUS_STATE, 0), (HLD_STATUS_ERR, 2)], m)
  | .type3 cap rate width =>
    if cap < 64 ∨ 1024 < cap then (d.sets [(HLD_STATUS_STATE, 0), (HLD_STATUS_ERR, 1)], m) else
    let d := d.sets [(HLD_STATUS_STATE, 2), (HLD_STATUS_ERR, 0), (HLD_STATUS_RATE, rate), (HLD_STATUS_WIDTH, width),
      (HLD_CAPACITY, cap * gib), (HLD_HIST_HEAD, 0)]
    if !d.hld.lost then
      let d := d.zeroWear.freeExtents (fun _ => true)
      (d, d.zeroHist m)
    else
      let f := d.fresh
      let d := (d.setB HLD_STATUS_CONTENT_LOST true).freeExtents d.tableRuns
      let d := (List.range 96).foldl (fun d b => d.setB (FAB_BLK_STATUS_WEAR_LOST b) true) d
      let d := (List.range 13824).foldl (fun d i => d.setCell i { d.cell i with wear := Config.freeNat (f + i) % 2 ^ 48 }) d
      let d := { d with fresh := f + 13824, hld := { d.hld with lost := false } }
      (d, d.zeroHist (m.lose (d.get HLD_HOST_BASE)))

/-! ## Wear flush (R380) -/

/-- A write of WEAR_FLUSH: every block's pending counts go to the hold port, where their additions wait for the users before them
(R378). -/
def Dev.rowFlush (d : Dev) : Dev :=
  let cells := (d.fab.cells.cells.filter (fun (c : Nat × Cell) => c.2.pend != 0)).map (·.1)
  (fun (e : Dev) => { e with hld := { e.hld with flush := cells } }) (d.setB HLD_STATUS_FLUSH_BUSY true)

/-- Every addition of the flush has completed. -/
def Dev.rowFlushDone (d : Dev) : Dev :=
  if d.holdUp then ((d.servePort .wear).serveFlush).setB HLD_STATUS_FLUSH_BUSY false else d

/-! ## EN and the layout (R386, R396) -/

/-- A recorder's spill is in effect for a capture in progress (R386, R444). -/
def Dev.spillArmed (d : Dev) : Bool :=
  (List.range 12).any (fun n =>
    let s := d.get (REC_STATUS_STATE n)
    (s == 1 || s == 2 || s == 3) && (d.rcdr n).spillOn)

/-- A BUSY DMA channel has an end in the hold. -/
def Dev.dmaInHold (d : Dev) (c : Nat) : Bool :=
  d.get (DMA_STATUS_STATE c) == 3 && (d.get (DMA_CTL_SRC_SPACE c) == 1 || d.get (DMA_CTL_DST_SPACE c) == 1)

/-- A write of HLD_CTL.EN: 0 takes the hold out of service where nothing uses it, else it is a reserved encoding; 1
applies the layout written, zeroing WEAR and HIST, or is refused where the layout does not fit. -/
def Dev.rowHoldEn (d : Dev) (m : Memory) (on : Bool) : Dev × Memory :=
  if on = d.on HLD_CTL_EN then (d, m)
  else if !on then
    if (List.range 1024).all (fun n => d.get (TID_TBL_STATUS_STATE n) == 0) && !d.spillArmed
        && !(List.range 64).any d.dmaInHold then (d.setB HLD_CTL_EN false, m)
    else (d.badEncoding, m)
  else
    let h := d.get HLD_HIST_CFG_MIB
    let sp := d.get HLD_SPILL_CFG
    let t := d.get HLD_TABLE_CFG
    if d.get HLD_CAPACITY < hostBase h sp t then (d.set HLD_STATUS_ERR 3, m) else
    let m := if hostBase h sp t < d.get HLD_HOST_BASE then m.lose (hostBase h sp t) else m
    let d := d.sets [(HLD_CTL_EN, 1), (HLD_STATUS_ERR, 0), (HLD_HIST_BASE, 0x100000), (HLD_SPILL_BASE, spillBase h),
      (HLD_TABLE_BASE, tableBase h sp), (HLD_HOST_BASE, hostBase h sp t)]
    let d := d.zeroWear.freeExtents (fun _ => true)
    (d, d.zeroHist m)

/-- A corrected media error (R384). -/
def Dev.rowCorrected (d : Dev) : Dev := d.inc HLD_CNT_CORR

/-! ## The commands -/

/-- HOLD_UP (R377): hold training and setup end; the decoder is programmed, WEAR and HIST zeroed and the hold is UP.
-/
def execHoldUp (e : Expander) (s : State) : Ans := s.updMem (fun d m => d.rowHoldUp m e)

/-- WEAR_FLUSH (R380): A write of HLD_CTL.WEAR_FLUSH makes every block add its pending wear counts. -/
def execWearFlush (r : Requester) (s : State) : Ans := s.own r 0x88000 (fun d => d.rowFlush)

/-- WEAR_FLUSH_DONE (R380): every flush addition completes and FLUSH_BUSY clears. -/
def execWearFlushDone (s : State) : Ans := s.upd (fun d => d.rowFlushDone)

/-- HOLD_ENABLE (R386): A write of HLD_CTL.EN takes the hold out of service or applies a new layout. -/
def execHoldEnable (r : Requester) (on : Bool) (s : State) : Ans := s.ownMem r 0x88000 (fun d m => d.rowHoldEn m on)

/-- CORRECTED_MEDIA_ERROR (R384): the expander reports a corrected media error, which is counted in HLD_CNT_CORR and
raises nothing. -/
def execCorrectedMediaError (s : State) : Ans := s.upd (fun d => d.rowCorrected)

end Sys2Proof.Machine
end

