-- ==== Sys2Proof/Machine/Dma.lean ====
section
/-! DEFINITION. The DMA engine, and the loss of the hold (R383, R384, R386-R395, R442). -/

namespace Sys2Proof.Machine

/-! ## The range checks (R387) -/

/-- The on-chip ranges that DMA can read: the ticket array, the logbook, the recorder apertures. -/
def chipRanges : List (Nat × Nat) := [(0x100000, 0x200000), (0x61000, 0x62000), (0x1000000, 0x4000000)]

/-- The error of n bytes at an address in the hold: a source may lie in WEAR, HIST and SPILL, or in HOST; a destination in HOST. -/
def Dev.holdErr (d : Dev) (a n : Nat) (dst : Bool) : Nat :=
  if !d.holdUp then 6
  else if d.get HLD_CAPACITY < a + n then 4
  else if dst then (if a < d.get HLD_HOST_BASE then 3 else 0)
  else if a + n ≤ d.get HLD_SPILL_BASE + 12 * d.get HLD_SPILL_CFG * 1048576 ∨ d.get HLD_HOST_BASE ≤ a then 0
  else 3

/-- The error of n bytes at an on-chip source. -/
def chipErr (a n : Nat) : Nat :=
  match chipRanges.find? (fun r => decide (r.1 ≤ a) && decide (a < r.2)) with
  | some r => if r.2 < a + n then 4 else 0
  | none => 3

/-- The error that ends a channel's transfer at its start; 0 for none. -/
def Dev.dmaErr (d : Dev) (c : Nat) : Nat :=
  let n := d.get (DMA_CNT c)
  if n = 0 then 4 else
  let s := match d.get (DMA_CTL_SRC_SPACE c) with
    | 0 => 0
    | 1 => d.holdErr (d.get (DMA_SRC c)) n false
    | _ => chipErr (d.get (DMA_SRC c)) n
  if s ≠ 0 then s
  else if d.get (DMA_CTL_DST_SPACE c) = 1 then d.holdErr (d.get (DMA_DST c)) n true else 0

/-! ## The bytes moved (R390, R391) -/

/-- Byte i of a channel's source; data: what host memory holds there. -/
def Dev.dmaByte (d : Dev) (m : Memory) (c : Nat) (data : List Byte) (i : Nat) : Byte :=
  let a := d.get (DMA_SRC c) + i
  match d.get (DMA_CTL_SRC_SPACE c) with
  | 0 => data.getD i 0
  | 1 => d.holdByte m a
  | _ => byteOf (d.word (a / 4 * 4)) (a % 4)

/-- Bytes lo to lo + n - 1 of the destination written with the source as it stands. -/
def Dev.dmaMove (d : Dev) (m : Memory) (c lo n : Nat) (data : List Byte) : Dev × Memory :=
  let l := (List.range n).map (fun i => d.dmaByte m c data (lo + i))
  let a := d.get (DMA_DST c) + lo
  if n = 0 then (d, m)
  else if d.get (DMA_CTL_DST_SPACE c) = 1 then (d, m.puts a l)
  else (d.emit (.hostBytes 0 a (l.map BitVec.toNat)), m)

/-- A copy runs in descending address order: both ends in one space, the ranges overlapping, the destination above. -/
def Dev.dmaDown (d : Dev) (c : Nat) : Bool :=
  let s := d.get (DMA_SRC c)
  let t := d.get (DMA_DST c)
  d.get (DMA_CTL_SRC_SPACE c) == d.get (DMA_CTL_DST_SPACE c) && decide (s < t) && decide (t < s + d.get (DMA_CNT c))

/-- The reads of a channel's transfer in the order of its copy (R390, R391, R393). -/
def Dev.dmaReads (d : Dev) (c : Nat) : List (Nat × Nat) :=
  let l := readPlan (d.get (DMA_SRC c)) (d.get (DMA_CNT c))
  if d.dmaDown c then l.reverse else l

/-- A source in the recorder aperture of a reach whose link has failed: its reads are answered LINK (R404, R444). -/
def Dev.dmaNoLink (d : Dev) (c : Nat) : Bool :=
  d.get (DMA_CTL_SRC_SPACE c) == 2 &&
    (match reachAt (d.get (DMA_SRC c)) with | some n => (d.rch n).isolated | none => false)

/-- A user of the hold served before it where a channel has an end in the hold; the channel has had its turn. -/
def Dev.dmaPort (d : Dev) (c : Nat) : Dev :=
  let d := if d.get (DMA_CTL_SRC_SPACE c) = 1 ∨ d.get (DMA_CTL_DST_SPACE c) = 1 then d.servePort .dma else d
  d.dmaTurn c

/-! ## Start and end (R388, R389, R394) -/

/-- The shadow set dropped where one is armed. -/
def Dev.dropShadow (d : Dev) (c : Nat) : Dev :=
  if d.on (DMA_SH_CTL_ARM c) then (d.setB (DMA_SH_CTL_ARM c) false).setB (DMA_STATUS_SH_LOST c) true else d

/-- What completion reports, with its error and the bytes left: DONE, ERR, SEQ, DMA_DONE, the message, DMA_ERR; the channel
IDLE, an armed shadow set dropped by an error. -/
def Dev.dmaReport (d : Dev) (c err left addr : Nat) : Dev :=
  let d := d.freeReads c
  let d := d.sets [(DMA_STATUS_STATE c, 2), (DMA_STATUS_DONE c, 1), (DMA_REMAIN c, left),
    (DMA_STATUS_SEQ c, d.get (DMA_STATUS_SEQ c) + 1), (DMA_DONE, putBit (d.get DMA_DONE) c true)]
  let d := if err = 0 then d else d.set (DMA_STATUS_ERR c) err
  let d := if d.on (DMA_CTL_IRQ_EN c) then d.msix 0 (d.get (DMA_CTL_VEC c)) else d
  if err = 0 then d else (d.dropShadow c).raise 83 13 (2 + c / 16) 0 [addr % 2 ^ 32]

/-- A transfer starts: it ends at once where a range, or a coherent source outside every window, bars it; else the channel is
BUSY and takes the read slots it can; a coherent source is read in whole units too. (Log entry 63 DESIGN CHOICE.) -/
def Dev.dmaBegin (d : Dev) (c : Nat) : Dev :=
  let d := d.set (DMA_REMAIN c) (d.get (DMA_CNT c))
  let e := d.dmaErr c
  if e ≠ 0 then d.dmaReport c e (d.get (DMA_CNT c)) (d.get (DMA_SRC c))
  else if d.get (DMA_CTL_SRC_SPACE c) = 0 ∧ d.on (DMA_CTL_SRC_COH c) = true then
    let a := d.get (DMA_SRC c) / 64 * 64
    let r := d.cohRead 0 a (ceilMul (d.get (DMA_SRC c) + d.get (DMA_CNT c)) 64 - a)
    if r.2 then (r.1.set (DMA_STATUS_STATE c) 3).issueReads c (d.dmaReads c) false
    else r.1.dmaReport c 1 (d.get (DMA_CNT c)) (d.get (DMA_SRC c))
  else (d.set (DMA_STATUS_STATE c) 3).issueReads c (d.dmaReads c) (d.get (DMA_CTL_SRC_SPACE c) == 0)

/-- The shadow set copied to the active set and started. -/
def Dev.dmaChain (d : Dev) (c : Nat) : Dev :=
  let d := d.sets [(DMA_SRC c, d.get (DMA_SH_SRC c)), (DMA_DST c, d.get (DMA_SH_DST c)), (DMA_CNT c, d.get (DMA_SH_CNT c)),
    (DMA_CTL_SRC_SPACE c, d.get (DMA_SH_CTL_SRC_SPACE c)), (DMA_CTL_DST_SPACE c, d.get (DMA_SH_CTL_DST_SPACE c)),
    (DMA_CTL_SRC_COH c, d.get (DMA_SH_CTL_SRC_COH c)), (DMA_CTL_IRQ_EN c, d.get (DMA_SH_CTL_IRQ_EN c)),
    (DMA_CTL_VEC c, d.get (DMA_SH_CTL_VEC c)), (DMA_SH_CTL_ARM c, 0)]
  d.dmaBegin c

/-- A transfer of a BUSY channel ends; an armed shadow set follows one without error. (Log entry 63 DESIGN CHOICE.) -/
def Dev.dmaEnd (d : Dev) (c err left addr : Nat) : Dev :=
  let armed := d.on (DMA_SH_CTL_ARM c) && err == 0
  let d := d.dmaReport c err left addr
  if armed then d.dmaChain c else d

/-- A write of START. (Log entry 63 DESIGN CHOICE.) -/
def Dev.rowDmaStart (d : Dev) (c : Nat) : Dev :=
  if d.dmaCompat then d
  else if d.get (DMA_STATUS_STATE c) ≠ 2 then d.badEncoding
  else (d.sets [(DMA_STATUS_DONE c, 0), (DMA_STATUS_ERR c, 0)]).dmaBegin c

/-- A write of ARM: on an idle channel the shadow set starts at once, on a disabled one it is dropped. (Log entry 63 DESIGN CHOICE.) -/
def Dev.rowDmaArm (d : Dev) (c : Nat) : Dev :=
  if !d.dmaCompat then d
  else if d.on (DMA_SH_CTL_ARM c) then d.badEncoding
  else match d.get (DMA_STATUS_STATE c) with
  | 2 => d.dmaChain c
  | 3 => d.setB (DMA_SH_CTL_ARM c) true
  | _ => d.setB (DMA_STATUS_SH_LOST c) true

/-- The transfer of a BUSY channel completes: err 0, or READ, WRITE, POISON, HOLD with the bytes left and the failing
address. What was written is the first part of the range, in a descending copy the last. Reads that a failed link answers end it
with READ before any byte. -/
def Dev.rowDmaComplete (d : Dev) (m : Memory) (c err left addr : Nat) (data : List Byte) : Dev × Memory :=
  if d.get (DMA_STATUS_STATE c) ≠ 3 ∨ ([0, 1, 2, 5, 6] : List Nat).contains err = false then (d, m) else
  let n := d.get (DMA_CNT c)
  let d := d.dmaPort c
  if d.dmaNoLink c then
    let a := d.get (DMA_SRC c)
    (((d.respond (2 + c / 16) (targetAt a) 2 a false).dmaEnd c 1 n a), m)
  else
  let left := if err = 0 then 0 else min left n
  let d := if err = 0 ∧ d.get (DMA_CTL_SRC_SPACE c) = 0 ∧ d.on (DMA_CTL_SRC_COH c) = false then d.issueRest c (d.dmaReads c) else d
  let r := d.dmaMove m c (if d.dmaDown c then left else 0) (n - left) data
  (r.1.dmaEnd c err left addr, r.2)

/-! ## Disabling (R392) -/

/-- A channel stopped: DRAINING while BUSY, with DMA_REMAIN left open; DISABLED from IDLE. -/
def Dev.dmaStop (d : Dev) (c : Nat) : Dev :=
  let d := (d.setB (DMA_CTL_DIS c) true).dropShadow c
  match d.get (DMA_STATUS_STATE c) with
  | 3 => (((d.freeReads c).set (DMA_STATUS_STATE c) 1).set (DMA_REMAIN c) (Config.freeNat d.fresh)).useFresh
  | 2 => d.set (DMA_STATUS_STATE c) 0
  | _ => d

/-- Channels of a DMA port stopped. -/
def Dev.dmaStopAll (d : Dev) (l : List Nat) : Dev := l.foldl (fun d c => d.dmaStop c) d

/-- The destination bytes of a stopped transfer that are new: places in the range, with host data for each. -/
def Dev.dmaParts (d : Dev) (m : Memory) (c : Nat) : List (Nat × Byte) → Dev × Memory
  | [] => (d, m)
  | (i, b) :: l =>
    if i < d.get (DMA_CNT c) then
      let r := d.dmaMove m c i 1 (List.replicate i 0 ++ [b])
      r.1.dmaParts r.2 c l
    else d.dmaParts m c l

/-- A write of DIS. The first channel enabled takes a DMA_MODE that waits (R386). (Log entry 63 DESIGN CHOICE.) -/
def Dev.rowDmaDis (d : Dev) (m : Memory) (c : Nat) (on : Bool) (done : List (Nat × Byte)) : Dev × Memory :=
  if on then
    if d.get (DMA_STATUS_STATE c) = 3 then
      let r := (d.dmaPort c).dmaParts m c done
      (r.1.dmaStop c, r.2)
    else (d.dmaStop c, m)
  else if d.get (DMA_STATUS_STATE c) = 0 then
    let d := if (List.range 64).all (fun j => d.get (DMA_STATUS_STATE j) == 0) then d.takeWaiting (fun k => k == manKey 1 0 14) else d
    (d.sets [(DMA_CTL_DIS c, 0), (DMA_STATUS_STATE c, 2)], m)
  else (d, m)

/-- The last outstanding read of a DRAINING channel has returned or failed. -/
def Dev.rowDmaDrained (d : Dev) (c : Nat) : Dev := if d.get (DMA_STATUS_STATE c) = 1 then d.set (DMA_STATUS_STATE c) 0 else d

/-! ## The hold lost, poison (R383, R384, R442) -/

/-- A table at the loss of the hold: one READY, HELD or loading FAILED, one streaming HELD for good, one held wholly in the step
cache runs on. -/
def Dev.tableLost (d : Dev) (n : Nat) : Dev :=
  match d.get (TID_TBL_STATUS_STATE n) with
  | 0 => d
  | 4 =>
    (match d.slotOf n, d.table n with
      | some s, some t =>
        if 8192 < t.steps.length then d.holdTable s true
        else { d with hld := { d.hld with cached := d.hld.cached ++ [n] } }
      | _, _ => d)
  | 5 =>
    (match d.slotOf n with
      | some s =>
        (match d.run s with
          | some u => ((d.endRun s 6 6).failOps u 6).tblEvent n ((d.table n).map (·.owner) |>.getD 0) 0x12
          | none => d)
      | none => d)
  | 6 => d
  | _ => d.failLoad n 6 ((d.table n).bind (fun t => t.loadOp))

/-- A DMA channel at the loss: one with an end in the hold ends with HOLD; left: the bytes it has not written. -/
def Dev.dmaLost (d : Dev) (left : List (Nat × Nat)) (c : Nat) : Dev :=
  if d.dmaInHold c then
    d.dmaEnd c 6 (min ((look left c).getD (d.get (DMA_CNT c))) (d.get (DMA_CNT c))) (d.get (DMA_DST c))
  else d

/-- What a channel at the loss has written to host memory. -/
def Dev.dmaLostMove (d : Dev) (m : Memory) (left : List (Nat × Nat)) (c : Nat) : Dev :=
  if d.dmaInHold c && d.get (DMA_CTL_DST_SPACE c) == 0 then
    let n := d.get (DMA_CNT c)
    let k := min ((look left c).getD n) n
    (d.dmaMove m c 0 (n - k) []).1
  else d

/-- The hold is lost. (Log entry 51 DESIGN CHOICE.) -/
def Dev.rowHoldLoss (d : Dev) (m : Memory) (left : List (Nat × Nat)) : Dev :=
  if d.get HLD_STATUS_STATE ≠ 2 then d else
  let order := d.dmaOrder
  let d := order.foldl (fun d c => d.dmaLostMove m left c) d
  let d := { (d.sets [(HLD_STATUS_STATE, 3), (HLD_STATUS_RATE, 0), (HLD_STATUS_WIDTH, 0), (HLD_STATUS_FLUSH_BUSY, 0)]) with
             hld := { d.hld with lost := true, flush := [] } }
  let d := (List.range 1024).foldl (fun d n => d.tableLost n) d
  let d := (List.range 12).foldl (fun d n => d.endSpill n) d
  let d := order.foldl (fun d c => d.dmaLost left c) d
  d.raise 82 0 0 0 []

/-- Poison or a media error on a hold read. -/
def Dev.rowHoldPoison (d : Dev) (m : Memory) (u : HoldUser) : Dev × Memory :=
  if !d.holdUp then (d, m) else
  let d := d.inc HLD_CNT_POISON
  match u with
  | .table => (d.raise 69 12 1 0 [], m)
  | .wear i =>
    let c := d.cell i.val
    let d := d.setCell i.val { c with poison := c.poison + 1 }
    (if 3 ≤ c.poison + 1 then d.setB (FAB_BLK_STATUS_WEAR_LOST (cellBlk i.val)) true else d, m)
  | .dma c left addr => if d.get (DMA_CTL_SRC_SPACE c.val) = 1 then d.rowDmaComplete m c.val 5 left addr [] else (d, m)

/-! ## The commands -/

/-- HOLD_LOSS (R383): the hold is lost; HLD_LOSS is raised and its users react. -/
def execHoldLoss (left : List (Nat × Nat)) (s : State) : Ans := s.updMem (fun d m => (d.rowHoldLoss m left, m))

/-- HOLD_POISON (R384): A hold read returns poison or a media error and its consumer reacts. -/
def execHoldPoison (u : HoldUser) (s : State) : Ans := s.updMem (fun d m => d.rowHoldPoison m u)

/-- DMA_START (R388): A write of DMA_CTL.START in IDLE starts a native-mode transfer after its range checks. -/
def execDmaStart (r : Requester) (c : Fin 64) (s : State) : Ans := s.own r (0x80114 + c.val * 0x40) (fun d => d.rowDmaStart c.val)

/-- DMA_ARM (R389): A write of DMA_SH_CTL.ARM arms the shadow set, starting it at once on an idle channel. -/
def execDmaArm (r : Requester) (c : Fin 64) (s : State) : Ans := s.own r (0x80134 + c.val * 0x40) (fun d => d.rowDmaArm c.val)

/-- DMA_DISABLE (R392): A write of DMA_CTL.DIS stops a channel at once, or a write of 0 returns it to IDLE. -/
def execDmaDisable (r : Requester) (c : Fin 64) (on : Bool) (done : List (Nat × Byte)) (s : State) : Ans := s.ownMem r (0x80114 + c.val * 0x40) (fun d m => d.rowDmaDis m c.val on done)

/-- DMA_DRAINED (R392): the last outstanding read of a disabled channel returns and it becomes DISABLED. -/
def execDmaDrained (c : Fin 64) (s : State) : Ans := s.upd (fun d => d.rowDmaDrained c.val)

/-- DMA_COMPLETE (R394): A transfer completes; DONE, SEQ and DMA_DONE are set and the message sent, starting an armed
shadow set. -/
def execDmaComplete (c : Fin 64) (err : Nat) (left : Nat) (addr : Nat) (data : List Byte) (s : State) : Ans := s.updMem (fun d m => d.rowDmaComplete m c.val err left addr data)

end Sys2Proof.Machine
end

