-- ==== Sys2Proof/Machine/FaultRows.lean ====
section
/-! DEFINITION. The commands of the fault collector: faults, timers, acknowledgement, module safe, BELL and the logbook (R287-R303). -/

namespace Sys2Proof.Machine

/-! ## Faults (R287-R292, R296) -/

/-- Order within a tick: ascending class, then ascending location (R292). -/
def FaultIn.before (a b : FaultIn) : Bool :=
  decide (a.cls < b.cls) || (a.cls == b.cls && (decide (a.unit < b.unit) || (a.unit == b.unit && decide (a.index ≤ b.index))))

/-- One fault: an ADVISORY of CELL_WEAR is logged at L0 only; FLT_SELF is the disagreement of the collector's halves,
which stops BELL (R296, R300). (Log entry 34 DESIGN CHOICE.) -/
def Dev.oneFault (d : Dev) (f : FaultIn) : Dev :=
  if f.cls = 4 ∧ f.sub = 1 then d.logL0 4 f.unit f.index 1 (d.snap f.unit f.index f.detail)
  else
    let d := d.raise f.cls f.unit f.index f.sub f.detail
    if f.cls = 120 then ({ d with flt := { d.flt with agree := false } }).setB FLT_STATUS_BELL_RUN false else d

/-- FAULT: the faults that arrive in one tick (R292). -/
def Dev.rowFault (d : Dev) (l : List FaultIn) : Dev := (l.mergeSort FaultIn.before).foldl (fun d f => d.oneFault f) d

/-- A class timer expires (R289): the level becomes E, the expiry is logged at the opening location. (Log entry 34 DESIGN CHOICE.) -/
def Dev.rowTimer (d : Dev) (c : Nat) : Dev :=
  let o := d.occ c
  match o.deadline, (classRow c).bind (fun (r : ClassRow) => r.e) with
  | some t, some e =>
    let d := d.atTick t
    let d := d.logIt c 2 e 0 o.unit o.index (List.replicate 10 0)
    let d := d.setOcc c { o with level := e, deadline := none }
    let d := if 2 ≤ e ∧ o.level < 2 then d.actAll c o.locs else d
    d.atLevel c e
  | _, _ => d

/-! ## Acknowledgement (R291, R294) -/

/-- Another open occurrence at L2 or above bars the port at this location. -/
def Dev.stillBarred (d : Dev) (ix : Nat) : Bool :=
  [8, 9, 10].any (fun c => decide (2 ≤ (d.occ c).level) && (d.occ c).locs.contains (2, ix))

/-- The action of a class at one location lifts, where it lasts until acknowledged. (Log entry 23 DESIGN CHOICE.) -/
def Dev.lift (d : Dev) (cls unit ix : Nat) : Dev :=
  match actAt cls unit with
  | some .portDrain =>
    if d.stillBarred ix then d
    else if ix < 512 then d.setInP ix { d.inP ix with barred := false }
    else d.setOutP (ix - 512) { d.outP (ix - 512) with barred := false }
  | some .blkMoor => (d.setMoor ix 1 false).refresh.capacity
  | some .rchMoor => ((List.range 8).foldl (fun d j => d.setMoor (8 * ix + j) 2 false) d).refresh.capacity
  | some .heatMin => d.setRch ix { d.rch ix with heatMin := false }
  | some .lampOff =>
    let d := (d.setLamp { d.fab.lamp with off := false }).shine (if d.still then .dark else .minimum)
    (d.allTkts.filter (fun x => x.2.srcLamp && x.2.inPlace)).foldl (fun d x => d.gate (x.2.src % 32) true) d
  | some .suspend => { d with tim := { d.tim with hold := false } }
  | some .unitOff =>
    if cls = 82 then
      ({ d with hld := { d.hld with off := false } }).set HLD_STATUS_STATE (if d.get HLD_STATUS_STATE = 3 then 1 else d.get HLD_STATUS_STATE)
    else if cls = 96 then
      let k := if ix < 16 then ix / 2 else ix - 16
      let p := d.fryP k
      if !p.off then d else
      let d := d.setFryP k { p with off := false }
      if d.on (FRY_PORT_CTL_ENABLE k) && p.cause != 0 then d.set (FRY_PORT_STATUS_CAUSE k) p.cause
      else ((d.set (FRY_PORT_STATUS_STATE k) 0).set (FRY_PORT_STATUS_CAUSE k) 0).tryTrain k
    else if cls = 41 ∧ unit = 7 then d.setConv (ix - 768) { d.conv (ix - 768) with fault := false }
    else d
  | _ => d

/-- ACKNOWLEDGE: the occurrence closes, its timer stops, what lasts until acknowledged lifts. A number without a class
is a reserved encoding. -/
def Dev.rowAck (d : Dev) (c : Nat) : Dev :=
  if (classRow c).isNone then d.badEncoding else
  let o := d.occ c
  if o.level = 0 then d else
  let d := d.setOcc c occ0
  let d := if 2 ≤ o.level then o.locs.foldl (fun d (x : Nat × Nat) => d.lift c x.1 x.2) d else d
  d.updFaultN

/-! ## Module safe (R297, R298) -/

/-- System crossings under module safe: a GO is withdrawn and reported, NO is voted on what is pending (R298). -/
def Dev.safeSys (d : Dev) : Dev :=
  let ids := (d.tide.sys.cells.filterMap (fun (c : Nat × Option Sys) => c.2)).map (fun s => s.id)
  ids.foldl (fun d id =>
    match d.sysX id with
    | none => d
    | some s =>
      if s.part.isSome && (s.go || s.decision == some true) then d.decisionLost id s
      else d.considerVote id) d

/-- An outstanding operation ends with CANCELLED: its tickets not placed yet are FREE. -/
def Dev.cancelOp (d : Dev) (o : Op) : Dev :=
  let d := o.makes.foldl (fun d t => if (d.tkt t).state = 1 then d.freeTkt t 0 else d) d
  d.finish o 0x11 0 0

/-- Within 100 us of module safe: tickets STRANDED with PARK and their events, running tables FAILED, operations
CANCELLED, nothing left of any crossing or restoration. -/
def Dev.rowStrand (d : Dev) : Dev :=
  if !d.safe then d else
  let d := d.safeSys
  let d := (List.range 4).foldl (fun d s => if (d.run s).isSome then d.endRun s 6 0 else d) d
  let d := (d.allTkts.filter (fun x => x.2.state == 2 || x.2.inPlace)).foldl (fun d x => d.strandTkt x.1 3) d
  let d := d.allOps.foldl (fun d o => d.cancelOp o) d
  let d := { d with cmd := { d.cmd with xings := Tab.empty, heads := Tab.empty, ready := Tab.empty, solving := none }
                    tk := { d.tk with gather := [], gMoves := [], gBreaks := [], gRoom := [] } }
  (d.setList []).setB CMD_STATUS_RESTORE_RUN false

/-! ## BELL and the logbook (R300, R303) -/

/-- BELL changes level every 500 us of time-island ticks while it runs. -/
def Dev.rowBell (d : Dev) : Dev :=
  if d.safe || !d.flt.agree || d.rst.phase != 0 || d.rst.rstn then d.setB FLT_STATUS_BELL_RUN false
  else
    let d := d.atTick ((d.tick / 500000 + 1) * 500000)
    let b := !d.flt.bell
    (({ d with flt := { d.flt with bell := b } }).setB FLT_STATUS_BELL_RUN true).emit (.pin 0 b)

/-- UNFREEZE: ignored while L3 or L4 holds; otherwise the store is empty and unfrozen, the cause and its time 0. (Log entry 35 DESIGN CHOICE.) -/
def Dev.rowUnfreeze (d : Dev) : Dev :=
  if d.safe then d else
  let d := { d with flt := { d.flt with log := Tab.empty } }
  d.sets [(FLT_STATUS_FROZEN, 0), (FLT_SAFE_CAUSE_CLASS, 0), (FLT_SAFE_CAUSE_LEVEL, 0), (FLT_SAFE_CAUSE_VALID, 0),
    (FLT_SAFE_TIME, 0), (FLT_LOG_HEAD_NEXT, 0), (FLT_LOG_HEAD_WRAPPED, 0)]

/-! ## The commands -/

/-- FAULT (R287): A detected error reaches the fault collector and opens, joins or is logged against its class
occurrence. -/
def execFault (faults : List FaultIn) (s : State) : Ans := s.upd (fun d => d.rowFault faults)

/-- SAFE_TICKETS_STRANDED (R297): within 100 us of module safe every in-place ticket is STRANDED with PARK and
outstanding operations cancel. -/
def execSafeTicketsStranded (s : State) : Ans := s.upd (fun d => d.rowStrand)

/-- CLASS_TIMER_EXPIRY (R289): A class timer expires before acknowledgement; the level becomes E and the expiry is
logged. -/
def execClassTimerExpiry (c : Fin 128) (s : State) : Ans := s.upd (fun d => d.rowTimer c.val)

/-- ACKNOWLEDGE (R291): A write to FLT_ACK with GO closes the named class's occurrence and lifts its acknowledged
actions. -/
def execAcknowledge (r : Requester) (c : Fin 128) (s : State) : Ans := s.own r 0x6000C (fun d => d.rowAck c.val)

/-- UNFREEZE (R303): A write of FLT_CTL.UNFREEZE empties and unfreezes the logbook unless the module is safe. -/
def execUnfreeze (r : Requester) (s : State) : Ans := s.own r 0x60004 (fun d => d.rowUnfreeze)

/-- BELL_TOGGLE (R300): BELL changes level every 500 us, counted on the time-island clock, while no L3 or L4 holds and
the fault-collector halves agree. -/
def execBellToggle (s : State) : Ans := s.upd (fun d => d.rowBell)

end Sys2Proof.Machine
end

