-- ==== Sys2Proof/Machine/Msix.lean ====
section
/-! DEFINITION. The MSI-X structures: PF0's table and pending bits in BAR2, a VF's in its BAR0, and their enable and mask in configuration space (R360, R361, R363, R502). -/

namespace Sys2Proof.Machine

/-- Where a function's offset falls in its MSI-X structures: an entry of 16 bytes and the 32-bit word in it, a word of the pending bits, or what
is reserved there. PF0's BAR2 stands at offset 0x4000000, after its BAR0. (Log entry 97 PRESUMED.) -/
inductive MsixPlace where
  | table (vec word : Nat)
  | pba (word : Nat)
  | reserved
  deriving DecidableEq, Repr

/-- The place that a function's offset names, if it lies in its MSI-X structures. -/
def msixPlace (r : Requester) (off : Nat) : Option MsixPlace :=
  match r with
  | .master _ => none
  | .fn f =>
    if f.val = 0 then
      if off < 0x4000000 ∨ 0x4010000 ≤ off then none
      else if off < 0x4008000 then some (.table ((off - 0x4000000) / 16) (off % 16 / 4))
      else if off < 0x4008100 then some (.pba ((off - 0x4008000) / 4))
      else some .reserved
    else if 0x4000 ≤ off ∧ off < 0x4080 then some (.table ((off - 0x4000) / 16) (off % 16 / 4))
    else if 0x4800 ≤ off ∧ off < 0x4808 then some (.pba ((off - 0x4800) / 4))
    else none

/-- A 32-bit word of the structures as function f reads it: message address, its upper half, message data, vector control; pending bits. (Log entry 97 PRESUMED.) -/
def Dev.msixWord (d : Dev) (f : Nat) : MsixPlace → Nat
  | .table v 0 => (d.msixEnt f v).addr % 2 ^ 32
  | .table v 1 => (d.msixEnt f v).addr / 2 ^ 32
  | .table v 2 => (d.msixEnt f v).data
  | .table v _ => b2n (d.msixEnt f v).mask
  | .pba w => (List.range 32).foldl (fun n j => putBit n j (d.msixEnt f (32 * w + j)).pend) 0
  | .reserved => 0

/-- A pending message of a vector sent once nothing masks it any more. (Log entry 97 PRESUMED.) -/
def Dev.msixFlush (d : Dev) (f v : Nat) : Dev :=
  if (d.msixEnt f v).pend && d.msixOpen f v then (d.setMsix f v { d.msixEnt f v with pend := false }).msix f v else d

/-- A 32-bit word of the structures written: the pending bits take none. (Log entry 97 PRESUMED.) -/
def Dev.msixWrite (d : Dev) (f x : Nat) : MsixPlace → Dev
  | .table v w =>
    let e := d.msixEnt f v
    let x := x % 2 ^ 32
    let e := match w with
      | 0 => { e with addr := putBits e.addr 0 32 (x / 4 * 4) }
      | 1 => { e with addr := putBits e.addr 32 32 x }
      | 2 => { e with data := x }
      | _ => { e with mask := bit x 0 }
    (d.setMsix f v e).msixFlush f v
  | .pba _ => d
  | .reserved => d

/-- A write of one word, or of two, at a function's offset in its structures. -/
def Dev.rowMsixWrite (d : Dev) (r : Requester) (off : Nat) (wide : Bool) (x : Nat) : Dev :=
  let put := fun (d : Dev) (off x : Nat) => match msixPlace r off with
    | some p => d.msixWrite (reqKey r) x p
    | none => d
  let d := put d off x
  if wide then put d (off + 4) (x / 2 ^ 32) else d

/-- The MSI-X enable and function mask of a function written in its configuration space: what waits is sent where nothing masks it any
more; a function that is not enabled sends nothing and has nothing pending. (Log entry 97 PRESUMED.) -/
def Dev.msixControl (d : Dev) (f : Nat) (on mask : Bool) : Dev :=
  let d := { d with hst := { d.hst with msixCtl := d.hst.msixCtl.put 0 f (b2n on + 2 * b2n mask) } }
  if on then (List.range (msixCount f)).foldl (fun d v => d.msixFlush f v) d
  else (List.range (msixCount f)).foldl (fun d v => d.setMsix f v { d.msixEnt f v with pend := false }) d

/-- The structures of the functions picked as a reset of their configuration leaves them: every vector masked, MSI-X not enabled. (Log entry 97 PRESUMED.) -/
def Dev.msixReset (d : Dev) (p : Nat → Bool) : Dev :=
  { d with hst := { d.hst with msix := d.hst.msix.dropWhen (fun k => p (k / 2048)), msixCtl := d.hst.msixCtl.dropWhen p } }

end Sys2Proof.Machine
end

