-- ==== Sys2Proof/Machine/Telemetry.lean ====
section
/-! DEFINITION. Telemetry frames and history records (R11, R351, R352, R382, R383). -/

namespace Sys2Proof.Machine

/-- A 32-bit register as it reads, nothing cleared (R11). -/
def Dev.peek (d : Dev) (off : Nat) : Nat := (d.shown off).rawReg off

/-- The tickets in a state. -/
def Dev.countIn (d : Dev) (st : Nat) : Nat := (d.allTkts.filter (fun x => x.2.state == st)).length

/-- The words of a TELEMETRY frame from 0x10 to 0x7B (R351). (Log entry 65 DESIGN CHOICE.) -/
def Dev.telWords (d : Dev) : List Nat :=
  [stampOf d.now % 2 ^ 32, stampOf d.now / 2 ^ 32, d.peek 0x60000, d.peek 0x20000, d.peek 0x50004, d.peek 0x50034,
   d.countIn 3 + d.countIn 4 * 2 ^ 16, d.countIn 5 + d.get FRY_STATUS_PORT_UP * 2 ^ 16,
   d.get XNG_CNT_DONE % 2 ^ 32, d.get XNG_CNT_DONE / 2 ^ 32] ++ List.replicate 17 0

/-- The register group of ferry port k as words. -/
def Dev.portWords (d : Dev) (k : Nat) : List Nat := (List.range 16).map (fun q => d.peek (0x70100 + k * 0x40 + q * 4))

/-- A frame's payload up to its CRC: 128 bytes, and 64 for each port set in PORTS; the CRC takes the place of the last
reserved word. -/
def Dev.telPayload (d : Dev) : List Nat :=
  (d.telWords ++ (if d.get FRY_TEL_PORTS = 0 then [] else 0 :: ((bitList (d.get FRY_TEL_PORTS) 8).flatMap d.portWords).dropLast))

/-- TELEMETRY_SEND: INT_MS after the last one, while EN is set. (Log entry 65 DESIGN CHOICE.) -/
def Dev.rowTelSend (d : Dev) : Dev :=
  if !d.on FRY_TEL_CFG_EN then d else
  let d := match d.fry.telAt with
    | some t => d.atTick (t + d.get FRY_TEL_CFG_INT_MS * 1000000)
    | none => d
  ({ d with fry := { d.fry with telAt := some d.tick } }).sendFrame 0x40 (d.get FRY_TEL_CFG_DST) d.telPayload

/-- A TELEMETRY frame for this module: written to the next slot of the ring, dropped and counted while the ring is full or
not enabled. (Log entry 65 DESIGN CHOICE.) -/
def Dev.takeTel (d : Dev) (f : Frame) : Dev :=
  let n := 2 ^ (d.get FRY_TEL_RING_CFG_SIZE + 4)
  let t := d.get FRY_TEL_RING_TAIL
  if !d.on FRY_TEL_RING_CFG_EN ∨ (t + 1) % n = d.get FRY_TEL_RING_HEAD % n then d.inc FRY_TEL_CNT_DROP
  else ((d.emit (.hostWrite 0 (d.get FRY_TEL_RING_BASE * 1024 + t * 1024) (frameWords f))).set FRY_TEL_RING_TAIL ((t + 1) % n)).msix 0
    (d.get FRY_TEL_RING_CFG_VEC)

/-- TELEMETRY: such a frame arrives on a port. -/
def Dev.rowTel (d : Dev) (k : Nat) (f : Frame) : Dev := d.receiveAs 0x40 k f (fun d => d.takeTel f)

/-- HISTORY_RECORD: MS after the last one, a record of 128 bytes is written at its place while the hold is UP; while it is
lost only its number goes on. The last word stands where a frame has its CRC: a free value. (Log entry 52 DESIGN CHOICE.) -/
def Dev.rowHist (d : Dev) (m : Memory) : Dev × Memory :=
  let st := d.get HLD_STATUS_STATE
  if !(d.on HLD_CTL_EN) ∨ (st ≠ 2 ∧ st ≠ 3) then (d, m) else
  let d := match d.hld.histAt with
    | some t => d.atTick (t + d.get HLD_HIST_CFG_MS * 1000000)
    | none => d
  let d := { d with hld := { d.hld with histAt := some d.tick } }
  let d := d.servePort .history
  let n := d.get HLD_HIST_HEAD
  let e := d.set HLD_HIST_HEAD (n + 1)
  if st = 3 then (e, m) else
  let l := [n % 2 ^ 32, n / 2 ^ 32, 0, 0] ++ d.telWords ++ [Config.freeNat d.fresh % 2 ^ 32]
  (e.useFresh, m.puts (d.get HLD_HIST_BASE + n % (d.get HLD_HIST_CFG_MIB * 8192) * 128) (l.flatMap (fun w => bytesOf w 4)))

/-! ## The commands -/

/-- TELEMETRY_SEND (R351): A TELEMETRY frame is built and sent to DST every INT_MS. -/
def execTelemetrySend (s : State) : Ans := s.upd (fun d => d.rowTelSend)

/-- TELEMETRY (R351): A received TELEMETRY frame is written to PF0's telemetry ring, or dropped when full. -/
def execTelemetry (k : Fin 8) (f : RawFrame) (s : State) : Ans := s.upd (fun d => d.rowTel k.val (readFrame f))

/-- HISTORY_RECORD (R382): every HLD_HIST_CFG.MS the device appends a history record to the hold. -/
def execHistoryRecord (s : State) : Ans := s.updMem (fun d m => d.rowHist m)

end Sys2Proof.Machine
end

