-- ==== Sys2Proof/Machine/HostIf.lean ====
section
/-! DEFINITION. The host link, the management port and the I2C sideband (R356-R374): training, configuration requests, function resets and power states, failed traffic, snoops, ARP, the pointer and its bytes. -/

namespace Sys2Proof.Machine

/-! ## Functions (R359, R371, R457) -/

/-- The link to the host is up. -/
def Dev.linkUp (d : Dev) : Bool := d.on HST_STATUS_LINK_UP

/-- A function exists: PF0 always, a VF while VF Enable is 1 and NumVFs reaches it. -/
def Dev.hasFn (d : Dev) (f : Nat) : Bool := f == 0 || (d.hst.vfEn && decide (f ≤ d.hst.numVfs))

/-- The host can change a function's configuration: its requests are answered, and the function exists. -/
def Dev.confOk (d : Dev) (f : Nat) : Bool := d.linkUp && d.on RST_STATUS_BOOT_DONE && d.hasFn f

/-- An FLR of a function: its rings, and it is in D0. Of PF0 it takes every VF with it, clears VF Enable and disables every DMA
channel (R234, R371, R392). -/
def Dev.rowFlr (d : Dev) (f : Nat) : Dev :=
  if !d.confOk f then d else
  let d := (d.flrFn f).msixReset (fun k => f == 0 || k == f)
  if f = 0 then
    let d := { d with hst := { d.hst with d3 := [], vfEn := false } }
    [2, 3, 4, 5].foldl (fun d k => d.masterReset k) (d.dmaStopAll (List.range 64))
  else { d with hst := { d.hst with d3 := d.hst.d3.erase f } }

/-- A function enters D3hot, where it fetches nothing; or returns to D0, with No_Soft_Reset 0 as by an FLR, else its fetching
goes on. -/
def Dev.rowPower (d : Dev) (f : Nat) (d3 noSoft : Bool) : Dev :=
  if !d.confOk f then d
  else if d3 then { d with hst := { d.hst with d3 := f :: d.hst.d3.erase f } }
  else if !d.hst.d3.contains f then d
  else if !noSoft then d.rowFlr f
  else
    let d := { d with hst := { d.hst with d3 := d.hst.d3.erase f } }
    let d := d.askEntry f
    if f = 0 then d.askEntry 64 else d

/-- What a function's configuration space reads (R357, R359). (Log entry 59 PRESUMED.) -/
def Dev.confWord (d : Dev) (f : Nat) : ConfReg → Nat
  | .deviceId => if f = 0 then 0x0512 else 0x0513
  | .classCode => 0x120000
  | .totalVfs => 63
  | .initialVfs => 63
  | .firstVf => 1
  | .vfStride => 1
  | .numVfs => d.hst.numVfs
  | .vfEnable => b2n d.hst.vfEn
  | .cxlCap => 3

/-- A configuration request: retried before BOOT_DONE, answered from then on. NumVFs takes 1 to 63 while VF Enable is 0; VFs that
cease to exist return in D0; a plain PCIe endpoint has no CXL.cache to enable. (Log entry 59 PRESUMED.) -/
def Dev.rowConf (d : Dev) (f : Nat) (c : ConfReq) : Dev :=
  if !d.linkUp then d
  else if !d.on RST_STATUS_BOOT_DONE then d.emit (.pcie 2 0)
  else if !d.hasFn f then d.emit (.pcie 0 0)
  else
    let d := d.emit (.pcie 3 (match c with | .read reg => d.confWord f reg | _ => 0))
    match c with
    | .other => d
    | .read _ => d
    | .msix on mask => d.msixControl f on mask
    | .numVfs n => if f ≠ 0 then d else if d.hst.vfEn || n == 0 || decide (63 < n) then d else { d with hst := { d.hst with numVfs := n } }
    | .vfEnable on => if f ≠ 0 then d else
      let d := if on then d else d.msixReset (fun k => k != 0)
      { d with hst := { d.hst with vfEn := on, d3 := if on then d.hst.d3 else d.hst.d3.filter (· == 0) } }
    | .cacheEnable on => if f ≠ 0 then d else d.setB HST_STATUS_CACHE_EN (on && !d.on HST_STATUS_PCIE_ONLY)

/-! ## The link (R356, R357) -/

/-- RATE of HST_STATUS for a rate in GT/s; it has no code for one below 32. (Log entry 59 PRESUMED.) -/
def rateCode (rate fresh : Nat) : Nat := if rate = 64 then 2 else if rate = 32 then 1 else Config.freeNat fresh % 4

/-- CXL link training ends at a rate and a width, with or without the CXL protocols. (Log entry 72 DESIGN CHOICE.) -/
def Dev.rowTrained (d : Dev) (rate width : Nat) (cxl : Bool) : Dev :=
  if d.rst.perst || d.linkUp || d.srdsOut || !([4, 8, 16].contains width)
      || !([2, 5, 8, 16, 32, 64].contains rate) then d else
  let d := { d with hst := { d.hst with compl := false } }
  let f := d.fresh
  let d := if rate < 32 then d.useFresh else d
  d.sets [(HST_STATUS_LINK_UP, 1), (HST_STATUS_RATE, rateCode rate f), (HST_STATUS_WIDTH, width), (HST_STATUS_CACHE_EN, 0),
    (HST_STATUS_PCIE_ONLY, b2n (decide (rate < 32) || !cxl))]

/-- A host snoop: the device holds no line. -/
def Dev.rowSnoop (d : Dev) : Dev := if d.linkUp && d.on HST_STATUS_CACHE_EN then d.emit (.pcie 4 0) else d

/-! ## Malformed and failed host traffic (R368-R370); fatal: AER classes the error as fatal -/

/-- A memory request outside every BAR. -/
def Dev.rowUr (d : Dev) (f : Nat) (hdr : List Nat) (fatal : Bool) : Dev :=
  if !d.linkUp then d else (d.emit (.pcie 0 0)).hostErr 2 f hdr fatal

/-- A non-posted request has waited 4.000 us: the oldest of the function that waits in the matrix or hangs there, if one does,
is answered CA, and its own response dropped later (R406). -/
def Dev.rowHostTimeout (d : Dev) (f : Nat) (hdr : List Nat) (fatal : Bool) : Dev :=
  if !d.linkUp then d else
  let mine := fun (q : MtxReq) => masterOf q.req == 6 && reqKey q.req == f && q.wr.isNone && !q.told
  let d := match (d.mtx.waits ++ d.mtx.hung).find? mine with
    | none => d
    | some q =>
      let d := d.atTick (q.since + 4000)
      let tell := fun (x : MtxReq) => if x = q then { q with told := true } else x
      { d with mtx := { d.mtx with waits := d.mtx.waits.map tell, hung := d.mtx.hung.map tell } }
  (d.emit (.pcie 1 0)).hostErr 3 f hdr fatal

/-- A write with poisoned data. -/
def Dev.rowPoison (d : Dev) (f : Nat) (hdr : List Nat) (fatal : Bool) : Dev :=
  if d.linkUp then d.hostErr 4 f hdr fatal else d

/-- A completion that matches no request. -/
def Dev.rowUnexpected (d : Dev) (f : Nat) (hdr : List Nat) (fatal : Bool) : Dev :=
  if d.linkUp then d.hostErr 9 f hdr fatal else d

/-- A malformed TLP, or a CXL.cache protocol error. -/
def Dev.rowMalformed (d : Dev) (cache : Bool) (f : Nat) (hdr : List Nat) (fatal : Bool) : Dev :=
  if d.linkUp then d.hostErr (if cache then 11 else 10) f hdr fatal else d

/-! ## Failed reads of the device (R369) -/

/-- What a read that failed gives: nothing of it is used. -/
def noFile : HostFile := { readOk := false, bytes := [] }

/-- The operation at a tag is loading a table source. (Log entry 60 DESIGN CHOICE.) -/
def Dev.readsTable (d : Dev) (tag : Nat) : Bool :=
  match d.op tag with
  | some o => o.entry.opcode == 4 && d.acting && d.get (TID_TBL_STATUS_STATE o.tableNo) == 1
      && (match d.table o.tableNo with | some t => t.loadOp == some tag | none => false)
  | none => false

/-- The event of a read that failed, as f's. (Log entry 60 DESIGN CHOICE.) -/
def Dev.failLog (d : Dev) (kind f : Nat) (hdr : List Nat) (fatal : Bool) : Dev := d.hostErr kind f hdr fatal

/-- A read of host memory fails: the event, and READ for the operation that issued it. A read that the windows have barred
already is no further event. Without that read outstanding there is no effect. (Log entry 60 DESIGN CHOICE.) -/
def Dev.rowReadFail (d : Dev) (m : Memory) (kind : Nat) (hdr : List Nat) (fatal : Bool) (op : ReadOp) : Dev × Memory :=
  if !([5, 6, 7, 8, 12].contains kind) then (d, m) else
  match op with
  | .entry g =>
    if d.fetches g.val && d.get (SQ_HEAD g.val) != d.get (SQ_TAIL g.val) then
      ((d.failLog kind (ringFn g.val) hdr fatal).rowEntryFetch g.val none, m)
    else (d, m)
  | .list tag =>
    (match d.op tag with
      | none => (d, m)
      | some o =>
        if d.acting && d.admissible tag o.entry.opcode && decide (2 ≤ o.entry.items) then
          let d := d.setOp tag (some { o with entry := { o.entry with listOk := false } })
          ((d.failLog kind o.fn hdr fatal).admitRow tag o.entry.opcode, m)
        else (d, m))
  | .table tag =>
    let e := d.admitRow tag 4
    if e.readsTable tag then
      (match e.op tag with
        | none => (d, m)
        | some o =>
          let e := if (e.cohRead o.fn o.entry.arg20 (bits o.entry.arg 32 32)).2 then e.failLog kind o.fn hdr fatal else e
          (e.rowLoad tag noFile, m))
    else (d, m)
  | .manifest =>
    if d.on MAN_STATUS_LOAD_BUSY then
      ((if d.man.miss then d else d.failLog kind 0 hdr fatal).rowManLoaded noFile, m)
    else (d, m)
  | .calibration =>
    if d.on CAL_STATUS_LOAD_BUSY then
      ((if d.cal.miss then d else d.failLog kind 0 hdr fatal).rowCalLoaded noFile, m)
    else (d, m)
  | .proposal =>
    (match d.tps.reading with
      | some r => ((if r.2 then d.failLog kind 0 hdr fatal else d).rowStage noFile, m)
      | none => (d, m))
  | .dma c left addr data =>
    if d.get (DMA_STATUS_STATE c.val) = 3 ∧ d.get (DMA_CTL_SRC_SPACE c.val) = 0 then
      (d.failLog kind 0 hdr fatal).rowDmaComplete m c.val 1 left addr data
    else (d, m)

/-! ## The management port (R372, R373) -/

/-- A number as n bytes, highest first. -/
def netBytes (n v : Nat) : List Byte := (List.range n).map (fun k => BitVec.ofNat 8 (v / 256 ^ (n - 1 - k)))

/-- The words of an ARP reply for Ethernet and IPv4: the answerer's MAC and address, then the asker's. -/
def arpReply (mac ip toMac toIp : Nat) : List Nat :=
  leWords 7 ([0, 1, 8, 0, 6, 4, 0, 2] ++ netBytes 6 mac ++ netBytes 4 ip ++ netBytes 6 toMac ++ netBytes 4 toIp)

/-- An ARP request for the port's address, from an address and a MAC, is answered. -/
def Dev.rowArp (d : Dev) (ip sip mac : Nat) : Dev :=
  if !d.mgmtOn then d
  else if d.get HST_MGMT_IPV4 ≠ 0 ∧ ip = d.get HST_MGMT_IPV4 then
    (d.mgmtIn.inc HST_MGMT_CNT_RX).emit (.mgmt 0x0806 mac (arpReply (d.get HST_MGMT_MAC) ip mac sip))
  else d.mgmtIn.inc HST_MGMT_CNT_DROP

/-- A frame of another kind, or with a bad FCS. -/
def Dev.rowMgmtDrop (d : Dev) (fcs : Bool) : Dev :=
  if !d.mgmtOn then d else d.mgmtIn.inc (if fcs then HST_MGMT_CNT_FCS else HST_MGMT_CNT_DROP)

/-! ## The I2C sideband (R374) -/

/-- The register a pointer's register begins at, none where the map lists nothing. -/
def i2cReg (ptr : Nat) : Option Nat :=
  if ptr = 0 then some 0x0
  else if ptr = 4 then some 0x60000
  else if ptr = 8 then some FLT_SAFE_CAUSE_CLASS.off
  else if ptr = 0xC then some 0xC0004
  else if ptr = 0x10 then some 0x68000
  else if ptr = 0x14 then some 0x8000
  else if 0x20 ≤ ptr ∧ ptr < 0x40 then some ((CAL_DIE_ID 0).off + (ptr - 0x20))
  else if 0x100 ≤ ptr ∧ ptr < 0x100 + 4 * 110 then some ((THM_TEMP_REPORTED 0).off + (ptr - 0x100))
  else if 0x300 ≤ ptr ∧ ptr < 0x300 + 4 * 9 then some ((THM_SUPPLY_MV 0).off + (ptr - 0x300))
  else none

/-- The byte at the pointer: a register is read whole as the read reaches its first byte, and its bytes come from the holding
buffer. A read that starts within a register it has not buffered gives a value the spec leaves open. (Log entry 67 DESIGN CHOICE.) -/
def Dev.i2cByte (d : Dev) : Dev :=
  let p := d.hst.ptr
  let b := p / 4 * 4
  let next := fun (d : Dev) => { d with hst := { d.hst with ptr := (p + 1) % 65536 } }
  match i2cReg b with
  | none => next (d.emit (.i2c 0))
  | some off =>
    let d := if p = b then { d with hst := { d.hst with buf := some (b, d.peek off) } } else d
    match d.hst.buf with
    | some (k, w) =>
      if k = b then next (d.emit (.i2c (w / 256 ^ (p % 4) % 256)))
      else next ((d.emit (.i2c (Config.freeNat d.fresh % 256))).useFresh)
    | none => next ((d.emit (.i2c (Config.freeNat d.fresh % 256))).useFresh)

/-- n bytes read. (Log entry 67 DESIGN CHOICE.) -/
def Dev.rowI2cRead (d : Dev) : Nat → Dev
  | 0 => d
  | n + 1 => d.i2cByte.rowI2cRead n

/-- The pointer written, most significant byte first. -/
def Dev.rowI2cPtr (d : Dev) (hi lo : Byte) : Dev := { d with hst := { d.hst with ptr := hi.toNat * 256 + lo.toNat } }

/-! ## The commands -/

/-- FLR (R234): A function-level reset discards unadmitted entries, clears ring groups and keeps tickets and tolls. -/
def execFlr (f : Fin 64) (s : State) : Ans := s.upd (fun d => d.rowFlr f.val)

/-- ARP_REQUEST (R372): an ARP request for HST_MGMT_IPV4 on the management port is answered. -/
def execArpRequest (ip sip mac : Nat) (s : State) : Ans := s.upd (fun d => d.rowArp ip sip mac)

/-- MGMT_FRAME_DROP (R372): A management-port frame of another kind, or a bad seal frame, is discarded and counted. -/
def execMgmtFrameDrop (fcs : Bool) (s : State) : Ans := s.upd (fun d => d.rowMgmtDrop fcs)

/-- HOST_SNOOP (R357): A host snoop on CXL.cache is answered with RspIHitI. -/
def execHostSnoop (s : State) : Ans := s.upd (fun d => d.rowSnoop)

/-- HOST_REQUEST_TIMEOUT (R368): A non-posted host request unanswered for 4 us completes with CA. -/
def execHostRequestTimeout (f : Fin 64) (hdr : List Nat) (fatal : Bool) (s : State) : Ans := s.upd (fun d => d.rowHostTimeout f.val hdr fatal)

/-- POISON_WRITE (R368): A host write with poisoned data is discarded and reported. -/
def execPoisonWrite (f : Fin 64) (hdr : List Nat) (fatal : Bool) (s : State) : Ans := s.upd (fun d => d.rowPoison f.val hdr fatal)

/-- READ_FAIL (R369): A device read fails by UR, CA, poison, timeout or window miss and ends its operation with READ.
-/
def execReadFail (kind : Nat) (hdr : List Nat) (fatal : Bool) (op : ReadOp) (s : State) : Ans := s.updMem (fun d m => d.rowReadFail m kind hdr fatal op)

/-- UNEXPECTED_CPL (R369): A completion matching no request is discarded and reported. -/
def execUnexpectedCpl (f : Fin 64) (hdr : List Nat) (fatal : Bool) (s : State) : Ans := s.upd (fun d => d.rowUnexpected f.val hdr fatal)

/-- UR_OTHER (R368): A memory request outside every BAR, or to a VF that does not exist, is answered UR, logged as
UR_OTHER and raises HST_CXL_ERR. -/
def execUrOther (f : Fin 64) (hdr : List Nat) (fatal : Bool) (s : State) : Ans := s.upd (fun d => d.rowUr f.val hdr fatal)

/-- MALFORMED_TLP (R368): A malformed TLP or a CXL.cache protocol error is handled per CXL 3.1 and AER, logged as
MALFORMED or CACHE_PROTOCOL, and raises its class. -/
def execMalformedTlp (cache : Bool) (f : Fin 64) (hdr : List Nat) (fatal : Bool) (s : State) : Ans := s.upd (fun d => d.rowMalformed cache f.val hdr fatal)

/-- POWER_STATE_CHANGE (R371): entry into D3hot stops fetching; return to D0 without No_Soft_Reset acts as an FLR. -/
def execPowerStateChange (f : Fin 64) (d3 : Bool) (noSoft : Bool) (s : State) : Ans := s.upd (fun d => d.rowPower f.val d3 noSoft)

/-- I2C_POINTER_WRITE (R374): an I2C write of two bytes sets the sideband pointer. -/
def execI2cPointerWrite (hi : Byte) (lo : Byte) (s : State) : Ans := s.upd (fun d => d.rowI2cPtr hi lo)

/-- I2C_READ (R374): an I2C read returns bytes from the pointer onward, buffering each register at its first byte. -/
def execI2cRead (n : Nat) (s : State) : Ans := s.upd (fun d => d.rowI2cRead n)

/-- CXL_TRAINING_END (R356): CXL link training ends; the link comes up at its rate and width, or the device runs as a
plain PCIe endpoint with PCIE_ONLY set. -/
def execCxlTrainingEnd (rate : Nat) (width : Nat) (cxl : Bool) (s : State) : Ans := s.upd (fun d => d.rowTrained rate width cxl)

/-- CONFIGURATION_REQUEST (R457): A host configuration request is answered with Configuration Request Retry Status
before BOOT_DONE and otherwise normally, including writes of VF Enable, NumVFs and the CXL.cache enable. -/
def execConfigurationRequest (f : Fin 64) (c : ConfReq) (s : State) : Ans := s.upd (fun d => d.rowConf f.val c)

end Sys2Proof.Machine
end

