-- ==== Sys2Proof/Machine/Interlock.lean ====
section
/-! DEFINITION. The interlock commands: contacts, discrepancies, restarts, confirmations, test darkening, safety messages received (R308-R324). -/

namespace Sys2Proof.Machine

/-! ## Contacts (R309, R312) -/

/-- A raw edge of a contact (true: A), stamped: the level at its pin from now on. -/
def Dev.rowEdge (d : Dev) (i : Nat) (a closed : Bool) : Dev :=
  let s := d.ilkSlot i
  let d := d.setIlkSlot i (if a then { s with rawA := some (closed, d.tick) } else { s with rawB := some (closed, d.tick) })
  d.set (if a then ILK_EDGE_A i else ILK_EDGE_B i) (stampOf d.now)

/-- A level accepted, at the second of two samples that read it, every 50 us of time-island ticks; a level that is not at the pin
is not. -/
def Dev.rowAccept (d : Dev) (i : Nat) (a closed : Bool) : Dev :=
  let s := d.ilkSlot i
  let raw := (if a then s.rawA else s.rawB).getD (closed, 0)
  if raw.1 ≠ closed then d else
  let d := d.atTick (max (ceilMul d.tick 50000) (ceilMul raw.2 50000 + 50000))
  let f := if a then ILK_CONTACTS_A else ILK_CONTACTS_B
  let d := d.set f (putBit (d.get f) i closed)
  let differ := bit (d.get ILK_CONTACTS_A) i != bit (d.get ILK_CONTACTS_B) i
  (d.setIlkSlot i { s with diffAt := if differ then some (s.diffAt.getD d.tick) else none }).evalSlot i

/-- The accepted levels of a slot that uses its contacts have differed for DISCREP. -/
def Dev.rowDiscrepancy (d : Dev) (i : Nat) : Dev :=
  match (d.ilkSlot i).diffAt with
  | some t =>
    if !d.manLoaded || !bit (d.get ILK_LOCAL_EN) i || bit (d.get ILK_DISC) i then d else
    let d := d.atTick (t + d.manA 10 (i * 36 + 32) 0 * 10000000)
    ((d.set ILK_DISC (putBit (d.get ILK_DISC) i true)).raise 112 11 i 0 []).evalSlot i
  | none => d

/-- A write of 1 to bits of ILK_DISC: cleared where the levels agree. -/
def Dev.rowDiscClear (d : Dev) (mask : Nat) : Dev :=
  (bitList mask 8).foldl (fun d i =>
    if bit (d.get ILK_CONTACTS_A) i = bit (d.get ILK_CONTACTS_B) i then (d.set ILK_DISC (putBit (d.get ILK_DISC) i false)).evalSlot i
    else d) d

/-- A write of ILK_CTL.RESET. -/
def Dev.rowRestart (d : Dev) (mask : Nat) : Dev := (bitList mask 8).foldl (fun d i => d.closeSlot i) d

/-! ## Confirmation, SAFE_OK, the watchdog (R314, R317-R319) -/

/-- Read-back confirms zero drive of every held output, but those whose read-back is in error. -/
def Dev.rowConfirm (d : Dev) : Dev :=
  { d with ilk := { d.ilk with unconf := d.ilk.unconf.filter (fun x => d.on (FAB_VOA_STATUS_RB_ERR x.1)) } }

/-- A held output has not been confirmed 1 ms after its hold. -/
def Dev.rowUnconfirmed (d : Dev) (o : Nat) : Dev :=
  match d.ilk.unconf.find? (fun x => x.1 == o) with
  | some x =>
    let d := d.atTick (x.2 + 1000000)
    { d with ilk := { d.ilk with unconf := d.ilk.unconf.filter (fun y => y.1 != o), late := d.ilk.late ++ [o] } }
  | none => d

/-- A SAFE_OK pin has differed from its commanded level for 1 ms, at a read-back every 50 us: both pins low. -/
def Dev.rowSafeOkRb (d : Dev) : Dev :=
  let d := d.atTick (ceilMul d.tick 50000)
  ({ d with ilk := { d.ilk with rb := true } }).raise 116 0 0 0 []

/-- The watchdog has not been serviced for 500 us: every dark line asserted. -/
def Dev.rowWatchdog (d : Dev) : Dev :=
  let d := ({ d with ilk := { d.ilk with wd := true } }).setB ILK_STATUS_WD_OK false
  (d.assertLines (List.range 512)).raise 114 0 0 0 []

/-! ## Test darkening (R320) -/

/-- A period ends: failures by port (false) or egress block (true); outputs that carried a circuit all through count
as untested. -/
def Dev.rowTest (d : Dev) (fails : List (Bool × Nat)) : Dev :=
  match d.ilk.testAt with
  | none => d
  | some t =>
    let d := d.atTick (t + 1000000000)
    let idle := d.ilk.idle
    let d := { d with ilk := { d.ilk with
      testAt := some (t + 1000000000), idle := ⟨((List.range 512).filter (fun o => !d.outLit o)).map (fun o => (o, true))⟩ } }
    if !d.diag 3 then d else
    let d := (d.set ILK_TEST_STATUS_UNTESTED ((List.range 512).filter (fun o => !idle.get false o)).length).set ILK_TEST_LAST (stampOf d.now)
    fails.foldl (fun d x =>
      if x.1 then
        let b := 64 + x.2 % 32
        (d.sets [(ILK_TEST_STATUS_FAIL, 1), (ILK_TEST_STATUS_LAST_PORT, b), (ILK_TEST_STATUS_LAST_BLOCK, 1)]).raise 113 3 b 0 []
      else if idle.get false (x.2 % 512) then
        let o := 512 + x.2 % 512
        (d.sets [(ILK_TEST_STATUS_FAIL, 1), (ILK_TEST_STATUS_LAST_PORT, o), (ILK_TEST_STATUS_LAST_BLOCK, 0)]).raise 113 2 o 0 []
      else d) d

/-! ## Safety messages received (R321, R322) -/

/-- The periodic STATE message of a forwarding entry, 1.000 ms after its last. -/
def Dev.rowSendState (d : Dev) (e : Nat) : Dev :=
  if !d.on (ILK_FWD_EN e) then d else
  match (d.fwd e).sentAt with
  | some t => (d.atTick (t + 1000000)).sendState e
  | none => d.sendState e

/-- A mismatch or a missing copy of source k opens it. -/
def Dev.mismatch (d : Dev) (k : Nat) : Dev :=
  let d := d.setSrc k { d.src k with opened := true }
  ((d.inc ILK_CNT_MISMATCH).raise 115 11 (k / 4) 0 []).evalSlot (k / 4)

/-- A valid copy of SEQ from source k on a network; a SEQ no higher than the last accepted there is stale. -/
def Dev.takeCopy (d : Dev) (k : Nat) (netA : Bool) (ws : List Nat) : Dev :=
  let seq := ws.getD 2 0 % 2 ^ 32
  let isOpen := bit (ws.getD 1 0) 24
  let s := d.src k
  let last := if netA then s.seqA else s.seqB
  if (match last with | some x => decide (seq ≤ x) | none => false) then d else
  let ok := if netA then ILK_SRC_OK_A (k / 4) (k % 4) else ILK_SRC_OK_B (k / 4) (k % 4)
  let d := d.setB ok true
  let newest := decide ((s.seqA.getD 0) ≤ seq ∧ (s.seqB.getD 0) ≤ seq)
  let s := if netA then { s with seqA := some seq, atA := some d.tick } else { s with seqB := some seq, atB := some d.tick }
  let s := { s with opened := s.opened || isOpen }
  match s.waits.find? (fun w => w.1 == seq && w.2.1 != netA) with
  | none => (d.setSrc k { s with waits := s.waits ++ [(seq, netA, ws, d.tick)] }).evalSlot (k / 4)
  | some w =>
    let s := { s with waits := s.waits.filter (fun x => x.1 != seq) }
    if w.2.2.1 ≠ ws ∨ w.2.2.2 + 2000000 < d.tick then (d.setSrc k s).mismatch k
    else (d.setSrc k { s with opened := if isOpen then true else if newest then false else s.opened }).evalSlot (k / 4)

/-- A safety message that arrived on a network, its words checked: a STATE for this module from a listed source is
taken by each and answered with an ACK. (Log entry 56 DESIGN CHOICE.) -/
def Dev.takeState (d : Dev) (netA : Bool) (ws : List Nat) : Dev :=
  let g := fun j => ws.getD j 0 % 2 ^ 32
  if crc32c (ws.take 7) ≠ g 7 then d.inc ILK_CNT_BADCRC
  else if g 0 ≠ 0x494C4B31 ∨ bits (g 1) 0 8 ≠ 1 ∨ g 3 % 4096 ≠ d.moduleId then d
  else
    let src := bits (g 1) 8 12
    let slot := bits (g 1) 20 3
    let ks := (List.range 32).filter (fun k =>
      d.on (ILK_SRC_EN (k / 4) (k % 4)) && d.get (ILK_SRC_INTERLOCK (k / 4) (k % 4)) == slot && d.get (ILK_SRC_MODULE (k / 4) (k % 4)) == src)
    if ks.isEmpty then d else
    let d := ks.foldl (fun d k => d.takeCopy k netA (ws.take 7)) d
    d.sendSafety netA src (safetyWords 2 d.moduleId slot (g 2) src (stampOf d.now) false)

/-- An ACK that arrived on a network. -/
def Dev.takeAck (d : Dev) (netA : Bool) (ws : List Nat) : Dev :=
  let g := fun j => ws.getD j 0 % 2 ^ 32
  if crc32c (ws.take 7) ≠ g 7 then d.inc ILK_CNT_BADCRC
  else if g 0 ≠ 0x494C4B31 ∨ bits (g 1) 0 8 ≠ 2 ∨ g 3 % 4096 ≠ d.moduleId then d
  else (List.range 16).foldl (fun d e =>
    if d.on (ILK_FWD_EN e) && d.get (ILK_FWD_SLOT e) == bits (g 1) 20 3 && d.get (ILK_FWD_MODULE e) == bits (g 1) 8 12
        && (d.fwd e).seq == g 2 then
      let f := d.fwd e
      if netA then (d.setFwd e { f with waitA := none }).setB (ILK_FWD_ACK_A e) true
      else (d.setFwd e { f with waitB := none }).setB (ILK_FWD_ACK_B e) true
    else d) d

/-- A safety message on a ferry port, or on the management port. -/
def Dev.rowSafety (d : Dev) (k : Option Nat) (f : RawFrame) (take : Dev → Bool → List Nat → Dev) : Dev :=
  match k with
  | some k => d.receiveAs 0x20 k (readFrame f) (fun d => take d true ((readFrame f).words.take 8))
  | none => if d.mgmtOn then take (d.mgmtIn.inc HST_MGMT_CNT_RX) false (f.words.take 8) else d

/-- A copy of source k that does not come (R322): 0 the second of a SEQ, 2.000 ms after the first; 1 none valid on
network A for 3.000 ms; 2 none on network B. -/
def Dev.rowCopyTimeout (d : Dev) (k which : Nat) : Dev :=
  let s := d.src k
  if !d.on (ILK_SRC_EN (k / 4) (k % 4)) then d else
  match which with
  | 0 => (match s.waits with
    | w :: l => ((d.atTick (w.2.2.2 + 2000000)).setSrc k { s with waits := l }).mismatch k
    | [] => d)
  | 1 => (match s.atA with
    | some t => (((d.atTick (t + 3000000)).setB (ILK_SRC_OK_A (k / 4) (k % 4)) false).setSrc k { s with atA := none }).mismatch k
    | none => d)
  | _ => (match s.atB with
    | some t => (((d.atTick (t + 3000000)).setB (ILK_SRC_OK_B (k / 4) (k % 4)) false).setSrc k { s with atB := none }).mismatch k
    | none => d)

/-- No ACK on a network within 2 ms of a message. -/
def Dev.rowAckTimeout (d : Dev) (e : Nat) (netA : Bool) : Dev :=
  let f := d.fwd e
  match if netA then f.waitA else f.waitB with
  | some t =>
    let d := d.atTick (t + 2000000)
    if netA then (d.setFwd e { f with waitA := none }).setB (ILK_FWD_ACK_A e) false
    else (d.setFwd e { f with waitB := none }).setB (ILK_FWD_ACK_B e) false
  | none => d

/-! ## The commands -/

/-- CONTACT_EDGE (R309): A raw edge of an interlock contact is time-stamped in ILK_EDGE_A or ILK_EDGE_B. -/
def execContactEdge (k : Fin 8) (a closed : Bool) (s : State) : Ans := s.upd (fun d => d.rowEdge k.val a closed)

/-- CONTACT_ACCEPT (R309): A contact level read in two consecutive samples is accepted and slot causes re-evaluated.
-/
def execContactAccept (k : Fin 8) (a : Bool) (closed : Bool) (s : State) : Ans := s.upd (fun d => d.rowAccept k.val a closed)

/-- DISCREPANCY (R312): contacts of a slot differ beyond DISCREP; DISC is set and ILK_DISCREPANCY raised. -/
def execDiscrepancy (k : Fin 8) (s : State) : Ans := s.upd (fun d => d.rowDiscrepancy k.val)

/-- DISC_CLEAR (R312): A write of 1 to an ILK_DISC bit clears it if the contacts agree. -/
def execDiscClear (r : Requester) (mask : Nat) (s : State) : Ans := s.own r 0x68008 (fun d => d.rowDiscClear mask)

/-- SLOT_RESTART (R316): A write of ILK_CTL.RESET closes a READY slot with no cause and releases its dark lines. -/
def execSlotRestart (r : Requester) (mask : Nat) (s : State) : Ans := s.own r 0x68004 (fun d => d.rowRestart mask)

/-- DARK_CONFIRM (R314): VOA read-back confirms zero drive of every held output within 10 us. -/
def execDarkConfirm (s : State) : Ans := s.upd (fun d => d.rowConfirm)

/-- DARK_CONFIRM_TIMEOUT (R317): an output held by a dark line has not been confirmed at zero drive within 1 ms of its
hold, and SAFE_OK is deasserted. -/
def execDarkConfirmTimeout (o : Fin 512) (s : State) : Ans := s.upd (fun d => d.rowUnconfirmed o.val)

/-- SAFE_OK_READBACK (R318): A SAFE_OK pin differing from its commanded level for 1 ms raises ILK_SAFE_OK_RB. -/
def execSafeOkReadback (s : State) : Ans := s.upd (fun d => d.rowSafeOkRb)

/-- ILK_WATCHDOG (R319): the interlock watchdog unserviced for 500 us deasserts SAFE_OK and asserts every dark line.
-/
def execIlkWatchdog (s : State) : Ans := s.upd (fun d => d.rowWatchdog)

/-- TEST_DARKENING (R320): each 1 s period tests the block test channels and idle outputs by darkening and read-back.
-/
def execTestDarkening (fails : List (Bool × Nat)) (s : State) : Ans := s.upd (fun d => d.rowTest fails)

/-- SAFETY_STATE_SEND (R321): A STATE message of a forwarded slot is sent on both networks every 1 ms and at each
change. -/
def execSafetyStateSend (e : Fin 16) (s : State) : Ans := s.upd (fun d => d.rowSendState e.val)

/-- SAFETY (R322): A SAFETY STATE message is received and applied to its source slot. -/
def execSafety (k : Option (Fin 8)) (f : RawFrame) (s : State) : Ans := s.upd (fun d => d.rowSafety (k.map Fin.val) f Dev.takeState)

/-- SAFETY_ACK (R321): an ACK to a forwarded STATE message is received. -/
def execSafetyAck (k : Option (Fin 8)) (f : RawFrame) (s : State) : Ans := s.upd (fun d => d.rowSafety (k.map Fin.val) f Dev.takeAck)

/-- SAFETY_COPY_TIMEOUT (R322): A second copy missing for 2 ms, or no valid copy on a network for 3 ms, opens the slot
and raises ILK_MSG_MISMATCH. -/
def execSafetyCopyTimeout (k : Fin 32) (which : Fin 3) (s : State) : Ans := s.upd (fun d => d.rowCopyTimeout k.val which.val)

/-- SAFETY_ACK_TIMEOUT (R321): no ACK arrives on a network within 2 ms of the last STATE message of a forwarding
entry, and ACK_A or ACK_B clears. -/
def execSafetyAckTimeout (e : Fin 16) (netA : Bool) (s : State) : Ans := s.upd (fun d => d.rowAckTimeout e.val netA)

end Sys2Proof.Machine
end

