-- ==== Sys2Proof/Machine/Prbs.lean ====
section
/-! DEFINITION. The pattern generators and checkers of the link test (R467, R468, R471). -/

namespace Sys2Proof.Machine

/-- The delays whose bits make a pattern's next one (R467: the polynomials of IEEE 802.3): PRBS7, PRBS13, PRBS15, PRBS31. (Log entry 64 PRESUMED.) -/
def prbsTaps (pat : Nat) : List Nat :=
  if pat = 0 then [6, 7] else if pat = 1 then [1, 2, 12, 13] else if pat = 2 then [14, 15] else [28, 31]

/-- The length of a pattern's register. -/
def prbsLen (pat : Nat) : Nat := [7, 13, 15, 31].getD pat 31

/-- The bit that follows the bits in reg, the latest lowest. -/
def prbsNext (pat reg : Nat) : Bool := (prbsTaps pat).foldl (fun x k => x != bit reg (k - 1)) false

/-- A bit shifted in. -/
def prbsShift (reg : Nat) (b : Bool) : Nat := (reg * 2 + b2n b) % 2 ^ 31

/-- What a checker has counted: its register, LOCKED, bits and errors while LOCKED, losses of lock. -/
structure Check where
  chk    : Chk
  locked : Bool
  bits   : Nat
  errs   : Nat
  losses : Nat
  deriving DecidableEq, Repr

/-- How many of the n lowest bits are set. -/
def ones (x : Nat) : Nat → Nat
  | 0 => 0
  | n + 1 => b2n (bit x n) + ones x n

/-- One bit received, after INV. A checker without lock follows the bits received, and locks once 64 in a row agree; one with lock goes
on alone, and reseeds when 32 of the last 256 bits disagree. (Log entry 64 PRESUMED.) -/
def Check.take (pat : Nat) (x : Check) (b : Bool) : Check :=
  let c := x.chk
  let p := prbsNext pat c.reg
  if x.locked then
    let win := (c.win * 2 + b2n (b != p)) % 2 ^ 256
    let y := { x with bits := x.bits + 1, errs := x.errs + b2n (b != p) }
    if 32 ≤ ones win 256 then { y with chk := chk0, locked := false, losses := y.losses + 1 }
    else { y with chk := { c with reg := prbsShift c.reg p, win } }
  else if c.seen < prbsLen pat then { x with chk := { c with reg := prbsShift c.reg b, seen := c.seen + 1 } }
  else
    let run := if b = p then c.run + 1 else 0
    { x with chk := { c with reg := prbsShift c.reg b, run := if 64 ≤ run then 0 else run, win := 0 }, locked := decide (64 ≤ run) }

/-- Bits received one after another. -/
def Check.takes (pat : Nat) (inv : Bool) (x : Check) (l : List Bool) : Check := l.foldl (fun x b => x.take pat (b != inv)) x

end Sys2Proof.Machine
end

