-- ==== Sys2Proof/Machine/RegRows.lean ====
section
/-! DEFINITION. Register writes, and the accesses that are commands of their own: latched halves, read-clear, refused widths, FORCE (R8-R15, R149, R264, R388, R389, R398, R403-R405, R411, R470, R492-R501). -/

namespace Sys2Proof.Machine

/-! ## How an access is answered (R403) -/

/-- The offsets of a requester's own registers: BAR0 of PF0, 64 MiB, or of a VF, 64 KiB without its MSI-X structures, whose widths follow PCIe (R502). -/
def inSpace : Requester → Nat → Bool
  | .master _, _ => true
  | .fn f, off => if f.val = 0 then decide (off < 0x4000000) else decide (off < 0x10000) && !(decide (0x4000 ≤ off) && (decide (off < 0x4080) || decide (0x4800 ≤ off) && decide (off < 0x4808)))

/-- The response of a requester's access. (Log entry 10 DEDUCED.) -/
def Dev.respFor (d : Dev) (r : Requester) (off : Nat) : Nat :=
  match pf0Off r off with
  | some o => d.respAt o
  | none => 0

/-- An access that reaches its register, or is answered with an error. -/
def Dev.reach (d : Dev) (r : Requester) (off : Nat) (wr : Bool) (f : Dev → Dev) : Dev :=
  let resp := d.respFor r off
  if resp = 0 then f d
  else
    let o := (pf0Off r off).getD 0
    d.respond (masterOf r) (targetAt o) resp o wr

/-! ## Widths (R8, R9, R12) -/

/-- An aligned word at an offset lies in a register. -/
def hasReg (r : Requester) (off : Nat) : Bool :=
  match pf0Off r off with
  | some o =>
    (decide (0x100000 ≤ o) && decide (o < 0x200000)) || (decide (0x1000000 ≤ o) && decide (o < 0x4000000))
      || (decide (0x200000 ≤ o) && decide (o < 0x2C0000) && decide ((o - 0x200000) % 0x2000 < 0x1200))
      || (decide (0x61000 ≤ o) && decide (o < 0x62000)) || (findRow o).isSome
  | none => [0x104, 0x110, 0x118, 0x11C, 0x200].contains off || (decide (0x8000 ≤ off) && decide (off < 0x10000))

/-- An access that completes with Unsupported Request: any width but 4 and 8 bytes, any misalignment, and 8 bytes that
cover a 32-bit register. -/
def badWidth (r : Requester) (off bytes : Nat) : Bool :=
  if bytes = 4 then off % 4 != 0
  else if bytes = 8 then
    off % 8 != 0 || (wideFor r off != some off && (hasReg r off || hasReg r (off + 4)))
  else true

/-- The access row of R9: Unsupported Request to a function, nothing done; a matrix master gets TARGET. (Log entry 61 DESIGN CHOICE.) -/
def Dev.rowBadWidth (d : Dev) (r : Requester) (off bytes : Nat) (hdr : List Nat) (fatal : Bool) : Dev :=
  if badWidth r off bytes ∧ inSpace r off = true then
    match r with
    | .fn f => (d.emit (.pcie 0 0)).hostErr 1 f.val hdr fatal
    | .master m => d.emit (.refuse (64 + m.val) off 3)
  else d

/-! ## Values a field does not take (R12, R235, R247, R363, R429, R445, R467, R470) -/

/-- A backbone pair may be put under test by a requester (R470). -/
def Dev.testable (d : Dev) (r : Requester) (p : Nat) : Bool :=
  if p < 12 then (List.range 8).all (fun j => !d.inService (8 * p + j))
  else if p = 12 then d.whState 0 == 6 || d.whState 0 == 5
  else if p = 13 then d.whState 1 == 6 || d.whState 1 == 5
  else if p = 14 then masterOf r == 8 && !d.on RST_STATUS_LEASE_DONE
  else if p = 15 then false
  else if p = 16 then !d.on HLD_CTL_EN
  else (List.range 8).all (fun k => d.get (FRY_PORT_STATUS_STATE k) == 0)

/-- A field takes the value a write gives it, beyond the intervals of its table; word: all of the register as
written. -/
def Dev.takes_ (d : Dev) (r : Requester) (f : Fld) (v word : Nat) : Bool :=
  if f = XNG_SYS_LEAD then decide (d.get XNG_VOTE_GAP + 20 ≤ v)
  else if f = XNG_VOTE_GAP then decide (v + 20 ≤ d.get XNG_SYS_LEAD)
  else if f = MAN_FLD_SEL_INDEX then decide (v < manWords (bits word 0 4))
  else if f = CAL_ACC_SEL_INDEX then decide (v < accEntries (bits word 0 2))
  else match regIx f.off (FRY_PORT_WIN_PERIOD 0).off 8 0x40 with
  | some _ => f.lo == 0 || decide (2 * v ≤ bits word 0 16)
  | none => match regIx f.off (CAP_PORT_LIMIT_CEIL 0).off 512 0x400 with
  | some o => f.lo != 0 || decide (sgn 16 v ≤ sgn 16 (d.ceilLimit o))
  | none => match regIx f.off (SVY_INJ_CFG_CHAN 0).off 24 0x40 with
  | some c => f.lo != 0 || (chanOf (c / 2) v).isSome
  | none => match groupIx f.off 0xB1000 12 0x200 with
  | some n =>
    if (f.off - 0xB1000) % 0x200 < 0x100 ∨ 0x180 ≤ (f.off - 0xB1000) % 0x200 ∨ f.lo = 0 then true
    else hasChan (8 * n + bits word 1 3) (bits word 8 9)
  | none => match regIx f.off (TST_FL_CTL_GEN_EN 0).off 16 0x20 with
  | some l => decide (2 ≤ f.lo) || v == 0 || d.get (FRY_PORT_STATUS_STATE (l / 2)) == 0
  | none => match regIx f.off (TST_BB_CTL_EN 0).off 18 0x20 with
  | some p => f.lo != 0 || v == 0 || d.testable r p
  | none => match regIx f.off (RING_VEC_CQ_VEC 0).off 65 0x40 with
  | some g => g == 0 || g == 64 || decide (v < 8)
  | none => true

/-! ## Fields written (R10, R13, R15, R264, R265) -/

/-- What the fields of a register write have come to so far: the device, and whether a seal refusal, a register encoding error, a
MAN_FROZEN_WRITE is owed for the write. -/
structure Writing where
  dev    : Dev
  sealed : Bool
  bad    : Bool
  frozen : Bool

/-- A write of one field of a register's instance, old the device before the write: refused under its seal, its class or its
values, or taken. whole: the register's fields are all FROZEN; a FROZEN field that shares its register with others is not
written where its bits do not change. (Log entry 11 DEDUCED.) -/
def Writing.field (x : Writing) (old : Dev) (r : Requester) (whole : Bool) (dist word : Nat) (rf : RegField) : Writing :=
  let d := x.dev
  let f := rf.fld.at dist
  let v := bits word f.lo f.w
  let fits := (rf.ok.isEmpty || rf.ok.any (fun i => decide (i.1 ≤ v) && decide (v ≤ i.2))) && old.takes_ r f v word
  let frozen := match rf.frozen with | some e => old.on (e.at dist) | none => false
  let plain := if !fits then { x with bad := true }
    else if frozen then { x with frozen := x.frozen || whole || v != old.get f }
    else { x with dev := d.set f v }
  if rf.own then x
  else match rf.acc with
  | .ro => x
  | .rc => x
  | .wo => x
  | .rw => plain
  | .w1c => { x with dev := d.set f (old.get f - Nat.land (old.get f) v) }
  | .w1call => { x with dev := if v = 0 then d else d.set f 0 }
  | .w1s => { x with dev := d.set f (Nat.lor (old.get f) v) }
  | .sl => if old.on SEAL_STATUS_CLOSED then { x with sealed := true } else plain
  | .sk =>
    if old.on SEAL_STATUS_CLOSED then { x with sealed := true }
    else match regIx f.off (SEAL_KEY_B 0).off 8 4 with
    | some q => { x with dev := d.putKeyWord true q v }
    | none => { x with dev := d.putKeyWord false ((f.off - (SEAL_KEY_A 0).off) / 4) v }

/-- What a write still owes told once: a register encoding error (R12), a MAN_FROZEN_WRITE (R13), a seal refusal (R10). -/
def Writing.told (x : Writing) : Dev :=
  let d := if x.bad then x.dev.badEncoding else x.dev
  let d := if x.frozen then d.frozenWrite else d
  if x.sealed then d.sealRefuse 2 0 else d

/-! ## What a write brings about (R101, R146, R175, R222, R252, R323, R367, R419, R467, R468) -/

/-- A ring group's configuration changed. -/
def Dev.ringChanged (d old : Dev) (g : Nat) : Dev :=
  let d := if d.on (RING_CFG_SQ_EN g) && !d.manLoaded then d.setB (RING_CFG_SQ_EN g) false else d
  let up := fun (f : Fld) => d.on f && !old.on f
  let cq := up (RING_CFG_CQ_EN g)
  let eq := up (RING_CFG_EQ_EN g)
  let sq := up (RING_CFG_SQ_EN g)
  let d := if d.on (RING_CFG_SQ_EN g) then d else d.setReads g 0
  let d := if old.on (RING_CFG_CQ_EN g) && !d.on (RING_CFG_CQ_EN g) then d.markCq g else d
  let d := if g = 64 then d else
    let d := if cq || eq then d.setRing g { d.ring g with muted := false } else d
    let d := if cq then d.resumeCq g else d
    if eq then d.resumeEq g else d
  let d := if sq || cq then d.askEntry g else d
  if cq && g == 0 then d.askEntry 64 else d

/-- The servo switched off or on. -/
def Dev.servoChanged (d old : Dev) : Dev :=
  if old.on TIM_CTL_SERVO_EN && !d.on TIM_CTL_SERVO_EN then d.enterHoldover
  else if !old.on TIM_CTL_SERVO_EN && d.on TIM_CTL_SERVO_EN then d.takeWaiting (fun k => keySec k == 12)
  else d

/-- A lane's test control changed. -/
def Dev.laneChanged (d old : Dev) (l : Nat) : Dev :=
  let d := if d.on (TST_FL_CTL_CHK_EN l) && !old.on (TST_FL_CTL_CHK_EN l) then
      (d.sets [(TST_FL_BITS l, 0), (TST_FL_ERRS l, 0), (TST_FL_STATUS_LOCK_LOSS l, 0)]).setChecker l chk0
    else d
  let d := if !d.on (TST_FL_CTL_CHK_EN l) then d.setB (TST_FL_STATUS_LOCKED l) false else d
  if (old.on (TST_FL_CTL_CHK_EN l) && !d.on (TST_FL_CTL_CHK_EN l)) || (old.on (TST_FL_CTL_GEN_EN l) && !d.on (TST_FL_CTL_GEN_EN l))
  then d.tryTrain (l / 2) else d

/-- The first trigger still to come of converter c's series: at SVY_INJ_TIME and then every SVY_INJ_PERIOD (R419). -/
def Dev.injFirst (d : Dev) (c : Nat) : Option Ns :=
  let t := d.inst (d.get (SVY_INJ_TIME c))
  let p := d.get (SVY_INJ_PERIOD c)
  if d.now ≤ t then some t else if p = 0 then none else some (t + (d.now - t + p - 1) / p * p)

/-- An injection setup changed: its first time trigger. (Log entry 50 DESIGN CHOICE.) -/
def Dev.injChanged (d : Dev) (c : Nat) : Dev :=
  d.setConv c { d.conv c with next := if d.on (SVY_INJ_CFG_TIME_EN c) then d.injFirst c else none }

/-- A remote source changed: enabled, it is open until a closed pair arrives, and its copies are awaited from now. -/
def Dev.srcChanged (d old : Dev) (k : Nat) : Dev :=
  let f := ILK_SRC_EN (k / 4) (k % 4)
  let d := if d.on f && !old.on f then d.setSrc k { src0 with atA := some d.tick, atB := some d.tick } else d
  d.evalSlots

/-- What the write of the register at an offset brings about, old the device before it. -/
def Dev.afterWrite (d old : Dev) (off : Nat) : Dev :=
  if off = TIM_CTL_SERVO_EN.off then d.servoChanged old
  else if off = HST_ERR_INFO_VALID.off then (if d.on HST_ERR_INFO_VALID then d else d.set HST_ERR_INFO_COUNT 0)
  else if off = ILK_LOCAL_EN.off then d.evalSlots
  else if off = HST_MGMT_CTL_EN.off then (if d.mgmtOn then d else d.setB HST_MGMT_CTL_LINK false)
  else match regIx off 0x32000 65 0x40 with
  | some g => d.ringChanged old g
  | none => match regIx off (CMD_FN_QUOTA 0).off 64 4 with
  | some f => d.quotaChanged f
  | none => match regIx off (CAP_PORT_TARGET_TARGET 0).off 512 0x400 with
  | some o =>
    let v := d.get (CAP_PORT_TARGET_TARGET o)
    if v = old.get (CAP_PORT_TARGET_TARGET o) then d
    else (d.set (CAP_PORT_TARGET_TARGET o) (old.get (CAP_PORT_TARGET_TARGET o))).writeTarget o v
  | none => match regIx off (CAP_TRIM_WIN 0).off 96 0x2000 with
  | some b => d.newWindow b
  | none => match regIx off (CAP_PORT_LIMIT_CEIL 0).off 512 0x400 with
  | some _ => d.syncPending
  | none => match regIx off (TST_FL_CTL_GEN_EN 0).off 16 0x20 with
  | some l => d.laneChanged old l
  | none => match regIx off (TST_BB_CTL_EN 0).off 18 0x20 with
  | some p => if d.on (TST_BB_CTL_EN p) then d else (d.setB (TST_BB_CTL_LOCKED p) false).setChecker (16 + p) chk0
  | none => match regIx off (SVY_INJ_CFG_CHAN 0).off 24 0x40 with
  | some c => if d.on (SVY_INJ_CFG_TIME_EN c) = old.on (SVY_INJ_CFG_TIME_EN c) then d else d.injChanged c
  | none => match regIx off (SVY_INJ_TIME 0).off 24 0x40 with
  | some c => d.injChanged c
  | none => match regIx off (SVY_INJ_PERIOD 0).off 24 0x40 with
  | some c => d.injChanged c
  | none => match regIx off (REC_TRIG_TIME 0).off 12 0x200 with
  | some n => d.setRcdr n { d.rcdr n with trigOff := false }
  | none => match regIx off (ILK_FWD_EN 0).off 16 4 with
  | some e => if d.on (ILK_FWD_EN e) && !old.on (ILK_FWD_EN e) then d.setFwd e fwd0 else d
  | none => match regIx off (ILK_SRC_EN 0 0).off 32 4 with
  | some k => d.srcChanged old k
  | none => d

/-! ## Register writes -/

/-- A cell record's writable words: OVR and the cell's own gains (R180). -/
def Dev.writeCell (d : Dev) (i w v : Nat) : Dev :=
  match w with
  | 4 => d.setLoop i { d.loop i with ovr := bit v 8 }
  | 6 => d.setLoop i { d.loop i with kp := v % 2 ^ 32 }
  | 7 => d.setLoop i { d.loop i with ki := v % 2 ^ 32 }
  | _ => d

/-- A write of a DMA channel's sets that its mode does not take (R388, R389, R395): in native mode the descriptor of a
BUSY channel and the shadow set, in compatibility mode the active set; and one that is a reserved encoding: the shadow set
while ARM is 1. -/
def Dev.dmaIgnores (d : Dev) (off : Nat) : Bool :=
  match groupIx off (DMA_SRC 0).off 64 0x40 with
  | some c =>
    let o := (off - (DMA_SRC 0).off) % 0x40
    if d.dmaCompat then decide (o < 0x18) else (decide (o < 0x18) && d.get (DMA_STATUS_STATE c) == 3) || decide (0x20 ≤ o)
  | none => false
def Dev.dmaReserves (d : Dev) (off : Nat) : Bool :=
  match groupIx off (DMA_SRC 0).off 64 0x40 with
  | some c => d.dmaCompat && decide (0x20 ≤ (off - (DMA_SRC 0).off) % 0x40) && d.on (DMA_SH_CTL_ARM c)
  | none => false

/-- The fields of a register written, and what follows. (Log entry 11 DEDUCED.) -/
def Dev.writeFields (d : Dev) (r : Requester) (row : RegRow) (dist word : Nat) : Dev :=
  if d.dmaIgnores (row.off + dist) then d else
  if d.dmaReserves (row.off + dist) then d.badEncoding else
  let whole := row.fields.all (fun rf => rf.frozen.isSome)
  (row.fields.foldl (fun (x : Writing) rf => x.field d r whole dist word rf) { dev := d, sealed := false, bad := false, frozen := false }).told.afterWrite
    d (row.off + dist)

/-- A write of a whole register at a PF0 offset that a requester may reach; FAB_CELL_WEAR and CAL_ACC_DATA act as their rows
say. -/
def Dev.writeAt (d : Dev) (r : Requester) (off : Nat) (v : Nat) : Dev :=
  if 0x32040 ≤ off ∧ off < 0x33000 ∧ (match r with | .fn f => 0x32000 + f.val * 64 ≤ off ∧ off < 0x32040 + f.val * 64 | .master _ => false) = false then d
  else if 0x100000 ≤ off ∧ off < 0x200000 ∨ 0x1000000 ≤ off ∨ 0x61000 ≤ off ∧ off < 0x62000 then d
  else if off = CAL_ACC_DATA.off then d.rowAcc v
  else if 0x200000 ≤ off ∧ off < 0x2C0000 ∧ (off - 0x200000) % 0x2000 < 0x1200 then
    let i := (off - 0x200000) / 0x2000 * 144 + (off - 0x200000) % 0x2000 / 32
    if off % 32 = 8 then d.rowWearRestore i v else d.writeCell i (off % 32 / 4) v
  else match findRow off with
  | none => d
  | some (row, dist, _) => d.writeFields r row dist (if row.wide then v else v % 2 ^ 32)

/-- An aligned write of 32 bits, or with wide of 64, at an offset of a requester: its latches of other registers go; the
low word of a 64-bit register waits for its high word (R8). -/
def Dev.writeReg (d : Dev) (r : Requester) (off : Nat) (wide : Bool) (v : Nat) : Dev :=
  let d := d.unlatch r
  if !wide && wideFor r off == some off then d.setWlatch r (some (off, v % 2 ^ 32))
  else match pf0Off r off with
  | none => if off = 0x200 then { d with hst := { d.hst with pages := d.hst.pages.put 0 (reqKey r) (v % 32) } } else d
  | some o =>
    match r with
    | .fn f => if f.val ≠ 0 ∧ 0x100 ≤ off then d else d.writeAt r o v
    | .master _ => d.writeAt r o v

/-- The high word of a 64-bit register written: with the low word the requester wrote just before, or in vain (R8). -/
def Dev.writeHigh (d : Dev) (r : Requester) (off v : Nat) : Dev :=
  match d.acc.wlatch.get none (reqKey r) with
  | some (a, lo) =>
    if a + 4 = off then d.writeReg r a true (lo + v % 2 ^ 32 * 2 ^ 32) else (d.unlatch r).badEncoding
  | none => (d.unlatch r).badEncoding

/-- The high word of a 64-bit register stands at an offset. -/
def highWord (r : Requester) (off : Nat) : Bool := off % 8 == 4 && wideFor r off == some (off - 4)

/-- A plain write: any aligned one but that of a high word; in the MSI-X structures, of a word or of two (R502). -/
def Dev.rowWrite (d : Dev) (r : Requester) (off : Nat) (wide : Bool) (v : Nat) : Dev :=
  if (msixPlace r off).isSome then (if off % (if wide then 8 else 4) = 0 then d.rowMsixWrite r off wide v else d)
  else if badWidth r off (if wide then 8 else 4) ∨ inSpace r off = false ∨ (wide = false ∧ highWord r off = true) then d
  else d.reach r off true (fun d => d.writeReg r off wide v)

/-- The write of a high word. -/
def Dev.rowHigh (d : Dev) (r : Requester) (off v : Nat) : Dev :=
  if off % 4 = 0 ∧ inSpace r off = true ∧ highWord r off = true then d.reach r off true (fun d => d.writeHigh r off v) else d

/-- A 32-bit read of the low word of a 64-bit register, or of a word of the MSI-X structures. (Log entry 97 PRESUMED.) -/
def Dev.rowLow (d : Dev) (r : Requester) (off : Nat) : Dev :=
  match msixPlace r off with
  | some p => if off % 4 = 0 then d.emit (.answer (reqKey r) off (d.msixWord (reqKey r) p)) else d
  | none =>
  if off % 4 = 0 ∧ inSpace r off = true ∧ wideFor r off = some off then d.reach r off false (fun d => d.readReg r off false) else d

/-- A read of a register with an RC field. -/
def Dev.rowReadClear (d : Dev) (r : Requester) (off : Nat) (wide : Bool) : Dev :=
  if badWidth r off (if wide then 8 else 4) = false ∧ inSpace r off = true
      ∧ (match pf0Off r off with | some o => hasRc o | none => false) = true then
    d.reach r off false (fun d => d.readReg r off wide)
  else d

/-! ## FORCE -/

/-- The time triggers that a forced jump disarms (R151). (Log entry 72 DESIGN CHOICE.) -/
def Dev.disarmTimes (d : Dev) : Dev :=
  let d := (List.range 12).foldl (fun d n =>
    (d.setB (REC_CTL_ARM_AT n) false).setRcdr n { d.rcdr n with trigOff := true, armAt := none }) d
  (List.range 24).foldl (fun d c => (d.setB (SVY_INJ_CFG_TIME_EN c) false).setConv c { d.conv c with next := none }) d

/-- A write of 1 to TIM_CTL.FORCE. From UNSET, the next sample counts τ from the jump (R144). (Log entry 89 DESIGN CHOICE.) -/
def Dev.rowForceTime (d : Dev) : Dev :=
  let ofs := sgn 64 (d.get TIM_FORCE_OFS) * (nsUnit : Int)
  if !d.suspended ∨ (d.mt : Int) + ofs < 0 then d.setB TIM_STATUS_FORCE_REFUSED true
  else
    let d := (d.disarmTimes).stepTime ofs
    if d.get TIM_STATUS_STATE = 0 then
      { (d.set TIM_STATUS_STATE 1) with tim := { (d.set TIM_STATUS_STATE 1).tim with integ := 0, lastOk := d.tick, lastAny := d.tick } }
    else d

/-! ## The commands -/

/-- REGISTER_WRITE (R10): A host or master write to a register field that has no row of its own, applied under its
access code and field class. -/
def execRegisterWrite (r : Requester) (off : Nat) (wide : Bool) (v : Nat) (s : State) : Ans := s.accessBy r off (fun d => d.rowWrite r off wide v)

/-- READ_64_LOW (R8): A 32-bit read of the low word of a 64-bit register returns the low word and latches the high
word for that requester. -/
def execRead64Low (r : Requester) (off : Nat) (s : State) : Ans := s.accessBy r off (fun d => d.rowLow r off)

/-- WRITE_64_HIGH (R8): A 32-bit write of the high word applies the 64-bit write if the same requester wrote the low
word just before; otherwise it is ignored and logged. -/
def execWrite64High (r : Requester) (off : Nat) (v : Nat) (s : State) : Ans := s.accessBy r off (fun d => d.rowHigh r off v)

/-- READ_CLEAR (R11): A read of an RC field by any master returns its value and clears it. -/
def execReadClear (r : Requester) (off : Nat) (wide : Bool) (s : State) : Ans := s.accessBy r off (fun d => d.rowReadClear r off wide)

/-- ACCESS_BAD_WIDTH (R9): A register access of unsupported width or alignment completes with Unsupported Request, has
no effect and is logged. -/
def execAccessBadWidth (r : Requester) (off : Nat) (bytes : Nat) (hdr : List Nat) (fatal : Bool) (s : State) : Ans := s.accessBy r off (fun d => d.rowBadWidth r off bytes hdr fatal)

/-- FORCE (R149): A write of 1 to TIM_CTL.FORCE while SUSPENDED steps module time by TIM_FORCE_OFS, or sets
FORCE_REFUSED. -/
def execForce (r : Requester) (s : State) : Ans := s.own r 0x50000 (fun d => d.rowForceTime)

end Sys2Proof.Machine
end

