-- ==== Sys2Proof/Machine/LinkTest.lean ====
section
/-! DEFINITION. Link test: lanes, backbone pairs, gangway bonds, the host and hold links (R466-R477). -/

namespace Sys2Proof.Machine

/-! ## Ferry lanes and backbone pairs (R467-R472) -/

/-- A write of CLR to a lane's control. -/
def Dev.rowFlClear (d : Dev) (l : Nat) : Dev :=
  d.sets [(TST_FL_BITS l, 0), (TST_FL_ERRS l, 0), (TST_FL_STATUS_LOCK_LOSS l, 0)]

/-- A write of INJ_COUNT: a running generator inserts that many bit errors; 0 is a reserved encoding. (Log entry 64 PRESUMED.) -/
def Dev.rowFlInject (d : Dev) (l n : Nat) : Dev :=
  if n % 256 = 0 then d.badEncoding
  else if d.on (TST_FL_CTL_GEN_EN l) then d.emit (.laneErr l (n % 256))
  else d

/-- A write of INJ: parity corruptions owed on a link in normal use, toward the time island or away from it. (Log entry 64 PRESUMED.) -/
def Dev.rowBbInject (d : Dev) (p n : Nat) : Dev :=
  if n = 0 ∨ 3 < n then d.badEncoding
  else
    let l := 2 * p + (if d.on (TST_BB_CTL_INJ_DIR p) then 0 else 1)
    if d.on (TST_BB_CTL_EN p) ∨ (d.link l).failed = true then d.badEncoding
    else d.setLink l { d.link l with corrupt := n }

/-- A write of CLR to a pair's control. -/
def Dev.rowBbClear (d : Dev) (p : Nat) : Dev := d.sets [(TST_BB_BITS p, 0), (TST_BB_ERRS p, 0), (TST_BB_PAR_ERRS p, 0)]

/-- The checker of lane l takes bits received: LOCKED, what it counted, its losses of lock (R468). -/
def Dev.laneBits (d : Dev) (l : Nat) (rx : List Bool) : Dev :=
  if !d.on (TST_FL_CTL_CHK_EN l) then d else
  let x := Check.takes (d.get (TST_FL_CTL_PATTERN l)) (d.on (TST_FL_CTL_INV l))
    { chk := d.checker l, locked := d.on (TST_FL_STATUS_LOCKED l), bits := 0, errs := 0, losses := 0 } rx
  let d := (d.setChecker l x.chk).setB (TST_FL_STATUS_LOCKED l) x.locked
  (d.sets [(TST_FL_BITS l, d.get (TST_FL_BITS l) + x.bits), (TST_FL_ERRS l, d.get (TST_FL_ERRS l) + x.errs)]).addSat
    (TST_FL_STATUS_LOCK_LOSS l) x.losses

/-- The checker of pair p takes words received, each word's bits from bit 0 on, par of them with a parity error (R471). -/
def Dev.pairBits (d : Dev) (p : Nat) (rx : List Bool) (par : Nat) : Dev :=
  if !d.on (TST_BB_CTL_EN p) then d else
  let x := Check.takes (d.get (TST_BB_CTL_PATTERN p)) false
    { chk := d.checker (16 + p), locked := d.on (TST_BB_CTL_LOCKED p), bits := 0, errs := 0, losses := 0 } rx
  let d := (d.setChecker (16 + p) x.chk).setB (TST_BB_CTL_LOCKED p) x.locked
  d.sets [(TST_BB_BITS p, d.get (TST_BB_BITS p) + x.bits), (TST_BB_ERRS p, d.get (TST_BB_ERRS p) + x.errs),
    (TST_BB_PAR_ERRS p, d.get (TST_BB_PAR_ERRS p) + par)]

/-- Bits arrive at a checker: lane i, or pair i - 16. -/
def Dev.rowLock (d : Dev) (i : Nat) (rx : List Bool) (par : Nat) : Dev :=
  if i < 16 then d.laneBits i rx else d.pairBits (i - 16) rx par

/-! ## Gangway continuity (R473, R474) -/

/-- The bonds of the chosen blocks of reach n in ascending channel code: probe bonds, drive bonds or both. -/
def gwBonds (n blocks kind : Nat) : List Nat :=
  let ks := bitList blocks 8
  let probes := if kind % 2 = 1 then
      ks.flatMap (fun k => ((List.range 321).map (fun x => k * 512 + x)).filter (fun x => (chanOf n x).isSome))
    else []
  let drives := if 2 ≤ kind then ks.flatMap (fun k => (List.range 144).map (fun i => 0x1000 + k * 256 + i)) else []
  probes ++ drives

/-- Every second element, from the first. -/
def evens : List Nat → List Nat
  | [] => []
  | [a] => [a]
  | a :: _ :: l => a :: evens l

/-- A write of GO: ignored while BUSY; a reserved encoding where a chosen block is in service or KIND is 0. (Log entry 64 PRESUMED.) -/
def Dev.rowGwGo (d : Dev) : Dev :=
  let n := d.get TST_GW_CTL_REACH
  let blocks := d.get TST_GW_CTL_BLOCKS
  let kind := d.get TST_GW_CTL_KIND
  if d.on TST_GW_STATUS_BUSY then d
  else if kind = 0 ∨ (bitList blocks 8).any (fun k => d.inService (8 * n + k)) then d.badEncoding
  else
    let d := (d.clearRange 0xE1840 0xE1940).sets [(TST_GW_STATUS_BUSY, 1), (TST_GW_STATUS_TESTED, 0), (TST_GW_STATUS_FAILED, 0),
      (TST_GW_SKIPPED, 0)]
    let l := gwBonds n blocks kind
    let d := { d with svy := { d.svy with gwOn := some (n, false) } }
    let d := (d.setGw (2 * n) { gangway0 with todo := evens l }).setGw (2 * n + 1) { gangway0 with todo := evens (l.drop 1) }
    [2 * n, 2 * n + 1].foldl (fun d c => (d.gwFeed c).nextConv c) d

/-- The test over: BUSY clears, nothing of it stays. (Log entry 64 PRESUMED.) -/
def Dev.gwEnd (d : Dev) (n : Nat) : Dev :=
  let d := [2 * n, 2 * n + 1].foldl (fun d c =>
    (d.setGw c gangway0).setConv c { d.conv c with reqs := (d.conv c).reqs.filter (fun q => !q.test) }) d
  { (d.setB TST_GW_STATUS_BUSY false) with svy := { (d.setB TST_GW_STATUS_BUSY false).svy with gwOn := none } }

/-- The test ends: aborted where a converter of the reach is off, its remaining bonds skipped; else once the pass and the retests
are over. -/
def Dev.rowGwDone (d : Dev) : Dev :=
  match d.svy.gwOn with
  | none => d
  | some (n, retest) =>
    let c0 := 2 * n
    let c1 := 2 * n + 1
    let left := ([c0, c1].flatMap (fun c => (d.gw c).todo ++ (d.gw c).prog)).length
    if d.convOff c0 || d.convOff c1 then
      let d := if retest then d else d.set TST_GW_SKIPPED (d.get TST_GW_SKIPPED + left)
      (d.setB TST_GW_STATUS_ABORTED true).gwEnd n
    else if left ≠ 0 then d
    else if !retest && !((d.gw c0).suspect.isEmpty && (d.gw c1).suspect.isEmpty) then
      let d := { d with svy := { d.svy with gwOn := some (n, true) } }
      [c0, c1].foldl (fun d c => ((d.setGw c { d.gw c with todo := (d.gw c).suspect, suspect := [] }).gwFeed c).nextConv c) d
    else d.gwEnd n

/-! ## The hold link and the host link (R475, R476) -/

/-- A write of TST_HLD_CTL.MODE: only while the hold is out of service; back at 0 the port shows TRAINING. -/
def Dev.rowHoldTest (d : Dev) (mode : Nat) : Dev :=
  let v := mode % 4
  if v = d.get TST_HLD_CTL_MODE then d
  else if d.on HLD_CTL_EN then d.badEncoding
  else
    let d := d.set TST_HLD_CTL_MODE v
    if v = 0 then d.sets [(HLD_STATUS_STATE, 1), (HLD_STATUS_RATE, 0), (HLD_STATUS_WIDTH, 0)] else d

/-- The host sets Enter Compliance: the upstream port transmits the compliance pattern until link training ends. (Log entry 64 PRESUMED.) -/
def Dev.rowCompliance (d : Dev) : Dev := { d with hst := { d.hst with compl := true } }

/-! ## The commands -/

/-- FL_CLEAR (R468): A write of TST_FL_CTL.CLR clears a lane checker's counters. -/
def execFlClear (r : Requester) (l : Fin 16) (s : State) : Ans := s.accessBy r (0xE1100 + l.val * 0x20) (fun d => d.ownWrite r (0xE1100 + l.val * 0x20) (fun d => d.rowFlClear l.val))

/-- FL_INJECT (R469): A write of TST_FL_CTL.INJ_COUNT inserts that many bit errors. -/
def execFlInject (r : Requester) (l : Fin 16) (n : Nat) (s : State) : Ans := s.accessBy r (0xE1100 + l.val * 0x20) (fun d => d.ownWrite r (0xE1100 + l.val * 0x20) (fun d => d.rowFlInject l.val n))

/-- BB_INJECT (R472): A write of TST_BB_CTL.INJ corrupts parity of the next word and its replays on a live link. -/
def execBbInject (r : Requester) (p : Fin 18) (n : Nat) (s : State) : Ans := s.accessBy r (0xE1400 + p.val * 0x20) (fun d => d.ownWrite r (0xE1400 + p.val * 0x20) (fun d => d.rowBbInject p.val n))

/-- BB_CLEAR (R471): A write of TST_BB_CTL.CLR clears a backbone pair's test counters. -/
def execBbClear (r : Requester) (p : Fin 18) (s : State) : Ans := s.accessBy r (0xE1400 + p.val * 0x20) (fun d => d.ownWrite r (0xE1400 + p.val * 0x20) (fun d => d.rowBbClear p.val))

/-- GANGWAY_GO (R473): A write of TST_GW_CTL.GO starts the gangway continuity test of chosen blocks. -/
def execGangwayGo (r : Requester) (s : State) : Ans := s.accessBy r 0xE1800 (fun d => d.ownWrite r 0xE1800 (fun d => d.rowGwGo))

/-- GANGWAY_TEST_DONE (R474): the continuity test ends or aborts and BUSY clears with its counts. -/
def execGangwayTestDone (s : State) : Ans := s.upd (fun d => d.rowGwDone)

/-- HOLD_TEST_MODE (R476): A write of TST_HLD_CTL.MODE puts the hold port into compliance or loopback, or back to
normal. -/
def execHoldTestMode (r : Requester) (mode : Nat) (s : State) : Ans := s.accessBy r 0xE1A00 (fun d => d.ownWrite r 0xE1A00 (fun d => d.rowHoldTest mode))

/-- PRBS_CHECKER_LOCK (R468): A lane or backbone test checker gains LOCKED after 64 agreeing bits or words, or loses
it on 32 disagreements in 256, reseeding and incrementing LOCK_LOSS. -/
def execPrbsCheckerLock (k : Fin 34) (rx : List Bool) (par : Nat) (s : State) : Ans := s.upd (fun d => d.rowLock k.val rx par)

/-- ENTER_COMPLIANCE (R475): the host sets Enter Compliance and the upstream port transmits the compliance pattern. -/
def execEnterCompliance (s : State) : Ans := s.upd (fun d => d.rowCompliance)

end Sys2Proof.Machine
end

