-- ==== Sys2Proof/Machine/Matrix.lean ====
section
/-! DEFINITION. The internal matrix: accesses of masters, their arbitration and answers, hung accesses, master resets (R397-R411). -/

namespace Sys2Proof.Machine

/-! ## Outstanding accesses (R400) -/

/-- A wheelhouse that is not the active one issues no access (R397). -/
def Dev.mtxSilent (d : Dev) (m : Nat) : Bool := decide (m < 2) && !d.isActive m

/-- The master has a place for one more access of its kind. -/
def Dev.mtxRoom (d : Dev) (m : Nat) (wr : Bool) : Bool := decide (d.mtxHas m wr < mtxLimit m wr)

/-! ## Answers (R398, R403) -/

/-- The byte v stored at hold address a: a wear counter's, a spill window's, or a byte of the other regions. -/
def Dev.holdPut (d : Dev) (m : Memory) (a : Nat) (v : Byte) : Dev × Memory :=
  if a < 0x100000 then
    if a / 8 < 13824 ∧ a % 8 < 6 then
      let c := d.cell (a / 8)
      (d.setCell (a / 8) { c with wear := putBits c.wear (8 * (a % 8)) 8 v.toNat }, m)
    else (d, m)
  else match d.spillAt a with
  | some (n, w) =>
    let r := d.rcdr n
    (d.setRcdr n { r with spill := r.spill.put 0 w (putBits (r.spill.get 0 w) (8 * (a % 8)) 8 v.toNat) }, m)
  | none => (d, m.put a v)

/-- Bytes stored from a hold address on. -/
def Dev.holdPuts (d : Dev) (m : Memory) (a : Nat) : List Byte → Dev × Memory
  | [] => (d, m)
  | v :: l =>
    let r := d.holdPut m a v
    r.1.holdPuts r.2 (a + 1) l

/-- n bytes read from a hold address on, as a number. -/
def Dev.holdRead (d : Dev) (m : Memory) (a n : Nat) : Nat :=
  (List.range n).foldl (fun x k => x + (d.holdByte m (a + k)).toNat * 256 ^ k) 0

/-- The user of the hold port that a master stands for (R378). -/
def holdClassOf (m : Nat) : HoldClass := if m = 7 then .spill else if 2 ≤ m ∧ m ≤ 5 then .dma else .stream

/-- A spill write of the recorders' master that is answered with an error ends that reach's spill (R404, R442). -/
def Dev.spillErr (d : Dev) (k : Nat) (wr : Bool) (a : Nat) : Dev :=
  if k = 7 ∧ wr = true then (match d.spillAt a with | some (n, _) => d.endSpill n | none => d) else d

/-- An access granted and answered: a register, the boot ROM or the step cache, whose contents are free values, or the hold. (Log entry 61 DESIGN CHOICE.) -/
def Dev.mtxServe (d : Dev) (m : Memory) (q : MtxReq) : Dev × Memory :=
  let k := masterOf q.req
  let t := targetOf q.req q.addr
  let bytes := if q.wide then 8 else 4
  let fail := fun (resp : Nat) => d.respond k t resp q.addr q.wr.isSome
  match spaceOf k q.addr with
  | some 0 =>
    let resp := d.respFor q.req q.addr
    if resp ≠ 0 then (fail resp, m)
    else if badWidth q.req q.addr bytes then (d.rowBadWidth q.req q.addr bytes [] false, m)
    else match q.wr with
    | some v =>
      if !q.wide && highWord q.req q.addr then (d.writeHigh q.req q.addr v, m) else (d.writeReg q.req q.addr q.wide v, m)
    | none => (d.readReg q.req q.addr q.wide, m)
  | some 3 =>
    let a := q.addr - 0x800000000000
    let wr := q.wr.isSome
    if d.pairFailed 16 then ((fail 2).spillErr k wr a, m)
    else if !d.holdUp ∨ d.get HLD_CAPACITY < a + bytes ∨ a % bytes ≠ 0 then ((fail 3).spillErr k wr a, m)
    else
    let d := d.servePort (holdClassOf k)
    match q.wr with
    | some v => d.holdPuts m a (bytesOf v bytes)
    | none => (d.emit (.answer (64 + k) q.addr (d.holdRead m a bytes)), m)
  | some sp =>
    if sp = 2 ∧ Config.stepCacheBytes ≤ q.addr - 0x10000000 then (fail 3, m) else
    (match q.wr with
      | some _ => d
      | none => (d.emit (.answer (64 + k) q.addr (Config.freeNat d.fresh % 2 ^ (8 * bytes)))).useFresh, m)
  | none => (fail 1, m)

/-- The same, but the response to a request that has been told CA is dropped (R368, R406). -/
def Dev.mtxGrant (d : Dev) (m : Memory) (q : MtxReq) : Dev × Memory :=
  let r := d.mtxServe m q
  if q.told then
    ({ r.1 with out := d.out ++ (r.1.out.drop d.out.length).filter (fun o => match o with
        | .answer _ _ _ => false
        | .refuse _ _ _ => false
        | _ => true) }, r.2)
  else r

/-! ## Arbitration (R399) -/

/-- The tier of a request: 0 A, 1 B, 2 C, 3 D. -/
def Dev.mtxTier (d : Dev) (q : MtxReq) : Nat :=
  let m := masterOf q.req
  if q.aged || m == 9 || (decide (m < 2) && d.isActive m) then 0
  else if m = 6 ∨ m = 7 then 1
  else if 2 ≤ m ∧ m ≤ 5 then 2
  else 3

/-- Its place in its port's order: tier first, an aged request last in tier A, then the round robin from the master served
last. (Log entry 62 DESIGN CHOICE.) -/
def Dev.mtxRank (d : Dev) (t : Nat) (q : MtxReq) : Nat :=
  d.mtxTier q * 100 + b2n (q.aged && d.mtxTier { q with aged := false } != 0) * 10 + (masterOf q.req + 9 - d.mtx.last.get 9 t) % 10

/-- The request a port grants next: the lowest rank, of one master the oldest. -/
def Dev.mtxNext (d : Dev) (t : Nat) : Option MtxReq :=
  (d.mtx.waits.filter (fun q => targetOf q.req q.addr == t && d.mtxPlaced q)).foldl (fun b q =>
    match b with
    | some x => if d.mtxRank t q < d.mtxRank t x then some q else b
    | none => some q) none

/-- The matrix cycles of an access of master k at target t, beside the target's own time: 3, one less where the port is parked on it, two more
on a path with a register slice (R402). -/
def Dev.mtxCycles (d : Dev) (k t : Nat) : Nat :=
  3 - b2n (d.parkOn t == k) + 2 * b2n (bit (d.manA 13 ((20 * k + t) / 32) 0) ((20 * k + t) % 32))

/-- The grant of a request at its port: its cycles kept, the round robin moved on, the port arbitrating. -/
def Dev.mtxTurn (d : Dev) (t : Nat) (q : MtxReq) : Dev :=
  let k := masterOf q.req
  ({ d with mtx := { d.mtx with waits := d.mtx.waits.erase q, last := d.mtx.last.put 9 t k,
                                cycles := d.mtx.cycles.put 0 t (d.mtxCycles k t) } }).setPark t 10

/-- A decode error (R405, R406): answered, unless the host's request has been told CA, or held under DECODE_HANG. -/
def Dev.mtxDecode (d : Dev) (q : MtxReq) : Dev :=
  let k := masterOf q.req
  if bit (d.manA 13 7 0) k then
    let d := { d with mtx := { d.mtx with hung := d.mtx.hung ++ [q] } }
    (d.set MTX_STATUS_HUNG (putBit (d.get MTX_STATUS_HUNG) k true)).decodeErr k q.addr
  else if q.told then (d.decodeErr k q.addr).captureErr k 31 1 q.addr q.wr.isSome
  else d.respond k 31 1 q.addr q.wr.isSome

/-- Accesses outside the map that have waited at their masters' ports and have a place now (R400). -/
def Dev.mtxDecodes (d : Dev) : Dev :=
  (d.mtx.waits.filter (fun q => targetOf q.req q.addr == 31)).foldl (fun d q =>
    if d.mtxPlaced q then ({ d with mtx := { d.mtx with waits := d.mtx.waits.erase q } }).mtxDecode q else d) d

/-- Every request that waits at a target port granted in turn; the port then parks. -/
def Dev.mtxDrain (d : Dev) (m : Memory) (t : Nat) : Nat → Dev × Memory
  | 0 => (d.parkIdle t, m)
  | n + 1 =>
    match d.mtxNext t with
    | none => (d.parkIdle t, m)
    | some q =>
      let r := (d.mtxTurn t q).mtxGrant m q
      r.1.mtxDrain r.2 t n

/-! ## The commands' effects -/

/-- An access of a master: without a place among its master's outstanding ones it waits at the master's port (R400); a decode error is
answered or, under DECODE_HANG, held; any other waits at its target port, or is granted there with those that wait. (Log entry 62 DESIGN CHOICE.) -/
def Dev.rowMatrix (d : Dev) (m : Memory) (r : Requester) (addr : Nat) (wr : Option Nat) (wide wait : Bool) : Dev × Memory :=
  let k := masterOf r
  let q : MtxReq := { req := r, addr, wr, wide, since := d.tick, aged := false, told := false }
  let t := targetOf r addr
  let boot := d.on RST_STATUS_BOOT_DONE || debugTst r addr || (match spaceOf k addr with | some 0 => false | _ => true)
  if d.mtxSilent k || !inSpace r addr || !boot then (d, m)
  else if !d.mtxRoom k wr.isSome then ({ d with mtx := { d.mtx with waits := d.mtx.waits ++ [q] } }, m)
  else if t = 31 then (d.mtxDecode q, m)
  else
    let d := if wait || d.mtx.waits.any (fun q => targetOf q.req q.addr == t && d.mtxPlaced q) then d.setPark t 10 else d
    let d := { d with mtx := { d.mtx with waits := d.mtx.waits ++ [q] } }
    if wait then (d, m) else
    let x := d.mtxDrain m t d.mtx.waits.length
    (x.1.mtxDecodes, x.2)

/-- A request of master k at target t has waited 512 ns: the oldest joins tier A, after those that stand there. (Log entry 62 DESIGN CHOICE.) -/
def Dev.rowAgeing (d : Dev) (t k : Nat) : Dev :=
  match d.mtx.waits.find? (fun q => targetOf q.req q.addr == t && masterOf q.req == k && !q.aged) with
  | none => d
  | some q =>
    let d := d.atTick (q.since + 512)
    { d with mtx := { d.mtx with waits := d.mtx.waits.map (fun x => if x = q then { q with aged := true } else x) } }

/-- The hung access of master k completed with DECODE; the next of that master, if one queues behind it, hangs. A host request
that has timed out meanwhile is told nothing more. -/
def Dev.releaseHang (d : Dev) (k : Nat) : Dev :=
  match d.mtx.hung.find? (fun q => masterOf q.req == k) with
  | none => d
  | some q =>
    let d := { d with mtx := { d.mtx with hung := d.mtx.hung.erase q } }
    let d := d.set MTX_STATUS_HUNG (putBit (d.get MTX_STATUS_HUNG) k (d.mtx.hung.any (fun x => masterOf x.req == k)))
    let d := d.captureErr k 31 1 q.addr q.wr.isSome
    (if q.told then d else d.handOn k 1 q.addr q.wr.isSome).mtxDecodes

/-- A write of MTX_HANG_REL. -/
def Dev.rowHangRel (d : Dev) (mask : Nat) : Dev := (bitList mask 10).foldl (fun d k => d.releaseHang k) d

/-- Master k reset on its own, a DMA port's channels disabled (R409). -/
def Dev.rowMasterReset (d : Dev) (k : Nat) : Dev :=
  (if 2 ≤ k ∧ k ≤ 5 then d.dmaStopAll ((List.range 16).map (fun j => (k - 2) * 16 + j)) else d).masterReset k

/-! ## The commands -/

/-- MATRIX_ACCESS (R399): A master access reaches a matrix target port and is granted, decoded and answered. -/
def execMatrixAccess (r : Requester) (addr : Nat) (wr : Option Nat) (wide : Bool) (wait : Bool) (s : State) : Ans := s.updMem (fun d m => d.rowMatrix m r addr wr wide wait)

/-- REQUEST_AGEING (R399): A request waiting 512 ns at a target port joins tier A. -/
def execRequestAgeing (t : Fin 20) (k : Fin 10) (s : State) : Ans := s.upd (fun d => d.rowAgeing t.val k.val)

/-- HANG_RELEASE (R406): A write to MTX_HANG_REL completes a master's hung access with DECODE. -/
def execHangRelease (r : Requester) (mask : Nat) (s : State) : Ans := s.own r 0x90004 (fun d => d.rowHangRel mask)

/-- MASTER_RESET (R407): A matrix master reset on its own withdraws, completes and drops its accesses and raises
MTX_MASTER_RESET. -/
def execMasterReset (k : Fin 10) (s : State) : Ans := s.upd (fun d => d.rowMasterReset k.val)

end Sys2Proof.Machine
end

