-- ==== Sys2Proof/Machine/Reset.lean ====
section
/-! DEFINITION. Resets and bring-up: cold, module and Helm resets, the boot sequence, the lease step, the settlement, rails (R446-R463, R479). -/

namespace Sys2Proof.Machine

/-! ## Cold reset and boot (R446, R453-R457) -/

/-- Nothing in the hold is what it was: the power has been lost. (Log entries 5 DESIGN CHOICE, 51 DESIGN CHOICE.) -/
def Memory.powerLost (m : Memory) : Memory := { cells := [], gen := m.gen + 1, host := dev0.get HLD_HOST_BASE }

/-- The cold reset is held: everything at its reset value, whatever ran. PERST_N is a pin. -/
def Dev.coldReset (d : Dev) : Dev :=
  if d.rst.cold then d
  else { dev0 with out := d.out, fresh := d.fresh, rst := { dev0.rst with perst := d.rst.perst } }

/-- The steps that follow a release: the time island runs and BELL with it, the interlock watchdog is serviced, both wheelhouses are in BOOT, the hold trains. -/
def Dev.boot (d : Dev) (level src : Nat) : Dev :=
  let d := { d with rst := { d.rst with cold := false, phase := 0 } }
  d.sets [(RST_STATUS_LEVEL, level), (RST_STATUS_SOURCE, src), (FLT_STATUS_BELL_RUN, 1), (TIM_STATUS_TCXO_OK, 1), (ILK_STATUS_WD_OK, 1), (WHL_STATUS_STATE_A, 1),
    (WHL_STATUS_STATE_B, 1), (HLD_STATUS_STATE, 1)]

/-- The cold reset released. (Log entry 6 DESIGN CHOICE.) -/
def Dev.rowColdRelease (d : Dev) : Dev := if d.rst.cold then d.boot 0 0 else d

/-- The last boot step, once the hold has been brought up or found absent. -/
def Dev.rowBootDone (d : Dev) : Dev :=
  if d.rst.phase ≠ 0 ∨ d.get HLD_STATUS_STATE = 1 then d else d.setB RST_STATUS_BOOT_DONE true

/-! ## The module reset (R448-R452) -/

/-- The DECISION_REPORTs of a moor: one for each part that holds GO before its instant, to its coordinator (R134). -/
def Dev.moorReports (d : Dev) : Dev :=
  let l := (d.tide.sys.cells.filterMap (fun (c : Nat × Option Sys) => c.2)).filter (fun s =>
    s.part.isSome && (s.go || s.decision == some true) && decide (d.now < s.instant) && s.id / 2 ^ 52 != d.moduleId)
  l.foldl (fun d s => d.sendFrame 0x04 (s.id / 2 ^ 52) [s.id % 2 ^ 32, s.id / 2 ^ 32, d.moduleId]) d

/-- A staged proposal is discarded with RESET, unless its commit has started. (Log entry 57 DESIGN CHOICE.) -/
def Dev.helmSeal (d : Dev) : Dev :=
  if d.on SEAL_STATUS_STAGED && !(d.man.commit.any (fun c => c.device)) then d.discard 18 0 else d

/-- A module reset accepted, with its SOURCE and MOOR_MS: the moor starts, a staged proposal is discarded. One under way goes on alone. (Log entry 66 DEDUCED.) -/
def Dev.startModule (d : Dev) (src ms : Nat) : Dev :=
  if d.rst.phase ≠ 0 then d else
  let d := d.moorReports.helmSeal.setB RST_STATUS_HELM_BUSY false
  let d := (List.range 12).foldl (fun d n => d.abortRun n) d
  let d := (List.range 32).foldl (fun d b => d.gate b false) (d.shine .dark)
  let d := d.mapXings (fun x => { x with parts := [] })
  let d := (List.range 96).foldl (fun d b => d.setMoor b 4 true) d
  let d := { d with rst := { d.rst with phase := 1, src, moorAt := d.tick, moorMs := ms, armM := none, armH := none } }
  (d.setB FLT_STATUS_BELL_RUN false).refresh.updFaultN

/-- RST_N accepted low: BELL is held low; a module reset starts, or is joined. (Log entry 66 DEDUCED.) -/
def Dev.rowRstN (d : Dev) : Dev :=
  if d.rst.cold || d.rst.rstn then d else
  let d := { d with rst := { d.rst with rstn := true } }
  let d := if d.flt.bell then ({ d with flt := { d.flt with bell := false } }).emit (.pin 0 false) else d
  d.startModule 1 (d.get RST_CFG_MOOR_MS)

/-- The moor has lasted MOOR_MS. -/
def Dev.rowMoorEnd (d : Dev) : Dev :=
  if d.rst.phase = 1 then (d.atTick (d.rst.moorAt + d.rst.moorMs * 1000000)).endMoor else d

/-- 10.000 us after an L4 decision the module reset starts at the park decision (R299). -/
def Dev.rowL4 (d : Dev) : Dev :=
  match d.flt.l4At with
  | some t => if d.rst.phase ≠ 0 then d else ((d.atTick (t + 10000)).startModule 3 0).endMoor
  | none => d

/-- The registers of the logbook that a module reset keeps (R303, R453). -/
def keptFields : List Fld :=
  [FLT_STATUS_FROZEN, FLT_SAFE_CAUSE_CLASS, FLT_SAFE_CAUSE_LEVEL, FLT_SAFE_CAUSE_VALID, FLT_SAFE_TIME, FLT_LOG_HEAD_NEXT,
    FLT_LOG_HEAD_WRAPPED]

/-- A cell as a reset of its island leaves it: parked; its driver holds its codes, its counter in the hold stays. -/
def Cell.kept (c : Cell) (i : Nat) : Cell := { cell0 i with selB := c.selB, codeA := c.codeA, codeB := c.codeB, wear := c.wear }

/-- A cell whose driver goes to 0 V (R67). -/
def Cell.zeroed (c : Cell) (i : Nat) : Cell := { cell0 i with wear := c.wear }

/-- Every listed cell changed. -/
def mapCells (t : Tab Cell) (g : Cell → Nat → Cell) : Tab Cell :=
  ⟨(t.cells.map (fun (c : Nat × Cell) => (c.1, g c.2 c.1))).filter (fun c => decide (c.2 ≠ cell0 c.1))⟩

/-- The reports that still wait in an UP ferry port leave it before the ferry island is reset. (Log entry 66 DEDUCED.) -/
def Dev.flushReports (d : Dev) : Dev :=
  (List.range 8).foldl (fun d k =>
    if d.get (FRY_PORT_STATUS_STATE k) ≠ 2 then d else
    let p := d.fryP k
    ((p.tc0 ++ p.tc1 ++ p.tc2 ++ p.tc3).filter (fun q => q.frame.typ == 4)).foldl (fun d q => d.transmit k q) d) d

/-- Every island reset but the RST_N filter. -/
def Dev.clearIslands (d : Dev) : Dev :=
  let e := { dev0 with
    out := d.out, fresh := d.fresh
    fab := { dev0.fab with cells := mapCells d.fab.cells Cell.kept }
    flt := { dev0.flt with log := d.flt.log, seq := d.flt.seq }
    rst := { dev0.rst with cold := false, phase := 3, src := d.rst.src, rstn := d.rst.rstn, perst := d.rst.perst, rails := d.rst.rails } }
  (e.carry d keptFields).setB FLT_STATUS_FAULT_N true

/-- 3 us after the park decision. A hold that was lost and is not UP again holds nothing that is known. (Log entry 66 DEDUCED.) -/
def Dev.rowIslands (d : Dev) (m : Memory) : Dev × Memory :=
  if d.rst.phase ≠ 2 then (d, m) else
  let d := d.atTick (d.rst.parkAt + 3000)
  let d := d.switchPark ((List.range 96).filter (fun b => (d.blk b).parking.isSome))
  (d.flushReports.clearIslands, if d.hld.lost then m.lose (d.get HLD_HOST_BASE) else m)

/-- The release: RST_N is high; the drivers go to 0 V, and the boot sequence runs. (Log entry 55 DEDUCED.) -/
def Dev.rowRelease (d : Dev) : Dev :=
  if d.rst.phase ≠ 3 ∨ d.rst.cold = true then d else
  let d := { d with fab := { d.fab with cells := mapCells d.fab.cells Cell.zeroed }, rst := { d.rst with rstn := false } }
  (d.boot 1 d.rst.src).updFaultN

/-- Who reaches RST_MODULE and RST_HELM: PF0, and debug writes through the matrix (R452). -/
def mayReset : Requester → Bool
  | .fn f => f.val == 0
  | .master m => m.val == 8

/-- A write of RST_MODULE: the key arms it, or within 1.000 ms starts the reset; another value disarms it. (Log entry 66 DEDUCED.) -/
def Dev.rowKeyModule (d : Dev) (r : Requester) (v : Nat) : Dev :=
  if !mayReset r then d
  else if v % 2 ^ 32 ≠ 0x4D525354 then { d with rst := { d.rst with armM := none } }
  else if (match d.rst.armM with | some t => decide (d.tick ≤ t + 1000000) | none => false) then
    ({ d with rst := { d.rst with armM := none } }).startModule 2 (d.get RST_CFG_MOOR_MS)
  else { d with rst := { d.rst with armM := some d.tick } }

/-! ## The Helm reset (R461) -/

/-- A crossing that has reached the berth sequencers executes. (Log entry 69 DEDUCED.) -/
def Xing.past (x : Xing) : Bool := x.stage == .committed || x.stage == .flipped

/-- Work that a Helm reset keeps: a crossing past its commit, and a safety or table-stop break, which no ring asked for. -/
def Xing.stays (x : Xing) : Bool :=
  x.past || (match x.kind with | .safety _ => true | .stopBreak _ => true | _ => false)

/-- A ticket whose make no berth sequencer holds. -/
def Ticket.open_ (k : Ticket) : Bool := k.state == 1 || (k.state == 2 && !k.committed)

/-- The wheelhouses, claims and output stages. The words of the fault collector and the token keeper stay in the inlet. (Log entry 69 DEDUCED.) -/
def Dev.helmWheel (d : Dev) : Dev :=
  let d := [0, 1].foldl (fun d w => if d.whState w = 1 then d else d.masterReset w) d
  let d := { d with whl := { dev0.whl with inletR := d.whl.inletR, want := d.on RST_STATUS_LEASE_DONE } }
  let d := (d.clearRange 0x20020 0x20028).clearRange 0x20030 0x20034
  d.sets [(WHL_STATUS_ACTIVE, 0), (WHL_STATUS_MODE, 0), (WHL_STATUS_TOKEN, 0), (WHL_STATUS_REVOKED, 1), (WHL_STATUS_STATE_A, 1),
    (WHL_STATUS_STATE_B, 1), (WHL_CLAIM, 0), (WHL_CPN, 0)]

/-- Crossings: what stays goes on without its operation, whose tag is free again (16,384 is no tag). What does not stay leaves
the pipeline and the blocks. (Log entry 68 DEDUCED.) -/
def Dev.helmXings (d : Dev) : Dev :=
  let l := d.allXings
  let d := (l.filter (fun x => !x.stays)).foldl (fun d x => (d.setXing x.id none).loadParts (x.parts.filter (fun p => p.ready))) d
  let d := (l.filter Xing.past).foldl (fun d x =>
    match x.kind with
    | .op _ => d.setXing x.id (some { x with kind := .restore })
    | _ => d) d
  let keep := fun (w : Work) => match w with
    | .xing n => (d.xing n).isSome
    | .recompile _ => true
    | _ => false
  let d := { d with cmd := { d.cmd with heads := Tab.empty, fetching := Tab.empty
                                        ready := ⟨(d.cmd.ready.cells.map (fun (c : Nat × List Work) => (c.1, c.2.filter keep))).filter
                                          (fun c => decide (c.2 ≠ []))⟩ } }
  d.restartAll

/-- The open restore crossing is lost: a STRANDED ticket placed in it is STRANDED again. Its breaks are still owed. (Log entry 69 DEDUCED.) -/
def Dev.helmRestore (d : Dev) : Dev :=
  let d := d.tk.gather.foldl (fun d (x : Nat × Route) =>
    if (d.tkt x.1).state = 2 then d.updTkt x.1 (fun k => { k with state := 5, strand := 1 }) else d) d
  ({ d with tk := { d.tk with gather := [], gMoves := [], gRoom := [] } }).setList []

/-- Tables and system crossings: running tables run on; a start that is not final ends, a source being read is lost. Parts not
committed are lost; a coordinator keeps its count of votes. (Log entry 69 DEDUCED.) -/
def Dev.helmTables (d : Dev) : Dev :=
  let d := (List.range 4).foldl (fun d s =>
    match d.run s with
    | some u => if u.start = 0 then d.endRun s 3 0 else d.setRun s (some { u with startOp := none, stopOps := [] })
    | none => d) d
  let d := d.tide.tables.cells.foldl (fun d (c : Nat × Option Table) =>
    match c.2 with
    | some t =>
      let d := d.setTable c.1 (some { t with loadOp := none })
      if d.get (TID_TBL_STATUS_STATE c.1) = 1 then d.tblState c.1 6 0 else d
    | none => d) d
  let ids := d.tide.sys.cells.filterMap (fun (c : Nat × Option Sys) => c.2)
  ids.foldl (fun d s =>
    if (s.xing.bind d.xing).any Xing.past then d.setSysX s.id (some { s with part := some 16384, propOp := none })
    else if s.coord then d.setSysX s.id (some { s with part := none, xing := none, propOp := none })
    else d.setSysX s.id none) d

/-- Rings and tags; the deficits of the tolls. -/
def Dev.helmRings (d : Dev) : Dev :=
  let d := { d with cmd := { d.cmd with ops := Tab.empty, rings := Tab.empty } }
  (List.range 64).foldl (fun d f => d.set (TOL_DEFICIT f) 0) (d.clearRange 0x32000 0x33040)

/-- A Helm reset with its source: 1 REGISTER, 2 LINK, 3 PERST_N. One that meets a Helm or module reset is ignored (R447). -/
def Dev.startHelm (d : Dev) (src : Nat) : Dev :=
  if d.rst.phase ≠ 0 ∨ d.on RST_STATUS_HELM_BUSY = true then d else
  let d := d.settleTolls
  let lost := d.allOps.filter (fun o => o.makes.any (fun t => (d.tkt t).open_))
  let d := { d with rst := { d.rst with dropped := lost.length, lost := lost.flatMap Op.makes } }
  let d := d.sets [(RST_STATUS_HELM_BUSY, 1), (RST_STATUS_RPT_VALID, 0), (RST_STATUS_HELM_SRC, src)]
  (if src = 2 then d else d.masterReset 6).helmWheel.helmRestore.helmXings.helmTables.helmRings.helmSeal

/-- A write of RST_HELM. -/
def Dev.rowKeyHelm (d : Dev) (r : Requester) (v : Nat) : Dev :=
  if !mayReset r then d
  else if v % 2 ^ 32 ≠ 0x48525354 then { d with rst := { d.rst with armH := none } }
  else if (match d.rst.armH with | some t => decide (d.tick ≤ t + 1000000) | none => false) then
    ({ d with rst := { d.rst with armH := none } }).startHelm 1
  else { d with rst := { d.rst with armH := some d.tick } }

/-! ## The lease step and the settlement (R460, R462, R463) -/

/-- A write of LEASE_GO: the lease step, WH-A before WH-B, or as soon as one of them completes BOOT. -/
def Dev.rowLeaseGo (d : Dev) : Dev :=
  if !d.manLoaded || d.get WHL_STATUS_ACTIVE != 0 || d.on RST_STATUS_LEASE_DONE then d else
  match [0, 1].find? (fun w => d.whState w == 1 && (d.wh w).booted) with
  | some w => d.leaseStep w
  | none => if d.whl.want then d else { d with whl := { d.whl with want := true, stepAt := some d.tick } }

/-- One ticket settled: what no berth sequencer is to make is FREE, what none is to break returns to what it was. (Log entry 68 DEDUCED.) -/
def Dev.settleOne (d : Dev) (t : Nat) (k : Ticket) : Dev :=
  if k.tableOwned then d
  else if k.state = 1 ∨ (k.state = 2 ∧ k.committed = false ∧ (k.restoring = false ∨ d.rst.lost.contains t = true)) then d.freeTkt t 0
  else if k.state = 6 ∧ k.committed = false ∧ d.allXings.any (fun x => x.breaks.contains t || x.room.contains t) = false
  then d.reopenTkt t
  else d

/-- The report of R463. (Log entry 68 DEDUCED.) -/
def Dev.report463 (d : Dev) : Dev :=
  let n := fun (st : Nat) => (d.allTkts.filter (fun x => x.2.state == st)).length
  let d := (d.clearRange 0xE0800 0xE1000).sets [(RST_RPT_TIME, stampOf d.now), (RST_RPT_CNT0_LIT, n 3), (RST_RPT_CNT0_DEGRADED, n 4),
    (RST_RPT_CNT1_STRANDED, n 5), (RST_RPT_CNT1_DROPPED, d.rst.dropped)]
  let d := (d.allTkts.filter (fun x => x.2.state == 3 || x.2.state == 4)).foldl (fun d x =>
    d.set (RST_RPT_MAP (x.1 / 32)) (putBit (d.get (RST_RPT_MAP (x.1 / 32))) (x.1 % 32) true)) d
  d.setB RST_STATUS_RPT_VALID true

/-- The new active settles the ticket store, writes the report, and input is consumed again. (Log entry 68 DEDUCED.) -/
def Dev.rowSettle (d : Dev) : Dev :=
  if !d.on RST_STATUS_HELM_BUSY || d.get WHL_STATUS_ACTIVE == 0 then d else
  let d := d.allTkts.foldl (fun d x => d.settleOne x.1 x.2) d
  let d := d.setList (d.sortList ((d.allTkts.filter (fun x => x.2.restoring && !x.2.committed)).map (·.1)))
  let d := (d.report463.setB RST_STATUS_HELM_BUSY false).inc RST_CNT_HELM
  ({ d with rst := { d.rst with lost := [] } }).wake

/-! ## The link and PERST_N (R370, R457) -/

/-- The link is down; the functions' configuration is at its default. (Log entries 59 PRESUMED, 70 DEDUCED.) -/
def Dev.linkLost (d : Dev) : Dev :=
  let d := { d.msixReset (fun _ => true) with hst := { (d.msixReset (fun _ => true)).hst with d3 := [], vfEn := false, numVfs := 0 } }
  d.sets [(HST_STATUS_LINK_UP, 0), (HST_STATUS_RATE, 0), (HST_STATUS_WIDTH, 0), (HST_STATUS_CACHE_EN, 0), (HST_STATUS_PCIE_ONLY, 0)]

/-- A Data Link Layer down, or with hot a Hot Reset. -/
def Dev.rowLinkDown (d : Dev) (hot : Bool) : Dev :=
  if !d.linkUp then d else
  let d := d.linkLost.masterReset 6
  (if hot then d else d.raise 80 0 0 0 []).startHelm 2

/-- The host island reset: the HST registers but those of the management port, the DMA engine, the rings, the quotas and tolls,
the latches and ticket pages of the functions. (Log entry 70 DEDUCED.) -/
def Dev.hostReset (d : Dev) : Dev :=
  let d := (d.linkLost.clearRange 0x8000 0x8040).clearRange 0x8100 0x9000
  let d := ((d.clearRange 0x80000 0x88000).clearRange 0x31000 0x31100).clearRange 0x34000 0x34800
  { d with hst := { d.hst with pages := Tab.empty }
           acc := { rlatch := d.acc.rlatch.dropWhen (fun k => decide (k < 64)), wlatch := d.acc.wlatch.dropWhen (fun k => decide (k < 64)) }
           cmd := { d.cmd with tollChg := [] } }

/-- PERST_N asserted. (Log entry 70 DEDUCED.) -/
def Dev.rowPerst (d : Dev) : Dev :=
  if d.rst.perst then d else
  let d := { d with rst := { d.rst with perst := true } }
  if d.rst.cold || d.rst.phase == 3 then d else (d.startHelm 3).hostReset

/-- PERST_N released: link training starts. (Log entry 6 DESIGN CHOICE.) -/
def Dev.rowPerstRelease (d : Dev) : Dev := { d with rst := { d.rst with perst := false } }

/-! ## Rails (R479) -/

/-- Every VOA without drive reads back DARK, or what it is commanded to. (Log entry 71 DEDUCED.) -/
def Dev.voaPower (d : Dev) (on : Bool) : Dev :=
  (List.range 512).foldl (fun d o => d.setOutP o { d.outP o with rbCode := if on then (d.outP o).cmdCode else 0xFFFF }) d

/-- A rail leaves its range while the module runs (R213's numbers): a core rail is a cold reset; without drive every VOA is
DARK; without a SerDes rail every link goes down, left as HOLD_LOSS gives it. The heater and lamp rails act on the light alone. (Log entry 71 DEDUCED.) -/
def Dev.rowRailLoss (d : Dev) (m : Memory) (k : Nat) (left : List (Nat × Nat)) : Dev × Memory :=
  if d.rst.rails.contains k then (d, m)
  else if k = 0 ∨ k = 3 ∨ k = 4 then (d.coldReset, m.powerLost)
  else
    let d := { d with rst := { d.rst with rails := k :: d.rst.rails } }
    if k = 5 ∨ k = 6 then (d.voaPower false, m)
    else if k = 1 ∨ k = 2 then
      let d := (d.rowHoldLoss m left)
      let d := (List.range 16).foldl (fun d l => d.rowLockLoss l) d
      (d.rowLinkDown false, m)
    else (d, m)

/-- A rail returns within its range. (Log entry 71 DEDUCED.) -/
def Dev.rowRailReturn (d : Dev) (k : Nat) : Dev :=
  if !d.rst.rails.contains k then d else
  let d := { d with rst := { d.rst with rails := d.rst.rails.erase k } }
  if (k = 5 ∨ k = 6) ∧ d.rst.rails.any (fun j => j == 5 || j == 6) = false then d.voaPower true else d

/-! ## The commands -/

/-- COLD_RESET (R446): A core supply leaves range or TCXO_IN is absent and the cold reset is held. -/
def execColdReset (s : State) : Ans := s.updRstMem (fun d m => (d.coldReset, if d.rst.cold then m else m.powerLost))

/-- COLD_RESET_RELEASE (R456): 10 ms after all rails are in range the cold reset is released and the time island
starts. -/
def execColdResetRelease (s : State) : Ans := s.updRst (fun d => d.rowColdRelease)

/-- BOOT_DONE (R456): the boot steps end; BOOT_DONE is set and register accesses are answered. -/
def execBootDone (s : State) : Ans := s.upd (fun d => d.rowBootDone)

/-- RST_N_LOW (R448): RST_N low for 1 us is accepted and the module reset's moor starts. -/
def execRstNLow (s : State) : Ans := s.updRst (fun d => d.rowRstN)

/-- MOOR_END (R449): MOOR_MS after acceptance, or early on an opening or L3, the park decision is taken. -/
def execMoorEnd (s : State) : Ans := s.upd (fun d => d.rowMoorEnd)

/-- ISLAND_RESET (R449): 3 us after park the islands are reset with drivers at park codes and dark lines asserted. -/
def execIslandReset (s : State) : Ans := s.updMem (fun d m => d.rowIslands m)

/-- MODULE_RESET_RELEASE (R449): with RST_N high, or at once for key or L4, calibration is cleared and the boot
sequence runs. -/
def execModuleResetRelease (s : State) : Ans := s.updRst (fun d => d.rowRelease)

/-- RST_MODULE (R452): A key write to RST_MODULE arms it, or starts a module reset on the second write within 1 ms. -/
def execRstModule (r : Requester) (v : Nat) (s : State) : Ans := s.own r 0xE0010 (fun d => d.rowKeyModule r v)

/-- RST_HELM (R452): A key write to RST_HELM arms it, or starts a Helm reset on the second write within 1 ms. -/
def execRstHelm (r : Requester) (v : Nat) (s : State) : Ans := s.own r 0xE0014 (fun d => d.rowKeyHelm r v)

/-- L4_RESET (R299): 10 us after an L4 decision the module reset starts. -/
def execL4Reset (s : State) : Ans := s.upd (fun d => d.rowL4)

/-- SETTLEMENT (R462): the new active settles the ticket store and writes the post-reset report. -/
def execSettlement (s : State) : Ans := s.upd (fun d => d.rowSettle)

/-- LEASE_GO (R460): A write of RST_CTL.LEASE_GO takes the lease step, granting the token to the first booted
wheelhouse. -/
def execLeaseGo (r : Requester) (s : State) : Ans := s.own r 0xE0008 (fun d => d.rowLeaseGo)

/-- LINK_DOWN (R370): A Data Link Layer down or Hot Reset on the CXL link stops fetching and acts as a Helm reset. -/
def execLinkDown (hot : Bool) (s : State) : Ans := s.upd (fun d => d.rowLinkDown hot)

/-- PERST_N_ASSERT (R457): PERST_N asserted resets the host island and configuration space and acts as a Helm reset.
-/
def execPerstNAssert (s : State) : Ans := s.updRst (fun d => d.rowPerst)

/-- PERST_N_RELEASE (R457): PERST_N released brings the host island out of reset and starts link training. -/
def execPerstNRelease (s : State) : Ans := s.updRst (fun d => d.rowPerstRelease)

/-- RAIL_LOSS (R479): A supply rail leaves its range while the module runs and the device reacts per rail. -/
def execRailLoss (k : Fin 9) (left : List (Nat × Nat)) (s : State) : Ans := s.updMem (fun d m => d.rowRailLoss m k.val left)

/-- RAIL_RETURN (R479): A drive, heater, lamp or SerDes rail that had left its range returns within it while the
module runs. -/
def execRailReturn (k : Fin 9) (s : State) : Ans := s.upd (fun d => d.rowRailReturn k.val)

end Sys2Proof.Machine
end

