-- ==== Sys2Proof/Machine/Thermal.lean ====
section
/-! DEFINITION. Temperature sensing: the housekeeping round, the cross-check, limits, supplies (R203-R213). -/

namespace Sys2Proof.Machine

/-! ## Neighbours (R207, R208) -/

/-- The sensors of reach n: its 8 blocks' and its own. -/
def reachSensors (n : Nat) : List Nat := (List.range 8).map (fun j => 8 * n + j) ++ [96 + n]

/-- The reach of a sensor below 108. -/
def sensorReach (i : Nat) : Nat := if i < 96 then i / 8 else i - 96

/-- Twice the median of the values that the sensors of a list have, if any has one. (Log entry 54 DESIGN CHOICE.) -/
def medianOf (raw : Nat → Option Int) (l : List Nat) : Option Int :=
  let v := l.filterMap raw
  if v.isEmpty then none else some (median2 v)

/-- Four times the median of a sensor's neighbours; none without a neighbour that has a value. The neighbours of a
wheelhouse sensor are the other one and the median of the reach sensors. -/
def neighbours4 (raw : Nat → Option Int) (i : Nat) : Option Int :=
  if i < 96 then
    let l := (if i % 8 = 0 then [] else [i - 1]) ++ (if i % 8 = 7 then [] else [i + 1]) ++ [96 + i / 8]
    (medianOf raw l).map (fun m => 2 * m)
  else if i < 108 then (medianOf raw ((List.range 8).map (fun j => 8 * (i - 96) + j))).map (fun m => 2 * m)
  else
    let a := ((raw (if i = 108 then 109 else 108)).map (fun x => 2 * x)).toList
    let b := (medianOf raw ((List.range 12).map (fun n => 96 + n))).toList
    if (a ++ b).isEmpty then none else some (median2 (a ++ b))

/-- What stands in for a broken sensor; none leaves its previous value. -/
def substitute (work : Nat → Option Int) (i : Nat) : Option Int :=
  match neighbours4 work i with
  | some m => some (nearest m 4)
  | none =>
    match medianOf work (if i < 108 then reachSensors (sensorReach i) else [108, 109]) with
    | some m => some (nearest m 2)
    | none => (medianOf work (List.range 110)).map (fun m => nearest m 2)

/-- Raw values of a round, read as values of the sensors that are not broken. -/
def Dev.working (d : Dev) (raws : List (Option Int)) (i : Nat) : Option Int :=
  if d.on (THM_TEMP_BROKEN i) then none else (raws.getD i none)

/-- The values a round gives: a sensor whose gate counts fewer or more than its trim allows at -40.00 or +125.00 degC has none,
for it sets NOCOUNT (R206). -/
def inTrim (raws : List (Option Int)) : List (Option Int) :=
  raws.map (fun x => x.bind (fun v => if -4000 ≤ v ∧ v ≤ 12500 then some v else none))

/-- The sensors that become broken at a round: no count, or more than 6.00 degC from the median of their neighbours while DIAG
has the cross-check on (R206, R207, R237). -/
def Dev.breaking (d : Dev) (raws : List (Option Int)) : List Nat :=
  (List.range 110).filter (fun i =>
    !d.on (THM_TEMP_BROKEN i) && (match raws.getD i none with
      | none => true
      | some x => (match neighbours4 (d.working raws) i with
        | some m => d.diag 2 && decide (2400 < (4 * x - m).natAbs)
        | none => false)))

/-! ## The round (R205, R206) -/

/-- A round starts: the open-wire round and reference checks of survey converters with it. -/
def Dev.rowRound (d : Dev) (refs : List (Nat × List Nat)) : Dev :=
  let d := d.atTick d.thm.next
  ({ d with thm := { d.thm with round := some d.tick, next := d.tick + 20000000 } }).rounds refs

/-- Sensors reported: RAW, NOCOUNT, BROKEN, REPORTED. -/
def Dev.reportSensors (d : Dev) (raws : List (Option Int)) : Dev :=
  let new := d.breaking raws
  let d := new.foldl (fun d i => d.setB (THM_TEMP_BROKEN i) true) d
  let work := d.working raws
  let d := (List.range 110).foldl (fun d i =>
    let d := match raws.getD i none with
      | some x => (d.set (THM_RAW i) (uns 16 x)).setB (THM_TEMP_NOCOUNT i) false
      | none => (d.set (THM_RAW i) 0x8000).setB (THM_TEMP_NOCOUNT i) true
    match work i with
    | some x => d.set (THM_TEMP_REPORTED i) (uns 16 x)
    | none => (match substitute work i with
      | some x => d.set (THM_TEMP_REPORTED i) (uns 16 x)
      | none => d)) d
  d.set THM_STATUS_BROKEN ((List.range 110).filter (fun i => d.on (THM_TEMP_BROKEN i))).length

/-- The working sensors of reach n. -/
def Dev.sensorsLeft (d : Dev) (n : Nat) : Nat := ((reachSensors n).filter (fun i => !d.on (THM_TEMP_BROKEN i))).length

/-- A reported value, none before the first report. -/
def Dev.reported (d : Dev) (i : Nat) : Option Int :=
  let v := d.get (THM_TEMP_REPORTED i)
  if v = 0x8000 then none else some (sgn 16 v)

/-- Some sensor of a list reports at least lim. -/
def Dev.anyHot (d : Dev) (l : List Nat) (lim : Int) : Bool :=
  l.any (fun i => match d.reported i with | some x => decide (lim ≤ x) | none => false)

/-- The warning of a reach or of the wheelhouses comes or goes (R212). (Log entry 54 DESIGN CHOICE.) -/
def Dev.warnings (d : Dev) : Dev :=
  let warn := sgn 16 (d.get THM_CFG_WARN)
  let d := (List.range 12).foldl (fun d n =>
    let s := reachSensors n
    let m := d.get THM_STATUS_WARN_REACH
    if bit m n then (if d.anyHot s (warn - 199) then d else d.set THM_STATUS_WARN_REACH (putBit m n false))
    else if d.anyHot s warn then (d.set THM_STATUS_WARN_REACH (putBit m n true)).raise 34 4 n 0 []
    else d) d
  if d.on THM_STATUS_WARN_WH then (if d.anyHot [108, 109] (warn - 199) then d else d.setB THM_STATUS_WARN_WH false)
  else if d.anyHot [108, 109] warn then
    let w := if d.anyHot [108] warn then 0 else 1
    (d.setB THM_STATUS_WARN_WH true).logL0 34 5 w 0 (d.snap 5 w [])
  else d

/-- A reported value at or above 110.00 degC takes the module down. (Log entry 54 DESIGN CHOICE.) -/
def Dev.shutdown (d : Dev) : Dev :=
  match (List.range 110).find? (fun i => d.anyHot [i] 11000) with
  | some i => if d.on THM_STATUS_SHUTDOWN then d else (d.setB THM_STATUS_SHUTDOWN true).raise 36 8 i 0 []
  | none => d

/-- One rail reported: out of range against its nominal magnitude; SUP_RANGE at the second round in a row (R213). -/
def Dev.reportRail (d : Dev) (k : Nat) (mv : Int) : Dev :=
  let nom := railFS k / 2
  let x := if nom < 0 then -mv else mv
  let low := decide (x * 100 < nom.natAbs * 95)
  let high := decide ((nom.natAbs * 105 : Nat) < x * 100)
  let d := { d with thm := { d.thm with prev := d.thm.prev.put 0 k (d.rawReg (THM_SUPPLY_MV k).off) } }
  let d := d.sets [(THM_SUPPLY_MV k, uns 16 mv), (THM_SUPPLY_LOW k, b2n low), (THM_SUPPLY_HIGH k, b2n high)]
  let n := if low || high then min 2 (d.thm.rails.get 0 k + 1) else 0
  let was := d.thm.rails.get 0 k
  let d := { d with thm := { d.thm with rails := d.thm.rails.put 0 k n } }
  if n = 2 ∧ was = 1 then d.raise 37 9 k 0 [] else d

/-- Reach runs that the temperature trigger asks for (R193). -/
def Dev.tempTriggers (d : Dev) : Dev :=
  (bitList (d.get CAL_AUTO_EN) 12).foldl (fun d n =>
    if (List.range 8).any (fun j =>
      let b := 8 * n + j
      d.inService b && (match d.reported b with
        | some x => decide (d.get CAL_CTL_DELTA_T * 50 < (x - d.trig b).natAbs)
        | none => false))
    then d.requestRun n none else d) d

/-- The report, 1 ms after the round's start: sensors within their trim's range, the berths that follow them (R161), faults in the order of their classes,
supplies, the lamp, the thermal term of module time, calibration triggers. (Log entries 39 DESIGN CHOICE, 54 DESIGN CHOICE.) -/
def Dev.rowReport (d : Dev) (raws : List (Option Int)) (rails : List Int) (lamp : Int) : Dev :=
  match d.thm.round with
  | none => d
  | some t =>
    let d := d.atTick (t + 1000000)
    let d := { d with thm := { d.thm with round := none } }
    let raws := inTrim raws
    let new := d.breaking raws
    let left := (List.range 12).map d.sensorsLeft
    let d := d.reportSensors raws
    let d := (d.inc THM_ROUNDS).set THM_LAST (stampOf d.now)
    let d := d.set THM_LAMP_POWER (if d.on THM_LAMP_OFF then 0x8000 else uns 16 lamp)
    let d := { d with tim := { d.tim with thermal :=
      (match d.reported 108, d.reported 109 with
        | some a, some b => Config.clockTerm (a + b)
        | _, _ => d.tim.thermal) } }
    let d := d.putIncr
    let d := (List.range 96).foldl (fun d b => d.followTemp b) d
    let d := d.warnings
    let d := new.foldl (fun d i => d.raise 35 8 i 1 []) d
    let d := ((List.range 12).zip left |>.filter (fun (x : Nat × Nat) => decide (3 ≤ x.2) && decide (Dev.sensorsLeft d x.1 < 3))).foldl
      (fun d (x : Nat × Nat) => d.raise 35 8 (96 + x.1) 2 []) d
    let d := d.shutdown
    let d := (rails.take 9).zipIdx.foldl (fun d (x : Int × Nat) => d.reportRail x.2 x.1) d
    d.tempTriggers

/-! ## The commands -/

/-- HOUSEKEEPING_ROUND (R205): every 20 ms a housekeeping round starts counting sensors and reading supply monitors.
-/
def execHousekeepingRound (refs : List (Fin 24 × List Nat)) (s : State) : Ans := s.upd (fun d => d.rowRound (refs.map (fun x => (x.1.val, x.2))))

/-- HOUSEKEEPING_REPORT (R205): 1 ms after its start the round reports temperatures and supplies, with cross-check,
limits and calibration triggers. -/
def execHousekeepingReport (raws : List (Option Int)) (rails : List Int) (lamp : Int) (s : State) : Ans := s.upd (fun d => d.rowReport raws rails lamp)

end Sys2Proof.Machine
end

