-- ==== Sys2Proof/Machine/Dispatch.lean ====
section
/-! DEFINITION. One arm per command: each a direct call of its meaning. -/

namespace Sys2Proof.Machine

/-- The effect of a command on everything but the queue. -/
def exec (i : Instr) (s : State) : Host.Outcome State Fault Refusal :=
  match i with
  | .registerWrite r off wide v => Sys2Proof.Machine.execRegisterWrite r off wide v s
  | .read64Low r off => Sys2Proof.Machine.execRead64Low r off s
  | .write64High r off v => Sys2Proof.Machine.execWrite64High r off v s
  | .readClear r off wide => Sys2Proof.Machine.execReadClear r off wide s
  | .accessBadWidth r off bytes hdr fatal => Sys2Proof.Machine.execAccessBadWidth r off bytes hdr fatal s
  | .backboneWord l w bad => Sys2Proof.Machine.execBackboneWord l w bad s
  | .backboneNak l => Sys2Proof.Machine.execBackboneNak l s
  | .reachClockLoss n => Sys2Proof.Machine.execReachClockLoss n s
  | .capstanFail b conv => Sys2Proof.Machine.execCapstanFail b conv s
  | .adoptionStart b => Sys2Proof.Machine.execAdoptionStart b s
  | .lampGrant => Sys2Proof.Machine.execLampGrant s
  | .lampLeak b power => Sys2Proof.Machine.execLampLeak b power s
  | .flip x => Sys2Proof.Machine.execFlip x s
  | .berthReload b => Sys2Proof.Machine.execBerthReload b s
  | .blkReloadOverrun b => Sys2Proof.Machine.execBlkReloadOverrun b s
  | .heldbackPartExecute x b => Sys2Proof.Machine.execHeldbackPartExecute x b s
  | .voaPredark x => Sys2Proof.Machine.execVoaPredark x s
  | .prtOverpower p => Sys2Proof.Machine.execPrtOverpower p s
  | .prtVoaRb o rb => Sys2Proof.Machine.execPrtVoaRb o rb s
  | .park blocks => Sys2Proof.Machine.execPark blocks s
  | .parkSwitch => Sys2Proof.Machine.execParkSwitch s
  | .wearAdd k => Sys2Proof.Machine.execWearAdd k s
  | .wearRestore r k count => Sys2Proof.Machine.execWearRestore r k count s
  | .crossing tag => Sys2Proof.Machine.execCrossing tag s
  | .cancel g entry => Sys2Proof.Machine.execCancel g entry s
  | .tktPrio tag => Sys2Proof.Machine.execTktPrio tag s
  | .tidLoad tag src => Sys2Proof.Machine.execTidLoad tag src s
  | .tableCompileDone n => Sys2Proof.Machine.execTableCompileDone n s
  | .tidStart tag => Sys2Proof.Machine.execTidStart tag s
  | .tidStop tag => Sys2Proof.Machine.execTidStop tag s
  | .tidUnload tag => Sys2Proof.Machine.execTidUnload tag s
  | .sysPart tag => Sys2Proof.Machine.execSysPart tag s
  | .sysPropose tag => Sys2Proof.Machine.execSysPropose tag s
  | .nop tag => Sys2Proof.Machine.execNop tag s
  | .schedulerDecision => Sys2Proof.Machine.execSchedulerDecision s
  | .solve => Sys2Proof.Machine.execSolve s
  | .computeDone x => Sys2Proof.Machine.execComputeDone x s
  | .blockReady x b => Sys2Proof.Machine.execBlockReady x b s
  | .unitLost unit => Sys2Proof.Machine.execUnitLost unit s
  | .restoreSolve => Sys2Proof.Machine.execRestoreSolve s
  | .longOpen k => Sys2Proof.Machine.execLongOpen k s
  | .ticketTelemetry ins outs drains lamps => Sys2Proof.Machine.execTicketTelemetry ins outs drains lamps s
  | .tableStepCommit n => Sys2Proof.Machine.execTableStepCommit n s
  | .stepStream n => Sys2Proof.Machine.execStepStream n s
  | .tableRecompile n => Sys2Proof.Machine.execTableRecompile n s
  | .tableStop n => Sys2Proof.Machine.execTableStop n s
  | .proposal k f => Sys2Proof.Machine.execProposal k f s
  | .vote k f => Sys2Proof.Machine.execVote k f s
  | .decision k f => Sys2Proof.Machine.execDecision k f s
  | .decisionReport k f => Sys2Proof.Machine.execDecisionReport k f s
  | .voteDeadline id => Sys2Proof.Machine.execVoteDeadline id s
  | .decisionCheck id => Sys2Proof.Machine.execDecisionCheck id s
  | .timeSnapshot r => Sys2Proof.Machine.execTimeSnapshot r s
  | .offsetSample => Sys2Proof.Machine.execOffsetSample s
  | .timLossTimeout => Sys2Proof.Machine.execTimLossTimeout s
  | .timeSourceSelect r src port => Sys2Proof.Machine.execTimeSourceSelect r src port s
  | .force r => Sys2Proof.Machine.execForce r s
  | .suspend r on => Sys2Proof.Machine.execSuspend r on s
  | .replicaCheck offs => Sys2Proof.Machine.execReplicaCheck offs s
  | .tcxoLoss => Sys2Proof.Machine.execTcxoLoss s
  | .ppsInEdge => Sys2Proof.Machine.execPpsInEdge s
  | .ptpSync udp domain port theta => Sys2Proof.Machine.execPtpSync udp domain port theta s
  | .ptpAnnounce udp domain gm port => Sys2Proof.Machine.execPtpAnnounce udp domain gm port s
  | .cellLoopUpdate k rawU rawL => Sys2Proof.Machine.execCellLoopUpdate k rawU rawL s
  | .capReclose r b c => Sys2Proof.Machine.execCapReclose r b c s
  | .portGroupUpdate o raw => Sys2Proof.Machine.execPortGroupUpdate o raw s
  | .fbLostClear r o => Sys2Proof.Machine.execFbLostClear r o s
  | .privClaimLapse k => Sys2Proof.Machine.execPrivClaimLapse k s
  | .calLoad r => Sys2Proof.Machine.execCalLoad r s
  | .calLoadComplete f => Sys2Proof.Machine.execCalLoadComplete f s
  | .dump r => Sys2Proof.Machine.execDump r s
  | .dumpComplete => Sys2Proof.Machine.execDumpComplete s
  | .adcSelf r => Sys2Proof.Machine.execAdcSelf r s
  | .adcSelfComplete results => Sys2Proof.Machine.execAdcSelfComplete results s
  | .calReachReq r mask => Sys2Proof.Machine.execCalReachReq r mask s
  | .reachRunStart n circuits => Sys2Proof.Machine.execReachRunStart n circuits s
  | .reachRunEnd n sweeps => Sys2Proof.Machine.execReachRunEnd n sweeps s
  | .calSwitch n => Sys2Proof.Machine.execCalSwitch n s
  | .calAccWrite r v => Sys2Proof.Machine.execCalAccWrite r v s
  | .housekeepingRound refs => Sys2Proof.Machine.execHousekeepingRound refs s
  | .housekeepingReport raws rails lamp => Sys2Proof.Machine.execHousekeepingReport raws rails lamp s
  | .doorbell r g tail => Sys2Proof.Machine.execDoorbell r g tail s
  | .entryFetch g entry => Sys2Proof.Machine.execEntryFetch g entry s
  | .cqHeadWrite r g index => Sys2Proof.Machine.execCqHeadWrite r g index s
  | .eqHeadWrite r g index => Sys2Proof.Machine.execEqHeadWrite r g index s
  | .msixMessage g eq => Sys2Proof.Machine.execMsixMessage g eq s
  | .tollChange r p which v => Sys2Proof.Machine.execTollChange r p which v s
  | .flr f => Sys2Proof.Machine.execFlr f s
  | .manLoad r => Sys2Proof.Machine.execManLoad r s
  | .manLoadComplete f => Sys2Proof.Machine.execManLoadComplete f s
  | .manCommit r => Sys2Proof.Machine.execManCommit r s
  | .commitInstant => Sys2Proof.Machine.execCommitInstant s
  | .discard r => Sys2Proof.Machine.execDiscard r s
  | .fieldWrite r v => Sys2Proof.Machine.execFieldWrite r v s
  | .blockOut r b isIn force => Sys2Proof.Machine.execBlockOut r b isIn force s
  | .middleBlockPark b => Sys2Proof.Machine.execMiddleBlockPark b s
  | .blockIn r b => Sys2Proof.Machine.execBlockIn r b s
  | .blockEnterService b => Sys2Proof.Machine.execBlockEnterService b s
  | .sealClose r => Sys2Proof.Machine.execSealClose r s
  | .propose r => Sys2Proof.Machine.execPropose r s
  | .proposalStage f => Sys2Proof.Machine.execProposalStage f s
  | .withdraw r => Sys2Proof.Machine.execWithdraw r s
  | .approveA r => Sys2Proof.Machine.execApproveA r s
  | .approval k mac f => Sys2Proof.Machine.execApproval k mac f s
  | .proposalExpiry => Sys2Proof.Machine.execProposalExpiry s
  | .sealApply => Sys2Proof.Machine.execSealApply s
  | .keyLoad k mac f => Sys2Proof.Machine.execKeyLoad k mac f s
  | .statusReq k mac f => Sys2Proof.Machine.execStatusReq k mac f s
  | .timeWord read => Sys2Proof.Machine.execTimeWord read s
  | .commitPointClose words => Sys2Proof.Machine.execCommitPointClose words s
  | .cpnReply isMatch => Sys2Proof.Machine.execCpnReply isMatch s
  | .compareTimeout => Sys2Proof.Machine.execCompareTimeout s
  | .knownAnswerDone act stb => Sys2Proof.Machine.execKnownAnswerDone act stb s
  | .outputStageWord k w claim cpn fin => Sys2Proof.Machine.execOutputStageWord k w claim cpn fin s
  | .claimRaise w => Sys2Proof.Machine.execClaimRaise w s
  | .tokenRequest w => Sys2Proof.Machine.execTokenRequest w s
  | .leaseRenew => Sys2Proof.Machine.execLeaseRenew s
  | .leaseLapse => Sys2Proof.Machine.execLeaseLapse s
  | .heartbeat w bb wire => Sys2Proof.Machine.execHeartbeat w bb wire s
  | .heartbeatLoss w bb wire => Sys2Proof.Machine.execHeartbeatLoss w bb wire s
  | .fatal w => Sys2Proof.Machine.execFatal w s
  | .swap r => Sys2Proof.Machine.execSwap r s
  | .fail r w => Sys2Proof.Machine.execFail r w s
  | .resync r w => Sys2Proof.Machine.execResync r w s
  | .bootComplete w ok => Sys2Proof.Machine.execBootComplete w ok s
  | .bootTimeout w => Sys2Proof.Machine.execBootTimeout w s
  | .resyncComplete w slice bist kat inj => Sys2Proof.Machine.execResyncComplete w slice bist kat inj s
  | .healthReport w slice bist kat inj => Sys2Proof.Machine.execHealthReport w slice bist kat inj s
  | .fault faults => Sys2Proof.Machine.execFault faults s
  | .safeTicketsStranded => Sys2Proof.Machine.execSafeTicketsStranded s
  | .l4Reset => Sys2Proof.Machine.execL4Reset s
  | .classTimerExpiry c => Sys2Proof.Machine.execClassTimerExpiry c s
  | .acknowledge r c => Sys2Proof.Machine.execAcknowledge r c s
  | .unfreeze r => Sys2Proof.Machine.execUnfreeze r s
  | .contactEdge k a c => Sys2Proof.Machine.execContactEdge k a c s
  | .contactAccept k a closed => Sys2Proof.Machine.execContactAccept k a closed s
  | .darkConfirm => Sys2Proof.Machine.execDarkConfirm s
  | .discrepancy k => Sys2Proof.Machine.execDiscrepancy k s
  | .discClear r mask => Sys2Proof.Machine.execDiscClear r mask s
  | .slotRestart r mask => Sys2Proof.Machine.execSlotRestart r mask s
  | .safeOkReadback => Sys2Proof.Machine.execSafeOkReadback s
  | .ilkWatchdog => Sys2Proof.Machine.execIlkWatchdog s
  | .testDarkening fails => Sys2Proof.Machine.execTestDarkening fails s
  | .safetyStateSend e => Sys2Proof.Machine.execSafetyStateSend e s
  | .safety k f => Sys2Proof.Machine.execSafety k f s
  | .safetyAck k f => Sys2Proof.Machine.execSafetyAck k f s
  | .safetyCopyTimeout k which => Sys2Proof.Machine.execSafetyCopyTimeout k which s
  | .frameForward k f => Sys2Proof.Machine.execFrameForward k f s
  | .ferryPortEnable r k on => Sys2Proof.Machine.execFerryPortEnable r k on s
  | .hello k f => Sys2Proof.Machine.execHello k f s
  | .helloSend k => Sys2Proof.Machine.execHelloSend k s
  | .portUp k skew0 skew1 => Sys2Proof.Machine.execPortUp k skew0 skew1 s
  | .sailingWindow k codewords => Sys2Proof.Machine.execSailingWindow k codewords s
  | .nak k f => Sys2Proof.Machine.execNak k f s
  | .replayTimeout k => Sys2Proof.Machine.execReplayTimeout k s
  | .violationSecond k => Sys2Proof.Machine.execViolationSecond k s
  | .lockLoss lane => Sys2Proof.Machine.execLockLoss lane s
  | .lockRetrain k => Sys2Proof.Machine.execLockRetrain k s
  | .exchangeStart k => Sys2Proof.Machine.execExchangeStart k s
  | .sync k f => Sys2Proof.Machine.execSync k f s
  | .delayReq k f => Sys2Proof.Machine.execDelayReq k f s
  | .delayResp k f => Sys2Proof.Machine.execDelayResp k f s
  | .exchangeAbandon k => Sys2Proof.Machine.execExchangeAbandon k s
  | .telemetrySend => Sys2Proof.Machine.execTelemetrySend s
  | .telemetry k f => Sys2Proof.Machine.execTelemetry k f s
  | .trigger k f => Sys2Proof.Machine.execTrigger k f s
  | .arpRequest ip sip mac => Sys2Proof.Machine.execArpRequest ip sip mac s
  | .mgmtFrameDrop fcs => Sys2Proof.Machine.execMgmtFrameDrop fcs s
  | .hostSnoop => Sys2Proof.Machine.execHostSnoop s
  | .hostRequestTimeout f hdr fatal => Sys2Proof.Machine.execHostRequestTimeout f hdr fatal s
  | .poisonWrite f hdr fatal => Sys2Proof.Machine.execPoisonWrite f hdr fatal s
  | .readFail kind hdr fatal op => Sys2Proof.Machine.execReadFail kind hdr fatal op s
  | .unexpectedCpl f hdr fatal => Sys2Proof.Machine.execUnexpectedCpl f hdr fatal s
  | .linkDown hot => Sys2Proof.Machine.execLinkDown hot s
  | .perstNAssert => Sys2Proof.Machine.execPerstNAssert s
  | .perstNRelease => Sys2Proof.Machine.execPerstNRelease s
  | .powerStateChange f d3 noSoft => Sys2Proof.Machine.execPowerStateChange f d3 noSoft s
  | .i2cPointerWrite hi lo => Sys2Proof.Machine.execI2cPointerWrite hi lo s
  | .i2cRead n => Sys2Proof.Machine.execI2cRead n s
  | .holdUp e => Sys2Proof.Machine.execHoldUp e s
  | .holdLoss left => Sys2Proof.Machine.execHoldLoss left s
  | .holdPoison u => Sys2Proof.Machine.execHoldPoison u s
  | .wearFlush r => Sys2Proof.Machine.execWearFlush r s
  | .wearFlushDone => Sys2Proof.Machine.execWearFlushDone s
  | .historyRecord => Sys2Proof.Machine.execHistoryRecord s
  | .holdEnable r on => Sys2Proof.Machine.execHoldEnable r on s
  | .dmaStart r c => Sys2Proof.Machine.execDmaStart r c s
  | .dmaArm r c => Sys2Proof.Machine.execDmaArm r c s
  | .dmaDisable r c on done => Sys2Proof.Machine.execDmaDisable r c on done s
  | .dmaDrained c => Sys2Proof.Machine.execDmaDrained c s
  | .dmaComplete c err left addr data => Sys2Proof.Machine.execDmaComplete c err left addr data s
  | .matrixAccess r addr wr wide wait => Sys2Proof.Machine.execMatrixAccess r addr wr wide wait s
  | .requestAgeing t k => Sys2Proof.Machine.execRequestAgeing t k s
  | .hangRelease r mask => Sys2Proof.Machine.execHangRelease r mask s
  | .masterReset k => Sys2Proof.Machine.execMasterReset k s
  | .svyReq r c w => Sys2Proof.Machine.execSvyReq r c w s
  | .conversionDone c samples => Sys2Proof.Machine.execConversionDone c samples s
  | .svyResPop r c => Sys2Proof.Machine.execSvyResPop r c s
  | .injectionTrigger c => Sys2Proof.Machine.execInjectionTrigger c s
  | .openWireStep c raw1 raw2 => Sys2Proof.Machine.execOpenWireStep c raw1 raw2 s
  | .recArm r n => Sys2Proof.Machine.execRecArm r n s
  | .recArmTimeReached n => Sys2Proof.Machine.execRecArmTimeReached n s
  | .disarm r n => Sys2Proof.Machine.execDisarm r n s
  | .recForce r n => Sys2Proof.Machine.execRecForce r n s
  | .recMark r n v => Sys2Proof.Machine.execRecMark r n v s
  | .preFilled n => Sys2Proof.Machine.execPreFilled n s
  | .sequencerBranch n => Sys2Proof.Machine.execSequencerBranch n s
  | .sequencerTimer n t => Sys2Proof.Machine.execSequencerTimer n t s
  | .fireInstant n => Sys2Proof.Machine.execFireInstant n s
  | .captureDone n => Sys2Proof.Machine.execCaptureDone n s
  | .coldReset => Sys2Proof.Machine.execColdReset s
  | .coldResetRelease => Sys2Proof.Machine.execColdResetRelease s
  | .bootDone => Sys2Proof.Machine.execBootDone s
  | .rstNLow => Sys2Proof.Machine.execRstNLow s
  | .moorEnd => Sys2Proof.Machine.execMoorEnd s
  | .islandReset => Sys2Proof.Machine.execIslandReset s
  | .moduleResetRelease => Sys2Proof.Machine.execModuleResetRelease s
  | .rstModule r v => Sys2Proof.Machine.execRstModule r v s
  | .rstHelm r v => Sys2Proof.Machine.execRstHelm r v s
  | .settlement => Sys2Proof.Machine.execSettlement s
  | .leaseGo r => Sys2Proof.Machine.execLeaseGo r s
  | .railLoss k left => Sys2Proof.Machine.execRailLoss k left s
  | .flClear r l => Sys2Proof.Machine.execFlClear r l s
  | .flInject r l n => Sys2Proof.Machine.execFlInject r l n s
  | .bbInject r p n => Sys2Proof.Machine.execBbInject r p n s
  | .bbClear r p => Sys2Proof.Machine.execBbClear r p s
  | .gangwayGo r => Sys2Proof.Machine.execGangwayGo r s
  | .gangwayTestDone => Sys2Proof.Machine.execGangwayTestDone s
  | .holdTestMode r mode => Sys2Proof.Machine.execHoldTestMode r mode s
  | .enterCompliance => Sys2Proof.Machine.execEnterCompliance s
  | .codeword k h uncorr corr0 corr1 => Sys2Proof.Machine.execCodeword k h uncorr corr0 corr1 s
  | .ppsOut => Sys2Proof.Machine.execPpsOut s
  | .bellToggle => Sys2Proof.Machine.execBellToggle s
  | .reachClockReturn n => Sys2Proof.Machine.execReachClockReturn n s
  | .correctedMediaError => Sys2Proof.Machine.execCorrectedMediaError s
  | .cxlTrainingEnd rate width cxl => Sys2Proof.Machine.execCxlTrainingEnd rate width cxl s
  | .configurationRequest f c => Sys2Proof.Machine.execConfigurationRequest f c s
  | .urOther f hdr fatal => Sys2Proof.Machine.execUrOther f hdr fatal s
  | .malformedTlp cache f hdr fatal => Sys2Proof.Machine.execMalformedTlp cache f hdr fatal s
  | .railReturn k => Sys2Proof.Machine.execRailReturn k s
  | .prbsCheckerLock k rx par => Sys2Proof.Machine.execPrbsCheckerLock k rx par s
  | .safetyAckTimeout e netA => Sys2Proof.Machine.execSafetyAckTimeout e netA s
  | .remoteArmInstant g => Sys2Proof.Machine.execRemoteArmInstant g s
  | .darkConfirmTimeout o => Sys2Proof.Machine.execDarkConfirmTimeout o s

end Sys2Proof.Machine
end

