-- ==== Sys2Proof/Machine/Step.lean ====
section
/-! DEFINITION. One step: the command at the front of the queue, or one tick of the time island when none waits. -/

namespace Sys2Proof.Machine

/-- The command at the front runs on the state with the rest of the queue; with no command waiting one tick of the time island
passes (R139, R140: a tick is no command of the table), and none while a reset is held. (Log entries 1 DESIGN CHOICE, 2 DESIGN CHOICE.) -/
def step (s : State) : Host.Outcome State Fault Refusal :=
  match s.pending with
  | c :: rest => exec c { s with pending := rest }
  | [] => if s.held then .next s else .next { s with dev := s.dev.ticks 1 }

/-- The state with the command that a word spells put at the front of its queue; the state itself where it spells none. (Log entry 9 DESIGN CHOICE.) -/
def State.withFetchWord (s : State) (nbits w : Nat) : State :=
  match decodeTableWord nbits w with
  | some c => { s with pending := c :: s.pending }
  | none => s

end Sys2Proof.Machine
end

