-- ==== Sys2Proof/Safety.lean ====
section
/-! DEFINITION. The terms that claims about the block are made in: when commands have their effect, what a command does, what a run must keep. -/

namespace Sys2Proof.Machine

/-- No reset is held (R446, R449): every command has its effect. -/
def State.live (s : State) : Prop := s.held = false

/-- The block answers register accesses (R456). -/
def State.answers (s : State) : Prop := s.held = false ∧ s.dev.on RST_STATUS_BOOT_DONE = true

/-- An access at a PF0 offset reaches its register: no reset is held, the block answers (R456; the debug master's TST accesses before
that too), the requester can name the register (R361, R362) and its island can be reached (R403, R411). -/
def Reached (s : State) (r : Requester) (off : Nat) : Prop :=
  s.held = false ∧ (s.dev.on RST_STATUS_BOOT_DONE = true ∨ debugTst r off = true) ∧ canName r off = true ∧ s.dev.respAt off = 0

/-- The requester and the PF0 offset of a command that is the write of a register with a row of its own. -/
def ownRow : Instr → Option (Requester × Nat)
  | .wearRestore r k _ => some (r, 0x200008 + k.val / 144 * 0x2000 + k.val % 144 * 32)
  | .timeSourceSelect r _ _ => some (r, 0x50000)
  | .force r => some (r, 0x50000)
  | .suspend r _ => some (r, 0x50000)
  | .capReclose r b _ => some (r, 0x201330 + b.val * 0x2000)
  | .fbLostClear r o => some (r, 0x380048 + o.val * 0x400)
  | .calLoad r => some (r, 0xD0000)
  | .dump r => some (r, 0xD0000)
  | .adcSelf r => some (r, 0xD0000)
  | .calReachReq r _ => some (r, 0xD000C)
  | .calAccWrite r _ => some (r, 0xD0038)
  | .doorbell r g _ => some (r, 0x32020 + g.val * 0x40)
  | .cqHeadWrite r g _ => some (r, 0x32028 + g.val * 0x40)
  | .eqHeadWrite r g _ => some (r, 0x3202C + g.val * 0x40)
  | .tollChange r p which _ => some (r, 0x34000 + p.val * 0x20 + tollOffset which)
  | .manLoad r => some (r, 0x10000)
  | .manCommit r => some (r, 0x10000)
  | .discard r => some (r, 0x10000)
  | .fieldWrite r _ => some (r, 0x10044)
  | .blockOut r b _ _ => some (r, 0x10100 + b.val * 4)
  | .blockIn r b => some (r, 0x10100 + b.val * 4)
  | .sealClose r => some (r, 0x18000)
  | .propose r => some (r, 0x18000)
  | .withdraw r => some (r, 0x18000)
  | .approveA r => some (r, 0x18000)
  | .swap r => some (r, 0x20004)
  | .fail r _ => some (r, 0x20004)
  | .resync r _ => some (r, 0x20004)
  | .acknowledge r _ => some (r, 0x6000C)
  | .unfreeze r => some (r, 0x60004)
  | .discClear r _ => some (r, 0x68008)
  | .slotRestart r _ => some (r, 0x68004)
  | .ferryPortEnable r k _ => some (r, 0x70100 + k.val * 0x40)
  | .wearFlush r => some (r, 0x88000)
  | .holdEnable r _ => some (r, 0x88000)
  | .dmaStart r c => some (r, 0x80114 + c.val * 0x40)
  | .dmaArm r c => some (r, 0x80134 + c.val * 0x40)
  | .dmaDisable r c _ _ => some (r, 0x80114 + c.val * 0x40)
  | .hangRelease r _ => some (r, 0x90004)
  | .svyReq r c _ => some (r, 0xA0100 + c.val * 0x40)
  | .recArm r n => some (r, 0xB1000 + n.val * 0x200)
  | .disarm r n => some (r, 0xB1000 + n.val * 0x200)
  | .recForce r n => some (r, 0xB1000 + n.val * 0x200)
  | .recMark r n _ => some (r, 0xB1014 + n.val * 0x200)
  | .rstModule r _ => some (r, 0xE0010)
  | .rstHelm r _ => some (r, 0xE0014)
  | .leaseGo r => some (r, 0xE0008)
  | .flClear r _ => some (r, 0xE1100)
  | .flInject r _ _ => some (r, 0xE1100)
  | .bbInject r _ _ => some (r, 0xE1400)
  | .bbClear r _ => some (r, 0xE1400)
  | .gangwayGo r => some (r, 0xE1800)
  | .holdTestMode r _ => some (r, 0xE1A00)
  | _ => none

/-- The command completes, and its next state differs from the state in the device alone, which becomes d: the bytes of the
hold and the queue stay. -/
def Does (c : Instr) (s : State) (d : Dev) : Prop := exec c s = .next { s with dev := d }

/-- The command completes, the bytes of the hold and the queue stay, and the device it leaves satisfies P. -/
def Makes (c : Instr) (s : State) (P : Dev → Prop) : Prop := ∃ d, Does c s d ∧ P d

/-- The command completes, the queue stays, and the device and the hold's bytes it leaves satisfy P. -/
def MakesMem (c : Instr) (s : State) (P : Dev → Memory → Prop) : Prop :=
  ∃ d m, exec c s = .next { s with dev := d, mem := m } ∧ P d m

/-- Device e differs from d in register fields alone, and only in the fields listed. -/
def OnlyFields (d e : Dev) (l : List Fld) : Prop :=
  e = { d with regs := e.regs } ∧ ∀ f : Fld, (∀ g ∈ l, f.key ≠ g.key) → e.get f = d.get f

/-- What every step keeps: the bytes of the hold stay in their one canonical form. -/
def State.sound (s : State) : Prop := s.mem.wf = true

/-- The commands of the reset logic, which act while a reset is held. -/
def resetLogic : Instr → Bool
  | .coldReset => true
  | .coldResetRelease => true
  | .rstNLow => true
  | .moduleResetRelease => true
  | .perstNAssert => true
  | .perstNRelease => true
  | _ => false

/-- The commands that can change a byte of the hold: DMA and its failing reads, the matrix, the history record, and what makes
its contents undefined or takes its power. -/
def storesHold : Instr → Bool
  | .dmaComplete _ _ _ _ _ => true
  | .dmaDisable _ _ _ _ => true
  | .holdPoison (.dma _ _ _) => true
  | .readFail _ _ _ _ => true
  | .matrixAccess _ _ _ _ _ => true
  | .historyRecord => true
  | .holdUp _ => true
  | .holdEnable _ _ => true
  | .islandReset => true
  | .coldReset => true
  | .railLoss _ _ => true
  | _ => false

/-- The device as the admission row of operation o finds it: its place's toll settled and in effect, o taken from the head of its queue. -/
def atHead (d : Dev) (o : Op) : Dev := (d.atDecision (queueOf o.ring)).takeHead (queueOf o.ring) (.op o.tag)

/-- Operation o stands at the head of its queue, with opcode n and at most one item in the entry itself, can be admitted, and passes
the checks of admission. -/
def Admittable (d : Dev) (o : Op) (n : Nat) : Prop :=
  d.op o.tag = some o ∧ (d.atDecision (queueOf o.ring)).op o.tag = some o ∧ o.ring ≤ 64 ∧ o.fn < 64 ∧ o.entry.items < 2 ∧ d.acting = true
    ∧ (d.atDecision (queueOf o.ring)).admissible o.tag n = true ∧ (atHead d o).checks o = 0

/-- No submission ring is read coherently (R216). -/
def Dev.plainRings (d : Dev) : Prop := ∀ g : Nat, g < 65 → d.on (RING_CFG_SQ_COH g) = false

/-- A frame that passes the checks of its receiving port (R339, R342): the port UP and not discarding, its CRC, length, type,
sequence number and class right. -/
def Passes (d : Dev) (k : Nat) (f : Frame) (c : Nat) (sq : Bool) : Prop :=
  d.get (FRY_PORT_STATUS_STATE k) = 2 ∧ (d.fryP k).discard = false ∧ f.crcOk = true ∧ 64 ≤ f.length ∧ f.length ≤ 1024 ∧ f.length % 8 = 0
    ∧ (∃ n, typeRow f.typ = some (c, n, sq)) ∧ (sq = true → f.lseq % 4096 = (d.fryP k).rx ∧ (d.fryP k).rx < 4096)
    ∧ f.cls = c ∧ (c < 3 → f.win = true) ∧ lengthOk f.typ f.length = true ∧ (f.typ = 0x20 → d.safetyA k = true)

/-- A frame that its receiving port hands on to this module alone (R331). -/
def GoodFrame (d : Dev) (k : Nat) (f : Frame) (c : Nat) (sq : Bool) : Prop :=
  Passes d k f c sq ∧ (linkLocal f.typ = true ∨ f.bcast = false ∧ f.dst = d.moduleId)

end Sys2Proof.Machine
end

