-- ==== Sys2Proof/Certificates/Slice0/Obligations.lean ====
section
/-! DEFINITION. The statements about the block that the provers prove, each from the rules of spec/ that its docstring names. -/

open Sys2Proof Sys2Proof.Machine

/-! ## The queue, resets and the hold's bytes -/

/-- A step runs the command at the front of the queue on the state with the rest of it; with no command waiting it is one tick
of the time island (R139, R140), and none while a reset is held. (The idle tick is the model's choice, log entry 2.) -/
def Obligations.StepRunsFrontCommand : Prop :=
  (∀ (c : Instr) (s : State), step { s with pending := c :: s.pending } = exec c s)
  ∧ (∀ s : State, s.pending = [] → s.live → step s = .next { s with dev := s.dev.ticks 1 })
  ∧ (∀ s : State, s.pending = [] → s.held = true → step s = .next s)

/-- After a cold reset that is still held: module time 0 and UNSET (R140, R145), no ticket held and the epoch counter at 1
(R84), every cell in its park state with both berth codes 0 (R55, R67), every VOA DARK, the dark line of every output asserted
(R324), the manifest not loaded (R247), no occurrence open, every byte of the hold 0, no command waiting.
(The model's choices: what log entries 5, 6, 7 name.) -/
def Obligations.ResetState : Prop :=
  State.reset.held = true ∧ State.reset.pending = [] ∧ State.reset.dev.mt = 0 ∧ State.reset.dev.get TIM_STATUS_STATE = 0
  ∧ State.reset.dev.get TIM_INCR = 2 ^ 32 ∧ State.reset.dev.tk.epoch = 1
  ∧ (∀ t : Nat, (State.reset.dev.tkt t).state = 0)
  ∧ (∀ i : Nat, (State.reset.dev.cell i).cross = parkState i ∧ (State.reset.dev.cell i).codeA = 0 ∧ (State.reset.dev.cell i).codeB = 0)
  ∧ (∀ o : Nat, State.reset.dev.on (FAB_VOA_STATUS_DARK o) = true ∧ State.reset.dev.get (FAB_VOA_STATUS_ATTEN o) = 0xFFFF)
  ∧ (∀ o : Fin 512, State.reset.dev.darkLine o.val = true)
  ∧ State.reset.dev.manLoaded = false ∧ (∀ c : Nat, (State.reset.dev.occ c).level = 0)
  ∧ (∀ a : Nat, State.reset.mem.byte a = 0)

/-- The bytes of the hold are in their canonical form after reset. -/
def Obligations.ResetSound : Prop := State.reset.sound

/-- Every step keeps the bytes of the hold in their one canonical form: addresses strictly rising, no entry equal to what its
address reads as unlisted. -/
def Obligations.StepKeepsSound : Prop := ∀ s t : State, s.sound → step s = .next t → t.sound

/-- No command is refused and none ends a run: every command answers a next state, and takes nothing from and adds nothing to
the queue. -/
def Obligations.EveryCommandCompletes : Prop := ∀ (c : Instr) (s : State), ∃ t, exec c s = .next t ∧ t.pending = s.pending

/-- While a reset is held (R446, R449) no command but those of the reset logic changes anything. -/
def Obligations.HeldResetStopsAll : Prop :=
  ∀ (c : Instr) (s : State), resetLogic c = false → s.held = true → exec c s = .next s

/-- Every other command leaves every byte of the hold as it was (R379: the hold is written by the users the spec names). -/
def Obligations.HoldFrame : Prop :=
  ∀ (c : Instr) (s t : State), storesHold c = false → exec c s = .next t → t.mem = s.mem ∧ ∀ a : Nat, t.mem.byte a = s.mem.byte a

/-! ## Register accesses -/

/-- What a write makes of one field of a register, by its access code (R10), old the device before the write. RW takes the written bits where its
values take them and its class lets it, and so does SL while the seal is open; a value that it does not take is a reserved encoding (R12), and
a field that is FROZEN now keeps its value (R13): both are owed to the write and told once when all its fields are done. RO, RC and WO stay, W1C clears exactly the bits written as 1, or all of
them where the register says so, W1S sets exactly those; SL and the key words stay while the seal is closed, and a seal refusal is owed.
(The model's choices: what log entry 11 names.) -/
def Obligations.AccessCodes : Prop :=
  (∀ (x : Writing) (old : Dev) (r : Requester) (whole : Bool) (dist word : Nat) (rf : RegField), rf.own = false →
    let f := rf.fld.at dist
    let v := bits word f.lo f.w
    let y := x.field old r whole dist word rf
    let fits := (rf.ok = [] ∨ ∃ i ∈ rf.ok, i.1 ≤ v ∧ v ≤ i.2) ∧ old.takes_ r f v word = true
    let free := ∀ e, rf.frozen = some e → old.on (e.at dist) = false
    ((rf.acc = .rw ∨ rf.acc = .sl ∧ old.on SEAL_STATUS_CLOSED = false) →
      (fits → free → y = { x with dev := y.dev } ∧ y.dev.get f = v ∧ OnlyFields x.dev y.dev [f])
      ∧ (¬ fits → y = { x with bad := true })
      ∧ (fits → ¬ free → v ≠ old.get f → y = { x with frozen := true }))
    ∧ ((rf.acc = .ro ∨ rf.acc = .rc ∨ rf.acc = .wo) → y = x)
    ∧ (rf.acc = .w1c → y.dev.get f = (old.get f - Nat.land (old.get f) v) % 2 ^ f.w ∧ OnlyFields x.dev y.dev [f])
    ∧ (rf.acc = .w1call → (v = 0 → y = x) ∧ (v ≠ 0 → y.dev.get f = 0 ∧ OnlyFields x.dev y.dev [f]))
    ∧ (rf.acc = .w1s → y.dev.get f = Nat.lor (old.get f) v % 2 ^ f.w ∧ OnlyFields x.dev y.dev [f])
    ∧ ((rf.acc = .sl ∨ rf.acc = .sk) → old.on SEAL_STATUS_CLOSED = true → y = { x with sealed := true }))
  ∧ (∀ d : Dev, (Writing.mk d false false false).told = d ∧ (Writing.mk d false true false).told = d.badEncoding
    ∧ (Writing.mk d false false true).told = d.frozenWrite ∧ (Writing.mk d true false false).told = d.sealRefuse 2 0)

/-- A plain register written and read: PF0 writes a 32-bit RW register (HST_MGMT_IPV4), which takes the value and nothing else
changes but the requester's latches (R8, R10); a 64-bit register (MAN_ADDR) takes a 64-bit write at once, and two 32-bit
writes, low word first, with the high one (R8); a high word whose low word was not written just before is ignored and logged as a register encoding error.
The read accesses that change state: a 32-bit read of the low word of a 64-bit register (MAN_ADDR) answers it and latches
the high word for that requester (R8); a read of an RC field (HST_CNT_UR) answers its value and clears it (R11). No other
register changes.
A write with a row of its own, of a register that the requester cannot name, does nothing (R361); of one whose island cannot be reached
it has no effect and gets that error response (R403, R404, R411).
A function's MSI-X table takes a word and answers it (R502).
(The model's choices: what log entries 10, 11, 61, 97 name.) -/
def Obligations.RegisterAccesses : Prop :=
  (∀ (s : State) (v : Nat), s.answers → s.dev.pairFailed 15 = false →
    Makes (.registerWrite (.fn 0) 0x8050 false v) s (fun d =>
      d.get HST_MGMT_IPV4 = v % 2 ^ 32 ∧ d = { s.dev with regs := d.regs, acc := d.acc }
        ∧ ∀ f : Fld, f.key ≠ HST_MGMT_IPV4.key → d.get f = s.dev.get f))
  ∧ (∀ (s : State) (v : Nat), s.answers →
    Makes (.registerWrite (.fn 0) 0x10008 true v) s (fun d =>
      d.get MAN_ADDR = v / 64 % 2 ^ 58 ∧ d = { s.dev with regs := d.regs, acc := d.acc }
        ∧ ∀ f : Fld, f.key ≠ MAN_ADDR.key → d.get f = s.dev.get f))
  ∧ (∀ (s : State) (lo hi : Nat), s.answers → lo < 2 ^ 32 → s.dev.acc.wlatch.get none 0 = some (0x10008, lo) →
    Makes (.write64High (.fn 0) 0x1000C hi) s (fun d =>
      d.get MAN_ADDR = (lo + hi % 2 ^ 32 * 2 ^ 32) / 64 ∧ d = { s.dev with regs := d.regs, acc := d.acc }
        ∧ ∀ f : Fld, f.key ≠ MAN_ADDR.key → d.get f = s.dev.get f))
  ∧ (∀ (s : State) (hi : Nat), s.answers → s.dev.acc.wlatch.get none 0 = none →
    Does (.write64High (.fn 0) 0x1000C hi) s (s.dev.unlatch (.fn 0)).badEncoding)
  ∧ (∀ s : State, s.answers →
    Makes (.read64Low (.fn 0) 0x10008) s (fun d =>
      d.out = s.dev.out ++ [.answer 0 0x10008 (s.dev.get MAN_ADDR * 64 % 2 ^ 32)]
        ∧ d.acc.rlatch.get none 0 = some (0x10008, s.dev.get MAN_ADDR * 64 / 2 ^ 32 % 2 ^ 32)
        ∧ d = { s.dev with out := d.out, acc := d.acc }))
  ∧ (∀ s : State, s.answers → s.dev.pairFailed 15 = false →
    Makes (.readClear (.fn 0) 0x8030 false) s (fun d =>
      d.out = s.dev.out ++ [.answer 0 0x8030 (s.dev.get HST_CNT_UR % 2 ^ 32)]
        ∧ d.get HST_CNT_UR = 0 ∧ d = { s.dev with regs := d.regs, out := d.out, acc := d.acc }
        ∧ ∀ f : Fld, f.key ≠ HST_CNT_UR.key → d.get f = s.dev.get f))
  ∧ (∀ (s : State) (c : Instr) (r : Requester) (off : Nat), ownRow c = some (r, off) → canName r off = false → exec c s = .next s)
  ∧ (∀ (s : State) (c : Instr) (r : Requester) (off : Nat), ownRow c = some (r, off) → s.answers → canName r off = true → s.dev.respAt off ≠ 0 →
    Does c s (s.dev.respond (masterOf r) (targetAt off) (s.dev.respAt off) off true))
  ∧ (∀ (s : State) (v : Fin 2048) (x : Nat), s.answers → (s.dev.msixEnt 0 v).pend = false →
    Makes (.registerWrite (.fn 0) (0x4000008 + 16 * v) false x) s (fun d =>
      d.msixEnt 0 v = { s.dev.msixEnt 0 v with data := x % 2 ^ 32 } ∧ (∀ n : Nat, n ≠ v → d.msixEnt 0 n = s.dev.msixEnt 0 n)
        ∧ d = { s.dev with hst := d.hst }))
  ∧ (∀ (s : State) (v : Fin 2048), s.answers →
    Does (.read64Low (.fn 0) (0x4000008 + 16 * v)) s (s.dev.emit (.answer 0 (0x4000008 + 16 * v) (s.dev.msixEnt 0 v).data)))

/-- An access of another width than 4 or 8 bytes, or misaligned, does nothing but complete with Unsupported Request and be
logged as a host event of kind 1 (R9, R368); a matrix master gets the response TARGET.
(The model's choices: what log entry 61 names.) -/
def Obligations.BadWidthRefused : Prop :=
  (∀ (s : State) (f : Fin 64) (off bytes : Nat) (hdr : List Nat) (fatal : Bool), s.answers → inSpace (.fn f) off = true →
    bytes ≠ 4 → bytes ≠ 8 →
    Does (.accessBadWidth (.fn f) off bytes hdr fatal) s ((s.dev.emit (.pcie 0 0)).hostErr 1 f.val hdr fatal))
  ∧ (∀ (s : State) (f : Fin 64) (off : Nat) (hdr : List Nat) (fatal : Bool), s.answers → inSpace (.fn f) off = true → off % 4 ≠ 0 →
    Does (.accessBadWidth (.fn f) off 4 hdr fatal) s ((s.dev.emit (.pcie 0 0)).hostErr 1 f.val hdr fatal))
  ∧ (∀ (s : State) (m : Fin 10) (off bytes : Nat) (hdr : List Nat) (fatal : Bool), s.answers → bytes ≠ 4 → bytes ≠ 8 →
    Does (.accessBadWidth (.master m) off bytes hdr fatal) s (s.dev.emit (.refuse (64 + m.val) off 3)))

/-! ## The backbone, clocks and capstans -/

/-- A hop of the backbone (R32, R33, R34). With nothing held in the sender's retry buffer, or with a word that the sender replays, a word whose
four parities agree is accepted, which acknowledges it: one more accepted word, no replay of it counted, and nothing else changes. A word with a parity error
makes the receiver send a NAK, discard what follows up to the replay, and raises BKB_PARITY with its syndrome; the sender keeps the
word. While the receiver discards, a word joins the sender's retry buffer; with 8 words in it the sender stalls.
A sender that receives a NAK replays every word it keeps, in order, counting the replays of the oldest; at the NAK after 4 replays the link is
declared failed (R33): a reach link isolates its reach and raises RCH_LINK_FAIL, another raises BKB_LINK_FAIL.
(The model's choices: what log entry 76 names.) -/
def Obligations.BackboneLinks : Prop :=
  (∀ (s : State) (l : Fin 66) (w bad : Nat), s.live → (s.dev.link l).failed = false → (s.dev.link l).discard = false →
    (s.dev.link l).again = [] → (s.dev.link l).retry = [] → bad % 16 = 0 → (s.dev.link l).corrupt = 0 →
    Does (.backboneWord l w bad) s (s.dev.setLink l { s.dev.link l with retry := [], replays := 0, accepted := (s.dev.link l).accepted + 1 }))
  ∧ (∀ (s : State) (l : Fin 66) (w bad : Nat) (q p : List Nat), s.live → (s.dev.link l).failed = false → (s.dev.link l).discard = false →
    (s.dev.link l).again = w :: q → (s.dev.link l).retry = w :: p → bad % 16 = 0 → (s.dev.link l).corrupt = 0 →
    Does (.backboneWord l w bad) s (s.dev.setLink l { s.dev.link l with
      again := q, retry := p, replays := 0, accepted := (s.dev.link l).accepted + 1 }))
  ∧ (∀ (s : State) (l : Fin 66) (w v bad : Nat) (q : List Nat), s.live → (s.dev.link l).again = v :: q → v ≠ w →
    Does (.backboneWord l w bad) s s.dev)
  ∧ (∀ (s : State) (l : Fin 66) (w bad : Nat), s.live → (s.dev.link l).failed = false → (s.dev.link l).discard = false →
    (s.dev.link l).again = [] → (s.dev.link l).retry = [] → bad % 16 ≠ 0 →
    Does (.backboneWord l w bad) s (((s.dev.setLink l { s.dev.link l with
        retry := [w], discard := true, corrupt := (s.dev.link l).corrupt - 1 }).emit (.link l 1 w)).raise 66 (hopUnit l).1 (hopUnit l).2 0
      (linkDetail (bad % 16) (s.dev.link l).replays w)))
  ∧ (∀ (s : State) (l : Fin 66) (w bad : Nat), s.live → (s.dev.link l).failed = false →
    (s.dev.link l).discard = true → (s.dev.link l).again = [] → (s.dev.link l).retry.length < 8 →
    Does (.backboneWord l w bad) s (s.dev.setLink l { s.dev.link l with retry := (s.dev.link l).retry ++ [w] }))
  ∧ (∀ (s : State) (l : Fin 66) (w bad : Nat), s.live → (s.dev.link l).again = [] → 8 ≤ (s.dev.link l).retry.length →
    Does (.backboneWord l w bad) s s.dev)
  ∧ (∀ (s : State) (l : Fin 66), s.live → (s.dev.link l).failed = false → (s.dev.link l).discard = true → (s.dev.link l).replays < 4 →
    Makes (.backboneNak l) s (fun d =>
      d.link l = { s.dev.link l with again := (s.dev.link l).retry, discard := false, replays := (s.dev.link l).replays + 1 }
        ∧ d.out = s.dev.out ++ (s.dev.link l).retry.map (.link l 0 ·) ∧ d = { s.dev.setLink l (d.link l) with out := d.out }))
  ∧ (∀ (s : State) (l : Fin 66), s.live → (s.dev.link l).failed = false → (s.dev.link l).discard = true → 4 ≤ (s.dev.link l).replays →
    l.val < 24 →
    let d := (((((s.dev.setLink l { s.dev.link l with failed := true }).setRch (l / 2) { s.dev.rch (l / 2) with isolated := true }).abortRun
      (l / 2)).linkOut (3 + l / 2)).refuseIsolated)
    Does (.backboneNak l) s (((d.svyAbort (2 * (l / 2))).svyAbort (2 * (l / 2) + 1)).refresh.raise 33 4 (l / 2) 0
      (linkDetail 0 (s.dev.link l).replays ((s.dev.link l).retry.headD 0))))
  ∧ (∀ (s : State) (l : Fin 66), s.live → (s.dev.link l).failed = false → (s.dev.link l).discard = true → 4 ≤ (s.dev.link l).replays →
    24 ≤ l.val → l.val / 2 ≠ 16 →
    Does (.backboneNak l) s ((s.dev.setLink l { s.dev.link l with failed := true }).raise 67 (hopUnit l).1 (hopUnit l).2 0
      (linkDetail 0 (s.dev.link l).replays ((s.dev.link l).retry.headD 0))))
  ∧ (∀ (s : State) (l : Fin 66), s.live → (s.dev.link l).discard = false → Does (.backboneNak l) s s.dev)

/-- A reach loses its clock (R37, R97, R199, R444): its calibration run and its survey requests are aborted, its recorder stops until a reset, its middle blocks are lost
units, RCH_CLK_LOSS is raised at it. Its clock returns: its berths follow the
temperatures reported meanwhile (R161), its tickets' causes follow and capacity returns; where it had not been lost nothing happens.
(The model's choices: a command whose conditions do not hold changes nothing, log entry 3.) -/
def Obligations.ReachClocks : Prop :=
  (∀ (s : State) (n : Fin 12), s.live →
    Does (.reachClockLoss n) s
      (((((((s.dev.setRch n { s.dev.rch n with clockLost := true }).setRcdr n { s.dev.rcdr n with stopped := true }).abortRun n).svyAbort
        (2 * n)).svyAbort (2 * n + 1)).loseUnits [] (reachMids n)).raise 32 4 n 0 []))
  ∧ (∀ (s : State) (n : Fin 12), s.live → (s.dev.rch n).clockLost = true →
    Does (.reachClockReturn n) s ((((List.range 8).foldl (fun d j => d.followTemp (8 * n + j)) (s.dev.setRch n { s.dev.rch n with
      clockLost := false })).refresh).capacity))
  ∧ (∀ (s : State) (n : Fin 12), s.live → (s.dev.rch n).clockLost = false → Does (.reachClockReturn n) s s.dev)

/-- A capstan fails (R38, R39, R178): CAP_PARITY at its block, or at the failing converter CAP_ADC; a block in service whose sibling can adopt its
loops moors for it, another block in service leaves service, and one already adopted stays with 2 or more of its converters left. Its
sibling leaves service too where it waits for an adoption that has so become impossible.
The sibling starts to run both blocks' loops (R177): ADOPTED in the failed block, ADOPTING in the sibling, in register fields nothing
else changes, and the berths then follow ff + trim; where it cannot adopt them any more the failed block leaves service (R39).
(The model's choices: what log entry 23 names.) -/
def Obligations.CapstanFailure : Prop :=
  let then_ := fun (d : Dev) (b : Nat) => if d.orphan (sibling b) then d.leaveService (sibling b) else d
  (∀ (s : State) (b : Fin 96), s.live → s.dev.inService b = false →
    Does (.capstanFail b none) s ((then_ (s.dev.setB (CAP_BLK_STATUS_FAILED b) true) b).raise 16 3 b 0 []))
  ∧ (∀ (s : State) (b : Fin 96) (c : Fin 8), s.live → s.dev.inService b = false →
    Does (.capstanFail b (some c)) s ((then_ ((s.dev.setAdc (b * 8 + c) { s.dev.adc (b * 8 + c) with failed := true }).setB
      (CAP_BLK_STATUS_FAILED b) true) b).raise 17 7 (b * 8 + c) 0 []))
  ∧ (∀ (s : State) (b : Fin 96), s.live → s.dev.inService b = true → s.dev.on (CAP_BLK_STATUS_ADOPTED b) = false →
    (s.dev.setB (CAP_BLK_STATUS_FAILED b) true).adoptable b = true → s.dev.on (CAP_BLK_STATUS_ADOPTING b) = false →
    Does (.capstanFail b none) s ((then_ ((s.dev.setB (CAP_BLK_STATUS_FAILED b) true).setMoor b 0 true).refresh b).raise 16 3 b 0 []))
  ∧ (∀ (s : State) (b : Fin 96), s.live → s.dev.inService b = true → s.dev.on (CAP_BLK_STATUS_ADOPTED b) = false →
    (s.dev.setB (CAP_BLK_STATUS_FAILED b) true).adoptable b = false →
    Does (.capstanFail b none) s ((then_ ((s.dev.setB (CAP_BLK_STATUS_FAILED b) true).leaveService b) b).raise 16 3 b 0 []))
  ∧ (∀ (s : State) (b : Fin 96), s.live → s.dev.inService b = true → s.dev.on (CAP_BLK_STATUS_ADOPTED b) = true → 2 ≤ s.dev.convsLeft b →
    Does (.capstanFail b none) s ((then_ (s.dev.setB (CAP_BLK_STATUS_FAILED b) true) b).raise 16 3 b 0 []))
  ∧ (∀ (s : State) (b : Fin 96), s.live → s.dev.inService b = true → s.dev.on (CAP_BLK_STATUS_FAILED b) = true →
    s.dev.on (CAP_BLK_STATUS_ADOPTED b) = false → s.dev.adoptable b = true →
    ∃ d : Dev, Does (.adoptionStart b) s (d.followTemp b) ∧ d.get (CAP_BLK_STATUS_ADOPTED b) = 1
      ∧ d.get (CAP_BLK_STATUS_ADOPTING (sibling b)) = 1 ∧ d = { s.dev with regs := d.regs, cap := d.cap }
      ∧ ∀ f : Fld, f.key ≠ (CAP_BLK_STATUS_ADOPTED b).key → f.key ≠ (CAP_BLK_STATUS_ADOPTING (sibling b)).key → d.get f = s.dev.get f)
  ∧ (∀ (s : State) (b : Fin 96), s.live → s.dev.inService b = true → s.dev.on (CAP_BLK_STATUS_FAILED b) = true →
    s.dev.on (CAP_BLK_STATUS_ADOPTED b) = false → s.dev.adoptable b = false → Does (.adoptionStart b) s (s.dev.leaveService b))

/-! ## The lamp, ports and cells -/

/-- The lamp, free and neither off nor held by a reset or by module safe, goes to the reach that has waited longest (R27), which leaves the
queue and sets it to -3 dBm per feed, at a wavelength of its own. A lamp-feed monitor above -45 dBm with its gate closed turns the lamp off and raises
FAB_LAMP_LEAK; otherwise the reading is only stored, with its time (R59, R61).
Port events: an input above +20.5 dBm for 1 ms raises PRT_OVERPOWER once the millisecond is over, and nothing where it does not
count (R62); a VOA read-back within 0.5 dB of the command shows in ATTEN with RB_ERR 0, one further off sets RB_ERR, and raises
PRT_VOA_RB while the manifest's DIAG bit asks for it (R17).
(The model's choices: a command whose conditions do not hold changes nothing, log entry 3; what log entries 12, 23, 72 name.) -/
def Obligations.LampAndPorts : Prop :=
  (∀ (s : State) (n : Nat) (q : List Nat), s.live → s.dev.fab.lamp.queue = n :: q → s.dev.fab.lamp.owner = none →
    s.dev.fab.lamp.off = false → s.dev.still = false →
    Does .lampGrant s ((s.dev.useFresh.setLamp { s.dev.fab.lamp with
      owner := some n, queue := q, wave := Config.freeNat s.dev.fresh % 1024 }).shine .full))
  ∧ (∀ s : State, s.live → s.dev.fab.lamp.owner ≠ none → Does .lampGrant s s.dev)
  ∧ (∀ (s : State) (b : Fin 32) (v : Int), s.live → s.dev.get (FAB_LAMP_MON_GATE b) = 0 → -4500 < v →
    let d := s.dev.setPower (FAB_LAMP_MON_POWER b) (FAB_LAMP_MON_FLOOR b) (FAB_LAMP_MON_STALE b) (FAB_LAMP_MON_OVER b) v
    Does (.lampLeak b v) s ((({ d with fab := { d.fab with readAt := d.fab.readAt.put none (probeLamp b) (some s.dev.now) } }).shine
      .dark).raise 11 3 b 0 []))
  ∧ (∀ (s : State) (b : Fin 32) (v : Int), s.live → v ≤ -4500 →
    Makes (.lampLeak b v) s (fun d => d.get (FAB_LAMP_MON_POWER b) = 0x8000 ∧ d.get (FAB_LAMP_MON_FLOOR b) = 1
      ∧ d.fab.readAt = s.dev.fab.readAt.put none (probeLamp b) (some s.dev.now)
      ∧ OnlyFields { s.dev with fab := { s.dev.fab with readAt := d.fab.readAt } } d
        [FAB_LAMP_MON_POWER b, FAB_LAMP_MON_FLOOR b, FAB_LAMP_MON_STALE b, FAB_LAMP_MON_OVER b]))
  ∧ (∀ (s : State) (p : Fin 512) (t : Nat), s.live → (s.dev.inP p).overSince = some t →
    Does (.prtOverpower p) s ((s.dev.atLeast (t + 1000000)).raise 8 2 p 0 []))
  ∧ (∀ (s : State) (p : Fin 512), s.live → (s.dev.inP p).overSince = none → Does (.prtOverpower p) s s.dev)
  ∧ (∀ (s : State) (o : Fin 512) (rb : Nat), s.live → rb < 65536 → (s.dev.outP o).cmdCode ≠ 0xFFFF →
    rb ≤ (s.dev.outP o).cmdCode + 50 → (s.dev.outP o).cmdCode ≤ rb + 50 →
    Makes (.prtVoaRb o rb) s (fun d => d.get (FAB_VOA_STATUS_ATTEN o) = rb ∧ d.get (FAB_VOA_STATUS_RB_ERR o) = 0
      ∧ (d.outP o).rbCode = rb ∧ d = { s.dev with regs := d.regs, fab := d.fab }
      ∧ ∀ f : Fld, f.key ≠ (FAB_VOA_STATUS_ATTEN o).key → f.key ≠ (FAB_VOA_STATUS_RB_ERR o).key → d.get f = s.dev.get f))
  ∧ (∀ (s : State) (o : Fin 512) (rb : Nat), s.live → rb < 65536 → (s.dev.outP o).cmdCode ≠ 0xFFFF →
    (s.dev.outP o).cmdCode + 50 < rb → s.dev.diag 4 = true →
    Does (.prtVoaRb o rb) s ((((s.dev.setOutP o { s.dev.outP o with rbCode := rb }).set (FAB_VOA_STATUS_ATTEN o) rb).set
      (FAB_VOA_STATUS_RB_ERR o) 1).raise 10 2 (512 + o) 0 []))

/-- The 100 us update with no new readings: each LIT or DEGRADED ticket takes its ports' power fields (R81, R82): IN_PWR, OUT_PWR and
VOA_ATT as the registers show them, PATH_LOSS as IN_PWR - OUT_PWR - VOA_ATT, STALE and FLOOR where either port is. Stated of a block that
holds one ticket, of a customer circuit. -/
def Obligations.TicketPowers : Prop :=
  ∀ (s : State) (t : Nat) (k : Ticket), s.live → s.dev.tk.store.cells = [(t, k)] → k.state = 3 → k.srcLamp = false → k.dstDrain = false →
    Makes (.ticketTelemetry [] [] [] []) s (fun d =>
      (d.tkt t).inPwr = s.dev.inPowerW k.src % 65536 ∧ (d.tkt t).outPwr = s.dev.outPowerW k.dst % 65536
        ∧ (d.tkt t).voaAtt = s.dev.get (FAB_VOA_STATUS_ATTEN k.dst)
        ∧ (d.tkt t).pathLoss = uns 16 (sgn 16 (s.dev.inPowerW k.src % 65536) - sgn 16 (s.dev.outPowerW k.dst % 65536)
            - s.dev.get (FAB_VOA_STATUS_ATTEN k.dst))
        ∧ (d.tkt t).state = 3 ∧ d = { s.dev with tk := d.tk })

/-- A committed crossing at its instant (R30, R107, R115): the time of its reaches is at the instant or later, its loaded parts switch and its tickets
change (flip), XNG_CNT_DONE counts it, wear limits and saturation are looked at, and its operation completes DONE, or PARTIAL where a part is held
back or a make was withdrawn. A crossing that is not committed, or a still module, does nothing.
(The model's choices: a command whose conditions do not hold changes nothing, log entry 3; what log entries 12, 28, 77, 81 name.) -/
def Obligations.FlipExecutes : Prop :=
  (∀ (s : State) (n tag : Nat) (x : Xing), s.live → s.dev.xing n = some x → x.kind = .op tag → x.stage = .committed → s.dev.still = false →
    let d := s.dev.atLeastIn (s.dev.xingReaches x) x.instant
    let held := x.parts.any (fun p => d.notLoaded p)
    Does (.flip n) s (((((d.flip x).inc XNG_CNT_DONE).afterSwitch d (x.parts.flatMap (fun p => p.cells.map (·.1)))).flipDone x
      (held || !x.withdrawn.isEmpty)).parkClear.sweepDark))
  ∧ (∀ (s : State) (n : Nat) (x : Xing), s.live → s.dev.xing n = some x → x.stage ≠ .committed → Does (.flip n) s s.dev)
  ∧ (∀ (s : State) (n : Nat), s.live → s.dev.still = true → Does (.flip n) s s.dev)

/-- The switch of one block part (R19, R74, R115): each cell it names, once, takes its new state and the value computed for it in its selected
berth, the other berth selected as before the switch; it is no longer parked, and its reload is owed. -/
def Obligations.PartSwitches : Prop :=
  ∀ (d : Dev) (p : Part), (p.cells.map (·.1)).Nodup →
    (∀ c ∈ p.cells, ((d.switchPart p).cell c.1).cross = c.2.1 ∧ ((d.switchPart p).cell c.1).selB = !(d.cell c.1).selB
      ∧ ((d.switchPart p).cell c.1).selCode = c.2.2 ∧ ((d.switchPart p).cell c.1).parked = false)
    ∧ (∀ i, i ∉ p.cells.map (·.1) → (d.switchPart p).cell i = d.cell i)
    ∧ ((d.switchPart p).blk p.blk).reload = (d.blk p.blk).reload ++ p.cells.map (·.1)

/-- What follows a flip: the reload of a block's switched cells loads their idle berths and leaves none owed (R115), unless its drivers hold without a
clock (R37); one still owed 1 us after the instant raises BLK_RELOAD_OVERRUN (R116); a held-back part executes at the next whole microsecond
once its loads are written (R116); before a break the outputs it leaves unlit go DARK and its lamp gates close, 1 us ahead (R59, R60).
Parking (R65, R66, R90): a park decision notes its instant in each block, loads the idle berths, breaks the circuits through the blocks: a LIT
one is STRANDED; 2 us after the decision the selectors of the blocks it parks switch at one instant: each of their cells is in its
park state, PARKED, its loop PARKED, and the block shows PARKED.
(The model's choices: a command whose conditions do not hold changes nothing, log entry 3; what log entries 12, 27, 77 name.) -/
def Obligations.FlipAndParking : Prop :=
  (∀ (s : State) (b : Fin 96), s.live → s.dev.clockLost b = false →
    Makes (.berthReload b) s (fun d => (d.blk b).reload = [] ∧ d = { s.dev with fab := d.fab }
      ∧ ∀ i ∈ (s.dev.blk b).reload, cellBlk i = b.val → d.cell i = (s.dev.cell i).putIdle (s.dev.idleTarget i)))
  ∧ (∀ (s : State) (b : Fin 96), s.live → s.dev.clockLost b = true → Does (.berthReload b) s s.dev)
  ∧ (∀ (s : State) (b : Fin 96), s.live → (s.dev.blk b).reload ≠ [] →
    Does (.blkReloadOverrun b) s ((s.dev.atLeastIn [blkReach b] ((s.dev.blk b).reloadAt + 1000)).raise 19 3 b 0 []))
  ∧ (∀ (s : State) (b : Fin 96), s.live → (s.dev.blk b).reload = [] → Does (.blkReloadOverrun b) s s.dev)
  ∧ (∀ (s : State) (n : Nat) (b : Fin 96) (x : Xing) (p : Part), s.live → s.dev.xing n = some x → x.stage = .flipped →
    x.parts.find? (fun p => p.blk == b.val && p.held) = some p → s.dev.notLoaded p = false → s.dev.still = false →
    (∀ t k, x.kind ≠ .step t k) →
    let d := s.dev.atLeastIn [blkReach b] (wholeUs s.dev.now)
    Does (.heldbackPartExecute n b) s (((d.flipHeld x p).afterSwitch d (p.cells.map (·.1))).parkClear.sweepDark))
  ∧ (∀ (s : State) (n t k : Nat) (b : Fin 96) (x : Xing) (p : Part) (u : Table), s.live → s.dev.xing n = some x → x.stage = .flipped →
    x.parts.find? (fun p => p.blk == b.val && p.held) = some p → s.dev.notLoaded p = false → s.dev.still = false →
    x.kind = .step t k → s.dev.table t = some u →
    let d := s.dev.atLeastIn [blkReach b] (wholeUs s.dev.now)
    Does (.heldbackPartExecute n b) s ((((d.charge u.owner (p.cells.length : Int)).flipHeld x p).afterSwitch d
      (p.cells.map (·.1))).parkClear.sweepDark))
  ∧ (∀ (s : State) (n : Nat) (x : Xing), s.live → s.dev.xing n = some x → x.stage = .committed → s.dev.still = false →
    let d := s.dev.atLeastIn (blkReaches ((s.dev.brokenOuts x).map (fun o => 64 + o / 16))) (x.instant - 1000)
    Does (.voaPredark n) s ((((d.brokenOuts x).filter (fun o => !(d.litOuts x).contains o)).foldl (fun d o => d.darken o) d).closeGates
      (x.room ++ x.breaks)))
  ∧ (∀ (s : State) (l : List (Fin 96)), s.live → s.dev.tk.store.cells = [] → (∀ n : Nat, s.dev.reachState n ≠ 2) →
    Does (.park l) s (s.dev.startPark (l.map Fin.val)))
  ∧ (∀ (s : State) (l : List (Fin 96)) (t : Nat) (k : Ticket), s.live → s.dev.safe = false → s.dev.tk.store.cells = [(t, k)] →
    (∀ n : Nat, s.dev.reachState n ≠ 2) → k.state = 3 → k.valid = true → k.dstDrain = false → k.srcLamp = false → (∃ b ∈ l, b.val ∈ k.blocks) →
    Does (.park l) s (((s.dev.startPark (l.map Fin.val)).darken k.dst).strandTkt t 3))
  ∧ (∀ s : State, s.live → (∀ b < 96, (s.dev.blk b).parking = none ∨ s.dev.clockLost b = true) → Does .parkSwitch s s.dev)
  ∧ (∀ (s : State) (t : Ns) (l : List Nat), s.live → s.dev.nextPark = some (t, l) →
    ∃ d : Dev, Does .parkSwitch s (d.switched (s.dev.atLeastIn (blkReaches l) (t + 2000)) (l.flatMap blkCells))
      ∧ ∀ b ∈ l, b < 96 ∧ d.get (FAB_BLK_STATUS_PARKED b) = 1 ∧ (d.blk b).parking = none
        ∧ ∀ j < 144, (d.cell (b * 144 + j)).cross = parkState (b * 144 + j) ∧ (d.cell (b * 144 + j)).parked = true
          ∧ (d.loop (b * 144 + j)).mode = 6)

/-- Wear (R75-R77, R378): where the hold is reachable a cell's pending count, with the users of the hold's port that come before it served, is added to
its 48-bit counter in the hold and starts again at 0;
while its block is out of service a write of COUNT, not below the present count, sets it; in service the write is refused as of a
FROZEN field, and below the present count as a reserved encoding. A count that reaches 80,000,000,000 is logged as ADVISORY, one that
reaches 100,000,000,000 raises CELL_WEAR.
(The model's choices: a command whose conditions do not hold changes nothing, log entry 3; what log entry 24 names.) -/
def Obligations.Wear : Prop :=
  (∀ (s : State) (i : Fin 13824), s.live → s.dev.holdUp = true → (s.dev.cell i).pend ≠ 0 →
    Does (.wearAdd i) s ((s.dev.servePort .wear).setCell i { s.dev.cell i with
      wear := ((s.dev.cell i).wear + (s.dev.cell i).pend) % 2 ^ 48, pend := 0 }))
  ∧ (∀ (s : State) (i : Fin 13824), s.live → s.dev.holdUp = false → Does (.wearAdd i) s s.dev)
  ∧ (∀ (s : State) (r : Requester) (i : Fin 13824) (v : Nat), Reached s r (0x200008 + i / 144 * 0x2000 + i % 144 * 32) →
    let d := s.dev.unlatch r
    (s.dev.inService (cellBlk i) = false → v < 2 ^ 48 → (s.dev.cell i).count ≤ v →
      Does (.wearRestore r i v) s ((d.setCell i { s.dev.cell i with wear := v, pend := 0 }).wearLimits i (s.dev.cell i)))
    ∧ (s.dev.inService (cellBlk i) = true → Does (.wearRestore r i v) s d.frozenWrite)
    ∧ (s.dev.inService (cellBlk i) = false → v < 2 ^ 48 → v < (s.dev.cell i).count → Does (.wearRestore r i v) s d.badEncoding))
  ∧ (∀ (d : Dev) (i : Nat) (c : Cell), (c.count < 80000000000 → (d.cell i).count < 80000000000 → d.wearLimits i c = d)
    ∧ (c.count < 80000000000 → 80000000000 ≤ (d.cell i).count → (d.cell i).count < 100000000000 →
      d.wearLimits i c = d.logL0 4 1 i 1 (d.snap 1 i []))
    ∧ (80000000000 ≤ c.count → c.count < 100000000000 → 100000000000 ≤ (d.cell i).count → d.wearLimits i c = d.raise 4 1 i 2 []))

/-! ## Paths through the fabric -/

/-- The paths of a block and of a circuit (R46, R47). A block's path meets one cell in each of the nine stages, entered at stage 0 on the
block's input line: the cell of row r on line 2r or 2r + 1. From stage to stage the line it leaves on exchanges bit 0 for the bit of
the boundary. The cells of stages 0-3 are set freely, by the bits of the choice; those of stages 4-8 set bits 1, 2, 3, 4 and 0 of the
output line, and the path leaves stage 8 on that line. Two choices of a block are two paths, and two of a circuit's 32 middle
blocks times 16 times 16 times 16 routes meet different cells or set them differently. -/
def Obligations.BenesConnects : Prop :=
  (∀ p z c : Nat, p < 32 → z < 32 → c < 16 →
    (benes p z c).length = 9
    ∧ ((benes p z c)[0]?.map (fun h => h.2.2) = some p)
    ∧ ((benes p z c)[8]?.map (fun h => putBit h.2.2 0 (xor (bit h.2.2 0) h.2.1)) = some z)
    ∧ (∀ (s : Nat) (h : Nat × Bool × Nat), (benes p z c)[s]? = some h →
      h.1 = h.2.2 / 2 ∧ h.2.2 < 32 ∧ (s < 4 → h.2.1 = bit c s)
        ∧ (4 ≤ s → xor (bit h.2.2 0) h.2.1 = bit z ([1, 2, 3, 4, 0].getD (s - 4) 0)))
    ∧ (∀ (s : Nat) (h g : Nat × Bool × Nat), (benes p z c)[s]? = some h → (benes p z c)[s + 1]? = some g →
      let out := putBit h.2.2 0 (xor (bit h.2.2 0) h.2.1)
      let q := [4, 3, 2, 1, 1, 2, 3, 4].getD s 0
      bit g.2.2 0 = bit out q ∧ bit g.2.2 q = bit out 0 ∧ (∀ k : Nat, k < 5 → k ≠ 0 → k ≠ q → bit g.2.2 k = bit out k)))
  ∧ (∀ p z c c' : Nat, p < 32 → z < 32 → c < 16 → c' < 16 → benes p z c = benes p z c' → c = c')
  ∧ (∀ (e : Ends) (r r' : Route), e.b < 32 → e.p < 32 → e.k < 32 → e.z < 32 → r.mid < 32 → r.ing < 16 → r.midc < 16 → r.egr < 16 →
    r'.mid < 32 → r'.ing < 16 → r'.midc < 16 → r'.egr < 16 → hops e r = hops e r' → r = r')

/-! ## Rings, tolls and the queue of operations -/

/-- A doorbell (R215, R222, R356, R366), the write of SQ_TAIL by a requester that reaches it: a tail inside the ring is recorded, and the next entry
is read from the ring where one waits and fetching goes on; a tail outside the ring sets SQ_ERR and stops it; a requester that may not
write the ring changes nothing but its own latches; a coherent ring on a plain PCIe link sets SQ_ERR.
(The model's choices: a command whose conditions do not hold changes nothing, log entry 3; what log entry 10 names.) -/
def Obligations.Doorbells : Prop :=
  ∀ (s : State) (r : Requester) (g : Fin 65) (tail : Nat), Reached s r (0x32020 + g * 0x40) →
    let d := s.dev.unlatch r
    (mayRing r g = false → Does (.doorbell r g tail) s d)
    ∧ (mayRing r g = true → ringSize (s.dev.get (RING_CFG_SQ_SIZE g)) ≤ tail → tail < 65536 →
      Makes (.doorbell r g tail) s (fun e => e.get (RING_STATUS_SQ_ERR g) = 1 ∧ e.get (RING_CFG_SQ_EN g) = 0 ∧ e.reads g = 0
        ∧ OnlyFields { d with cmd := e.cmd } e [RING_STATUS_SQ_ERR g, RING_CFG_SQ_EN g]))
    ∧ (mayRing r g = true → tail < ringSize (s.dev.get (RING_CFG_SQ_SIZE g)) → tail < 65536 →
      (s.dev.on (RING_CFG_SQ_COH g) = false → Does (.doorbell r g tail) s ((d.set (SQ_TAIL g) tail).askEntry g))
      ∧ (s.dev.on (RING_CFG_SQ_EN g) = false → s.dev.on (RING_CFG_SQ_COH g) = false →
        Makes (.doorbell r g tail) s (fun e => e.get (SQ_TAIL g) = tail ∧ OnlyFields d e [SQ_TAIL g]))
      ∧ (s.dev.fetches g = true → s.dev.on (RING_CFG_SQ_COH g) = false → s.dev.get (SQ_HEAD g) ≠ tail →
        Does (.doorbell r g tail) s (((d.set (SQ_TAIL g) tail).emit
          (.hostRead (ringFn g) (s.dev.get (SQ_BASE g) * 64 + s.dev.get (SQ_HEAD g) * 64) 64)).setReads g 1))
      ∧ (s.dev.on (RING_CFG_SQ_COH g) = true → s.dev.on HST_STATUS_PCIE_ONLY = true →
        Makes (.doorbell r g tail) s (fun e => e.get (SQ_TAIL g) = tail ∧ e.get (RING_STATUS_SQ_ERR g) = 1
          ∧ OnlyFields d e [SQ_TAIL g, RING_STATUS_SQ_ERR g])))

/-- A submission entry that was asked for comes back (R217, R223, R226, R366, R369): read as its 64 bytes spell it, it takes the lowest free tag and the last
place of its queue, and SQ_HEAD moves on; a read that failed sets SQ_ERR and stops the ring. One of a ring disabled meanwhile is dropped.
(The model's choices: a command whose conditions do not hold changes nothing, log entry 3; what log entry 83 names.) -/
def Obligations.EntriesFetched : Prop :=
  (∀ (s : State) (g : Fin 65) (e : RawEntry) (tag : Nat), s.live → s.dev.reads g ≠ 0 → s.dev.still = false →
    s.dev.on (RING_CFG_SQ_EN g) = true → s.dev.get (SQ_HEAD g) ≠ s.dev.get (SQ_TAIL g) →
    s.dev.on (RING_CFG_SQ_COH g) = false → (readEntry e).opcode ≠ 2 → s.dev.freeTag = some tag →
    Makes (.entryFetch g (some e)) s (fun d =>
      d.op tag = some (newOp tag g (readEntry e) false)
        ∧ d.heads (queueOf g) = s.dev.heads (queueOf g) ++ [.op tag]
        ∧ d.get (SQ_HEAD g) = (s.dev.get (SQ_HEAD g) + 1) % ringSize (s.dev.get (RING_CFG_SQ_SIZE g)) % 65536))
  ∧ (∀ (s : State) (g : Fin 65), s.live → s.dev.reads g ≠ 0 → s.dev.still = false →
    s.dev.on (RING_CFG_SQ_EN g) = true → s.dev.get (SQ_HEAD g) ≠ s.dev.get (SQ_TAIL g) →
    Makes (.entryFetch g none) s (fun d => d.get (RING_STATUS_SQ_ERR g) = 1 ∧ d.get (RING_CFG_SQ_EN g) = 0 ∧ d.reads g = 0
      ∧ OnlyFields { s.dev with cmd := d.cmd } d [RING_STATUS_SQ_ERR g, RING_CFG_SQ_EN g]))
  ∧ (∀ (s : State) (g : Fin 65) (e : Option RawEntry), s.live → s.dev.reads g ≠ 0 → s.dev.on (RING_CFG_SQ_EN g) = false →
    Does (.entryFetch g e) s (s.dev.setReads g 0))
  ∧ (∀ (s : State) (g : Fin 65) (e : Option RawEntry), s.live → s.dev.reads g = 0 → Does (.entryFetch g e) s s.dev)
  ∧ (∀ e : RawEntry, let w := e.raw.toNat
    let k := readEntry e
    k.opcode = bits w 0 8 ∧ k.asap = bit w 8 ∧ k.notify = bit w 9 ∧ k.fence = bit w 10 ∧ k.items = bits w 16 11 ∧ k.user = bits w 32 32
      ∧ k.stamp = bits w 64 64 ∧ k.arg = bits w 128 64 ∧ k.list = bits w 192 64 ∧ k.arg20 = bits w 256 64
      ∧ (k.resv = false ↔ bits w 11 5 = 0 ∧ bits w 27 5 = 0 ∧ bits w 320 192 = 0 ∧ (k.opcode ≠ 4 → k.opcode ≠ 5 → bits w 256 64 = 0)))

/-- A CANCEL (R111): handled when it is fetched, with a tag of its own and its ring's head moved on; it withdraws a CROSSING of the same
function that has not been selected, which completes CANCELLED (0x11), its makes let go where it had been admitted, and is itself done;
naming no outstanding operation, it is refused with 0x39.
Software frees completion or event places (R222): CQ_HEAD or EQ_HEAD takes the index, what was held is written, fetching goes on in every
ring that may; an index outside the ring is a reserved encoding. A message owed for a ring is sent 1.000 us after the one before, and
nothing otherwise (R363).
(The model's choices: a command whose conditions do not hold changes nothing, log entry 3; what log entries 12, 97 name.) -/
def Obligations.CancelsAndHeads : Prop :=
  (∀ (s : State) (g : Fin 65) (e : RawEntry) (tag : Nat), s.live → s.dev.reads g ≠ 0 → s.dev.still = false →
    s.dev.on (RING_CFG_SQ_EN g) = true → s.dev.get (SQ_HEAD g) ≠ s.dev.get (SQ_TAIL g) →
    (readEntry e).opcode = 2 → s.dev.freeTag = some tag →
    Does (.cancel g e) s (((((((s.dev.setReads g 0).settleToll (queueOf g - 4)).set (SQ_HEAD g) ((s.dev.get (SQ_HEAD g) + 1) %
      ringSize (s.dev.get (RING_CFG_SQ_SIZE g)))).cancel g tag (readEntry e)).inletPut false).quotaMark g).askEntry g))
  ∧ (∀ (s : State) (g : Fin 65) (e : RawEntry), s.live → (readEntry e).opcode ≠ 2 → Does (.cancel g e) s s.dev)
  ∧ (∀ (d : Dev) (g tag : Nat) (e : Entry) (o : Op), d.op (bits e.arg 0 14) = some o → o.entry.opcode = 1 → o.fn = ringFn g → e.resv = false →
    o.xing = none → o.selected = false → o.tag = bits e.arg 0 14 → (o.entry.asap = true ∨ d.now + 2000 ≤ d.inst o.entry.stamp) →
    (d.cancel g tag e).op o.tag = none
    ∧ (o.admitted = false → d.cancel g tag e = ((d.takeHead (queueOf o.ring) (.op o.tag)).finish o 0x11 0 0).finish (newOp tag g e true) 0 0 0)
    ∧ (o.admitted = true → d.cancel g tag e = ((((d.setReady (queueOf o.ring) ((d.ready (queueOf o.ring)).erase (.op o.tag))).letGo
      o).finish o 0x11 0 0).finish (newOp tag g e true) 0 0 0)))
  ∧ (∀ (d : Dev) (g tag : Nat) (e : Entry), d.op (bits e.arg 0 14) = none →
    (d.cancel g tag e) = d.refuseOp (newOp tag g e true) 0x39 0)
  ∧ (∀ (s : State) (r : Requester) (g : Fin 65) (i : Nat), Reached s r (0x32028 + g * 0x40) → mayRing r g = true → g.val ≠ 64 → i < 65536 →
    (i < ringSize (s.dev.get (RING_CFG_CQ_SIZE g)) →
      Does (.cqHeadWrite r g i) s (((((s.dev.unlatch r).set (CQ_HEAD g) i).resumeCq g).quotaMark g).askAll))
    ∧ (ringSize (s.dev.get (RING_CFG_CQ_SIZE g)) ≤ i → Does (.cqHeadWrite r g i) s (s.dev.unlatch r).badEncoding))
  ∧ (∀ (s : State) (r : Requester) (g : Fin 65) (i : Nat), Reached s r (0x3202C + g * 0x40) → mayRing r g = true → g.val ≠ 64 → i < 65536 →
    (i < ringSize (s.dev.get (RING_CFG_EQ_SIZE g)) → Does (.eqHeadWrite r g i) s (((s.dev.unlatch r).set (EQ_HEAD g) i).resumeEq g))
    ∧ (i < ringSize (s.dev.get (RING_CFG_EQ_SIZE g)) → (s.dev.ring g).lost = 0 →
      Makes (.eqHeadWrite r g i) s (fun d => d.get (EQ_HEAD g) = i ∧ OnlyFields (s.dev.unlatch r) d [EQ_HEAD g]))
    ∧ (ringSize (s.dev.get (RING_CFG_EQ_SIZE g)) ≤ i → Does (.eqHeadWrite r g i) s (s.dev.unlatch r).badEncoding))
  ∧ (∀ (s : State) (g : Fin 64), s.live → (s.dev.ring g).cqOwed = true →
    let d := s.dev.atLeast ((s.dev.ring g).cqMsg.getD 0 + 1000)
    Does (.msixMessage g false) s ((d.setRing g { s.dev.ring g with cqOwed := false, cqMsg := some d.now }).msix g
      (s.dev.get (RING_VEC_CQ_VEC g))))
  ∧ (∀ (s : State) (g : Fin 64), s.live → (s.dev.ring g).eqOwed = true →
    let d := s.dev.atLeast ((s.dev.ring g).eqMsg.getD 0 + 1000)
    Does (.msixMessage g true) s ((d.setRing g { s.dev.ring g with eqOwed := false, eqMsg := some d.now }).msix g
      (s.dev.get (RING_VEC_EQ_VEC g))))
  ∧ (∀ (s : State) (g : Fin 64), s.live → (s.dev.ring g).cqOwed = false → Does (.msixMessage g false) s s.dev)

/-- Tolls (R230-R232), each written by a requester that reaches the register: a write of a place's toll or weight is recorded and waits for the next decision,
what it ran before settled up to now; a depth of 0 is a reserved encoding; place 0 has a weight alone.
(The model's choices: a command whose conditions do not hold changes nothing, log entry 3; what log entry 73 names.) -/
def Obligations.TollChanges : Prop :=
  ∀ (s : State) (r : Requester) (p : Fin 64) (v : Nat),
    let e := s.dev.unlatch r
    (Reached s r (0x34000 + p * 0x20) → p.val ≠ 0 →
      Makes (.tollChange r p .rate v) s (fun d => d.get (TOL_RATE p) = v % 2 ^ 24 ∧ d.cmd.tollChg = s.dev.cmd.tollChg ++ [p.val]
        ∧ d = { e with regs := d.regs, cmd := d.cmd }))
    ∧ (Reached s r (0x34004 + p * 0x20) → p.val ≠ 0 → v % 65536 ≠ 0 →
      Makes (.tollChange r p .depth v) s (fun d => d.get (TOL_DEPTH p) = v % 65536 ∧ d.cmd.tollChg = s.dev.cmd.tollChg ++ [p.val]
        ∧ d = { e with regs := d.regs, cmd := d.cmd }))
    ∧ (Reached s r (0x34004 + p * 0x20) → p.val ≠ 0 → v % 65536 = 0 →
      Does (.tollChange r p .depth v) s (e.settleToll p).badEncoding)
    ∧ (Reached s r (0x34008 + p * 0x20) → p.val ≠ 0 →
      Makes (.tollChange r p .debt v) s (fun d => d.get (TOL_DEBT p) = v % 2 ^ (TOL_DEBT p).w ∧ d.cmd.tollChg = s.dev.cmd.tollChg ++ [p.val]))
    ∧ (Reached s r (0x3400C + p * 0x20) →
      Makes (.tollChange r p .weight v) s (fun d => d.get (TOL_WEIGHT p) = v % 2 ^ (TOL_WEIGHT p).w
        ∧ d.cmd.tollChg = s.dev.cmd.tollChg ++ [p.val] ∧ d = { e with regs := d.regs, cmd := d.cmd }))
    ∧ (Reached s r 0x34000 → Does (.tollChange r 0 .rate v) s e)

/-- A decision of the scheduler (R227-R229, R298): none while nothing may move; otherwise tolls are settled and changes applied, and with
no head of Q1 waiting the oldest admitted work of Q0 is selected where the solver is free, before any other queue; with the four strict
queues empty the weighted places are served.
(The model's choices: a command whose conditions do not hold changes nothing, log entry 3; what log entries 42, 73 name.) -/
def Obligations.SchedulerDecides : Prop :=
  (∀ s : State, s.live → (s.dev.still = true ∨ s.dev.acting = false) → Does .schedulerDecision s s.dev)
  ∧ (∀ (s : State) (n : Nat) (l : List Work), s.live → s.dev.still = false → s.dev.acting = true → s.dev.on TIM_CTL_SUSPEND = false →
    s.dev.cmd.tollChg = [] → s.dev.heads 1 = [] → s.dev.ready 0 = .xing n :: l → s.dev.cmd.solving = none →
    Does .schedulerDecision s (s.dev.settleTolls.applyTolls.select 0 (.xing n)))
  ∧ (∀ s : State, s.live → s.dev.still = false → s.dev.acting = true → s.dev.cmd.tollChg = [] → s.dev.heads 1 = [] →
    (∀ q < 4, s.dev.ready q = []) → Does .schedulerDecision s s.dev.settleTolls.applyTolls.weighted)

/-- Solving (R94, R107): the next make of the crossing in the solver takes the route found and its ticket is ROUTED on it, with the moves and breaks it
needs; with the last make the crossing goes on to stage 4, its parts worked out from then, and the solver is free; a crossing whose make finds no
route ends with the solver's status.
Stage 4 and stage 5 (R106-R108, R231): at the end of stage 4 the crossing waits for its blocks, the toll settled against its actual cost where
it is still owed; one that needs an isolated reach to change is refused. The last block to report, once it has room and the update bus
has served it, makes the crossing try to commit, another is only noted.
(The model's choices: a command whose conditions do not hold changes nothing, log entry 3; what log entries 17, 20, 42, 87 name.) -/
def Obligations.SolveToReady : Prop :=
  (∀ (s : State) (n tag t : Nat) (x : Xing) (r : Route) (mv : List (Nat × Route)) (rm : List Nat), s.live → s.dev.acting = true →
    s.dev.cmd.solving = some (.xing n) → s.dev.xing n = some x → x.id = n → x.kind = .op tag → x.unsolved = [t] →
    s.dev.solveFor (s.dev.tkt t).cls (s.dev.tkt t).ends (s.dev.planAt x) (t :: x.breaks ++ x.room) = .route r mv rm →
    Makes .solve s (fun d => (d.tkt t).state = 2 ∧ (d.tkt t).valid = true ∧ (d.tkt t).route = r ∧ d.cmd.solving = none
      ∧ (∃ ps, d.xing n = some { x with
          unsolved := [], moves := x.moves ++ mv, room := x.room ++ rm, stage := .compute, parts := ps, flips := (ps.map (fun p => p.cells.length)).sum })
      ∧ d = { s.dev with tk := d.tk, cmd := d.cmd }))
  ∧ (∀ (s : State) (n tag t u : Nat) (l : List Nat) (x : Xing) (r : Route) (mv : List (Nat × Route)) (rm : List Nat), s.live →
    s.dev.acting = true → s.dev.cmd.solving = some (.xing n) → s.dev.xing n = some x → x.kind = .op tag → x.unsolved = t :: u :: l →
    s.dev.solveFor (s.dev.tkt t).cls (s.dev.tkt t).ends (s.dev.planAt x) (t :: x.breaks ++ x.room) = .route r mv rm →
    Does .solve s ((s.dev.placeTkt t r).setXing n (some { x with unsolved := u :: l, moves := x.moves ++ mv, room := x.room ++ rm })))
  ∧ (∀ (s : State) (n tag t : Nat) (l : List Nat) (x : Xing) (st : Nat), s.live → s.dev.acting = true →
    s.dev.cmd.solving = some (.xing n) → s.dev.xing n = some x → x.kind = .op tag → x.unsolved = t :: l →
    s.dev.solveFor (s.dev.tkt t).cls (s.dev.tkt t).ends (s.dev.planAt x) (t :: x.breaks ++ x.room) = .refused st →
    Does .solve s { (s.dev.endXing x st) with cmd := { (s.dev.endXing x st).cmd with solving := none } })
  ∧ (∀ s : State, s.live → s.dev.cmd.solving = none → Does .solve s s.dev)
  ∧ (∀ (s : State) (n reach : Nat) (x : Xing), s.live → s.dev.acting = true → s.dev.xing n = some x → x.stage = .compute → x.kind = .lamp reach →
    let y := { x with stage := .distribute }
    (s.dev.needsIsolated x = false → x.parts ≠ [] → Does (.computeDone n) s (s.dev.setXing n (some y)))
    ∧ (s.dev.needsIsolated x = false → x.parts = [] → Does (.computeDone n) s ((s.dev.setXing n (some y)).tryCommit y))
    ∧ (s.dev.needsIsolated x = true → Does (.computeDone n) s ((s.dev.setXing n (some y)).endXing y 0x14)))
  ∧ (∀ (s : State) (n tag : Nat) (x : Xing) (o : Op), s.live → s.dev.acting = true → s.dev.xing n = some x → x.stage = .compute →
    x.kind = .op tag → s.dev.op tag = some o → o.owed = true → o.ring ≠ 64 →
    let d := ((s.dev.setXing n (some { x with stage := .distribute })).setOp tag (some { o with owed := false })).charge o.fn
      ((max x.flips (x.makes.length + o.breakIds.length) : Nat) - (o.prov : Int))
    d.needsIsolated x = false → x.parts ≠ [] → Does (.computeDone n) s d)
  ∧ (∀ (s : State) (n : Nat) (x : Xing), s.live → s.dev.xing n = some x → x.stage ≠ .compute → Does (.computeDone n) s s.dev)
  ∧ (∀ (s : State) (n : Nat) (b : Fin 96) (x : Xing) (p : Part), s.live → s.dev.acting = true → s.dev.xing n = some x → x.stage = .distribute →
    x.parts = [p] → p.blk = b.val → p.ready = false → s.dev.partsIn b < 64 → s.dev.busServed x p = true → s.dev.needsIsolated x = false →
    let y := { x with parts := [{ p with ready := true }] }
    Does (.blockReady n b) s (((s.dev.setXing n (some y)).loadParts [p]).tryCommit y))
  ∧ (∀ (s : State) (n : Nat) (b : Fin 96) (x : Xing) (p q : Part), s.live → s.dev.xing n = some x → x.stage = .distribute →
    x.parts = [p, q] → p.blk = b.val → p.ready = false → q.blk ≠ b.val → q.ready = false → s.dev.partsIn b < 64 →
    s.dev.busServed x p = true → s.dev.needsIsolated x = false →
    Does (.blockReady n b) s ((s.dev.setXing n (some { x with parts := [{ p with ready := true }, q] })).loadParts [p]))
  ∧ (∀ (s : State) (n : Nat) (b : Fin 96), s.live → 64 ≤ s.dev.partsIn b → Does (.blockReady n b) s s.dev)

/-- Lost units and restoration (R72, R92, R97, R98, R100): a cell whose driver fails is lost and CELL_DRV_OPEN is raised at it; a cell open for
10 s is lost by LONG_OPEN; the tickets through what is lost join the restoration list. With the list at its end the open restore crossing goes to
stage 4 and the run ends; a ticket of the list that a route is found for joins the open crossing, one without a route is STRANDED and its
break joins it; work that goes before the next restoration solve is waited for (R229).
(The model's choices: a command whose conditions do not hold changes nothing, log entry 3; what log entries 12, 18 name.) -/
def Obligations.Restoration : Prop :=
  (∀ (s : State) (i : Fin 13824), s.live →
    Does (.unitLost (.cell i)) s (((s.dev.setCell i { s.dev.cell i with failed := true }).loseUnits [i.val] []).raise 3 1 i 0 []))
  ∧ (∀ (s : State) (m : Fin 32), s.live → Does (.unitLost (.middle m)) s (s.dev.leaveService (32 + m)))
  ∧ (∀ (s : State) (n : Fin 12), s.live → exec (.unitLost (.clock n)) s = exec (.reachClockLoss n) s)
  ∧ (∀ (s : State) (i : Fin 13824), s.live → (s.dev.loop i).mode = 4 →
    let d := s.dev.atLeast ((s.dev.loop i).openAt + 10000000000)
    Does (.longOpen i) s ((d.setCell i { s.dev.cell i with longOpen := true }).loseUnits [i.val] []))
  ∧ (∀ (s : State) (i : Fin 13824), s.live → (s.dev.loop i).mode ≠ 4 → Does (.longOpen i) s s.dev)
  ∧ (∀ s : State, s.live → s.dev.cmd.solving = none → s.dev.still = false → s.dev.acting = true → s.dev.tk.list = [] →
    s.dev.workBefore = false →
    Does .restoreSolve s ({ s.dev with cmd := { s.dev.cmd with between := false } } : Dev).commitOpen.runEnd)
  ∧ (∀ (s : State) (t : Nat) (l : List Nat) (r : Route) (mv : List (Nat × Route)) (rm : List Nat), s.live → s.dev.cmd.solving = none →
    s.dev.still = false → s.dev.acting = true → s.dev.tk.list = t :: l → (s.dev.tkt t).state = 3 →
    s.dev.workBefore = false →
    let d := { s.dev with cmd := { s.dev.cmd with between := false }, tk := { s.dev.tk with list := l } }
    d.stuck (s.dev.tkt t) = false → d.solveFor (s.dev.tkt t).cls (s.dev.tkt t).ends (s.dev.now + 8000) [t] = .route r mv rm →
    let e := { d with tk := { d.tk with gather := d.tk.gather ++ [(t, r)], gMoves := d.tk.gMoves ++ mv, gRoom := d.tk.gRoom ++ rm } }
    e.openDue (s.dev.tkt t).cls = false → Does .restoreSolve s e.runEnd)
  ∧ (∀ (s : State) (t st : Nat) (l : List Nat), s.live → s.dev.cmd.solving = none →
    s.dev.still = false → s.dev.acting = true → s.dev.tk.list = t :: l → (s.dev.tkt t).state = 3 → s.dev.workBefore = false →
    let d := { s.dev with cmd := { s.dev.cmd with between := false }, tk := { s.dev.tk with list := l } }
    d.stuck (s.dev.tkt t) = false → d.solveFor (s.dev.tkt t).cls (s.dev.tkt t).ends (s.dev.now + 8000) [t] = .refused st →
    let e := { d.strandTkt t 1 with tk := { (d.strandTkt t 1).tk with gBreaks := (d.strandTkt t 1).tk.gBreaks ++ [t] } }
    e.openDue (s.dev.tkt t).cls = false → Does .restoreSolve s e.runEnd)
  ∧ (∀ s : State, s.live → s.dev.workBefore = true → Does .restoreSolve s s.dev)

/-! ## Operations -/

/-- A NOP, once admitted, is done: it is counted and its tag is free (R219). TKT_PRIO gives its ticket the priority it names and is done.
A CROSSING or a SYS_PART whose stamp is not too near (R109, R132, R219, R224): it is admitted and waits in its queue behind what waits
there; one that comes too late is refused with LATE (0x10), its tag free and XNG_CNT_LATE counted.
A SYS_PROPOSE whose stamp leaves XNG_SYS_LEAD (R131): the crossing is known as coordinated here, with its members and its instant; one too
near is refused with LATE. Stated of a proposal that does not name this module itself. What completes lets fetching go on in every ring
that may (R117): stated of NOP, TKT_PRIO and a late CROSSING where no ring is read coherently.
An operation that is not there lets the toll changes written take effect (R232) and does nothing else.
(The model's choices: a command whose conditions do not hold changes nothing, log entry 3.) -/
def Obligations.Admissions : Prop :=
  (∀ (s : State) (o : Op), s.live → Admittable s.dev o 10 → s.dev.plainRings →
    Makes (.nop o.tag) s (fun d => d.op o.tag = none ∧ d.get CMD_CNT_ADMITTED = (s.dev.get CMD_CNT_ADMITTED + 1) % 2 ^ 64
      ∧ d = { s.dev with regs := d.regs, cmd := d.cmd, out := d.out, hst := d.hst }))
  ∧ (∀ (s : State) (o : Op), s.live → Admittable s.dev o 10 → Does (.nop o.tag) s ((atHead s.dev o).admitNop o))
  ∧ (∀ (s : State) (o : Op), s.live → Admittable s.dev o 3 → s.dev.plainRings →
    Makes (.tktPrio o.tag) s (fun d => d.op o.tag = none ∧ (d.tkt (bits o.entry.arg 0 14)).prio = bits o.entry.arg 16 3
      ∧ d.get CMD_CNT_ADMITTED = (s.dev.get CMD_CNT_ADMITTED + 1) % 2 ^ 64
      ∧ d = { s.dev with regs := d.regs, cmd := d.cmd, tk := d.tk, out := d.out, hst := d.hst }))
  ∧ (∀ (s : State) (o : Op), s.live → Admittable s.dev o 3 → Does (.tktPrio o.tag) s ((atHead s.dev o).admitPrio o))
  ∧ (∀ (s : State) (tag : Nat), s.live → s.dev.op tag = none → s.dev.acting = true → Does (.nop tag) s s.dev.applyTolls)
  ∧ (∀ (s : State) (o : Op), s.live → Admittable s.dev o 1 → (o.entry.asap = true ∨ s.dev.now + 8000 ≤ s.dev.inst o.entry.stamp) →
    Makes (.crossing o.tag) s (fun d => (∃ p, d.op o.tag = some p ∧ p.admitted = true ∧ p.entry = o.entry)
      ∧ d.ready (queueOf o.ring) = s.dev.ready (queueOf o.ring) ++ [.op o.tag]))
  ∧ (∀ (s : State) (o : Op), s.live → Admittable s.dev o 1 → s.dev.plainRings → o.entry.items = 0 →
    o.entry.asap = false → s.dev.inst o.entry.stamp < s.dev.now + 8000 →
    Makes (.crossing o.tag) s (fun d => d.op o.tag = none ∧ d.get XNG_CNT_LATE = (s.dev.get XNG_CNT_LATE + 1) % 2 ^ XNG_CNT_LATE.w))
  ∧ (∀ (s : State) (o : Op), s.live → Admittable s.dev o 8 → o.entry.items = 0 →
    s.dev.now + s.dev.get XNG_VOTE_GAP * 1000 ≤ s.dev.inst o.entry.stamp →
    Makes (.sysPart o.tag) s (fun d => (∃ p, d.op o.tag = some p ∧ p.admitted = true)
      ∧ (∃ x, d.sysX o.entry.arg = some x ∧ x.part = some o.tag)
      ∧ d.ready (queueOf o.ring) = s.dev.ready (queueOf o.ring) ++ [.op o.tag]))
  ∧ (∀ (s : State) (o : Op), s.live → Admittable s.dev o 9 → s.dev.now + s.dev.get XNG_SYS_LEAD * 1000 ≤ s.dev.inst o.entry.stamp →
    ((entryItems o.entry).map (fun w => bits w 0 12)).contains s.dev.moduleId = false →
    Makes (.sysPropose o.tag) s (fun d => ∃ x, d.sysX o.entry.arg = some x ∧ x.coord = true ∧ x.instant = s.dev.inst o.entry.stamp
      ∧ x.members = (entryItems o.entry).map (fun w => bits w 0 12) ∧ x.propOp = some o.tag))
  ∧ (∀ (s : State) (o : Op), s.live → Admittable s.dev o 9 → s.dev.inst o.entry.stamp < s.dev.now + s.dev.get XNG_SYS_LEAD * 1000 →
    Makes (.sysPropose o.tag) s (fun d => d.op o.tag = none))

/-- A make admitted (R84, R90, R224): with a free ID its ticket is ADMITTED, with the ports, class and priority the item names, the function
that asked, and the epoch drawn; the IDs given to an operation's makes are those of its items in order. -/
def Obligations.MakesAdmitted : Prop :=
  ∀ (d : Dev) (fn stamp t : Nat) (m : MakeItem), d.freeId = some t → d.tk.epoch + 1 < 0xF0000000 →
    let r := d.admitMakes fn stamp [m]
    r.2 = [t] ∧ (r.1.tkt t).state = 1 ∧ (r.1.tkt t).src = m.src ∧ (r.1.tkt t).dst = m.dst ∧ (r.1.tkt t).cls = m.cls ∧ (r.1.tkt t).prio = m.prio
      ∧ (r.1.tkt t).tenant = fn ∧ (r.1.tkt t).epoch = d.tk.epoch ∧ r.1.tk.epoch = d.tk.epoch + 1
      ∧ (∀ u, u ≠ t → r.1.tkt u = d.tkt u) ∧ r.1 = { d with tk := r.1.tk }

/-! ## Tide tables -/

/-- The table operations (R118-R120, R123, R128, R130, R381): a table source that has been read, passes its checks and fits the hold's table pool is kept
there, in extents of 1 MiB that no table had, and the table COMPILES; one whose read failed leaves the table FAILED; an UNLOAD leaves the
table EMPTY, its hold space free again; a START that passes the checks takes a run slot and the table RUNS; a STOP of a running table notes
in its run the place it is to end before.
(The model's choices: what log entries 21, 41, 85, 86 name.) -/
def Obligations.TableOperations : Prop :=
  (∀ (s : State) (o p : Op) (t : Table) (f : HostFile), s.live →
    let d := s.dev.admitRow o.tag 4
    let n := o.tableNo
    d.op o.tag = some p → p.tableNo = n → d.table n = some t → t.loadOp = some o.tag → d.get (TID_TBL_STATUS_STATE n) = 1 → d.acting = true →
    let r := d.cohRead p.fn p.entry.arg20 (bits p.entry.arg 32 32)
    (f.readOk = false → Does (.tidLoad o.tag f) s ((r.1.tblState n 6 0).finish p 0x32 0 0))
    ∧ (∀ c : Source, r.2 = true → f.readOk = true → readSource f.bytes = some c → f.bytes.length = bits p.entry.arg 32 32 →
      r.1.srcErr p.fn f.bytes c = 0 → r.1.holdUp = true → extentsFor (ceilMul f.bytes.length 64) ≤ r.1.get HLD_TABLE_FREE →
      Makes (.tidLoad o.tag f) s (fun e => e.get (TID_TBL_STATUS_STATE n) = 2 ∧ e.get (TID_TBL_STATUS_ERR n) = 0
        ∧ e.get HLD_TABLE_FREE = (r.1.get HLD_TABLE_FREE - extentsFor (ceilMul f.bytes.length 64)) % 2 ^ HLD_TABLE_FREE.w
        ∧ ∃ x : List Nat, x.length = extentsFor (ceilMul f.bytes.length 64) ∧ x.Nodup ∧ (∀ k ∈ x, k ∉ r.1.usedExtents)
          ∧ e.table n = some { t with
            cls := c.cls, prio := c.prio, inSet := c.inSet, outSet := c.outSet, steps := srcSteps c, src := f.bytes, extents := x })))
  ∧ (∀ (s : State) (o : Op), s.live → Admittable s.dev o 7 → s.dev.plainRings →
    Makes (.tidUnload o.tag) s (fun d => d.op o.tag = none ∧ d.table o.tableNo = none ∧ d.get (TID_TBL_STATUS_STATE o.tableNo) = 0
      ∧ d.get HLD_TABLE_FREE = (s.dev.get HLD_TABLE_FREE + (match s.dev.table o.tableNo with | some t => t.extents.length | none => 0))
        % 2 ^ HLD_TABLE_FREE.w))
  ∧ (∀ (s : State) (o : Op), s.live → Admittable s.dev o 7 → Does (.tidUnload o.tag) s ((atHead s.dev o).admitUnload o))
  ∧ (∀ (s : State) (o : Op) (t : Table) (l : List TStep) (k : Nat), s.live → Admittable s.dev o 5 → s.dev.table o.tableNo = some t →
    (atHead s.dev o).startErr t = (0, l) → bits o.entry.arg 16 16 < t.steps.length → s.dev.freeSlot = some k →
    (o.entry.asap = true ∨ s.dev.now + 8000 ≤ s.dev.inst o.entry.stamp) →
    Makes (.tidStart o.tag) s (fun d => d.get (TID_TBL_STATUS_STATE o.tableNo) = 4 ∧ d.get (TID_RUN_STATUS_ACTIVE k) = 1
      ∧ d.table o.tableNo = some { t with steps := l }
      ∧ ∃ u, d.run k = some u ∧ u.active = true ∧ u.table = o.tableNo ∧ u.startOp = some o.tag ∧ u.nextStep = bits o.entry.arg 16 16
        ∧ u.cycles = o.entry.arg20 ∧ u.keep = !bit o.entry.arg 10))
  ∧ (∀ (s : State) (o : Op) (t : Table) (e : Nat) (l : List TStep), s.live → Admittable s.dev o 5 → s.dev.table o.tableNo = some t →
    (atHead s.dev o).startErr t = (e, l) → e ≠ 0 → Does (.tidStart o.tag) s ((atHead s.dev o).refuseOp o (0x40 + e) e))
  ∧ (∀ (s : State) (o : Op) (k : Nat) (u : Run) (t : Table), s.live → Admittable s.dev o 6 → s.dev.slotOf o.tableNo = some k →
    s.dev.run k = some u → s.dev.table o.tableNo = some t → u.held = false → u.stopAt = none →
    let named := if bit o.entry.arg 10 then some (bits o.entry.arg 16 16) else none
    (∀ j, named = some j → j < t.steps.length) →
    Makes (.tidStop o.tag) s (fun d => ∃ v, d.run k = some v ∧ v.stopAt = some (u.stopPos t s.dev.now named)
      ∧ v.stopOps = u.stopOps ++ [o.tag] ∧ v.table = u.table ∧ v.active = u.active))

/-- Compilation ends (R120, R121, R381): with a route for every circuit and room in the hold the table is READY with its steps and their codes, the extents
it needs beyond those of its source taken; without a route it FAILS with the solver's code.
A running table (R122, R124, R127, R128): the next step after the first, not too near and with room in the sequencers of its blocks, is put
in them at its instant on the grid; a step beyond the 8,192nd is streamed into the cache; a HELD table that recompiles resumes RUNNING;
a table whose last step is over stops at the instant the next one would have had, its circuits kept or released.
(The model's choices: a command whose conditions do not hold changes nothing, log entry 3; what log entries 12, 41, 85 name.) -/
def Obligations.TablesRun : Prop :=
  (∀ (s : State) (n : Fin 1024) (t : Table) (l : List TStep), s.live → s.dev.acting = true → s.dev.table n = some t →
    s.dev.get (TID_TBL_STATUS_STATE n) = 2 → t.loadOp = none →
    s.dev.solveSteps t.cls (s.dev.allTkts.map (·.1)) (t.steps.map (fun s => (s.dwell, s.circs.map (fun c => (c.src, c.dst))))) = .ok l →
    let k := extentsFor ({ t with steps := s.dev.withCodes l } : Table).bytes - t.extents.length
    k ≤ s.dev.get HLD_TABLE_FREE →
    Makes (.tableCompileDone n) s (fun d => d.get (TID_TBL_STATUS_STATE n) = 3 ∧ d.get (TID_TBL_STATUS_STEPS n) = l.length % 2 ^ 17
      ∧ d.get HLD_TABLE_FREE = (s.dev.get HLD_TABLE_FREE - k) % 2 ^ HLD_TABLE_FREE.w
      ∧ (∃ x : List Nat, x.length = k ∧ (∀ j ∈ x, j ∉ s.dev.usedExtents)
        ∧ d.table n = some { t with steps := s.dev.withCodes l, extents := t.extents ++ x, loadOp := none })
      ∧ d = { s.dev with regs := d.regs, tide := d.tide }))
  ∧ (∀ (s : State) (n : Fin 1024) (t : Table) (e : Nat), s.live → s.dev.acting = true → s.dev.table n = some t →
    s.dev.get (TID_TBL_STATUS_STATE n) = 2 →
    s.dev.solveSteps t.cls (s.dev.allTkts.map (·.1)) (t.steps.map (fun s => (s.dwell, s.circs.map (fun c => (c.src, c.dst))))) = .error e →
    Does (.tableCompileDone n) s (s.dev.failLoad n e t.loadOp))
  ∧ (∀ (s : State) (n : Fin 1024) (k : Nat) (u : Run) (t : Table) (st : TStep), s.live → s.dev.slotOf n = some k → s.dev.run k = some u →
    s.dev.table n = some t → s.dev.mayCommit u = true → t.steps[u.nextStep]? = some st → u.start ≠ 0 →
    s.dev.now + 8000 ≤ u.instant t u.nextStep u.nextCyc →
    (∀ p ∈ s.dev.stepParts st.codes st (u.instant t u.nextStep u.nextCyc), s.dev.partsIn p.blk < 64) →
    Does (.tableStepCommit n) s (s.dev.putStep k u t st (s.dev.stepParts st.codes st (u.instant t u.nextStep u.nextCyc))
      (u.instant t u.nextStep u.nextCyc)))
  ∧ (∀ (s : State) (n : Fin 1024) (k : Nat) (u : Run) (t : Table), s.live → s.dev.slotOf n = some k → s.dev.run k = some u →
    s.dev.table n = some t → 8192 < t.steps.length → u.held = false → s.dev.holdUp = true →
    Does (.stepStream n) s (s.dev.setRun k (some { u with streamed := u.streamed + 1 })))
  ∧ (∀ (s : State) (n : Fin 1024) (k : Nat) (u : Run) (t : Table) (l : List TStep), s.live → s.dev.acting = true →
    s.dev.cmd.solving = some (.recompile n) → s.dev.slotOf n = some k → s.dev.run k = some u → s.dev.table n = some t → u.held = true →
    u.noResume = false →
    let d := { s.dev with cmd := { s.dev.cmd with solving := none } }
    (d.setRun k none).recompile t.cls ((d.tableTkts n).map (·.1)) t.steps = some l →
    Makes (.tableRecompile n) s (fun d => d.get (TID_TBL_STATUS_STATE n) = 4 ∧ d.get (TID_RUN_STATUS_HELD k) = 0
      ∧ (∃ v, d.run k = some v ∧ v.held = false) ∧ d.table n = some { t with steps := s.dev.withCodes l } ∧ d.cmd.solving = none))
  ∧ (∀ (s : State) (n : Fin 1024) (k : Nat) (u : Run) (t : Table), s.live → s.dev.slotOf n = some k → s.dev.run k = some u →
    s.dev.table n = some t → u.held = false → u.past = true → s.dev.stepsAhead n = [] →
    let d := s.dev.atLeast (u.instant t u.nextStep u.nextCyc)
    (u.keep = true → Does (.tableStop n) s (d.stopRun k)) ∧ (u.keep = false → Does (.tableStop n) s (d.stopHeld k)))
  ∧ (∀ (s : State) (n : Fin 1024), s.live → s.dev.slotOf n = none → Does (.tableStepCommit n) s s.dev ∧ Does (.stepStream n) s s.dev
    ∧ Does (.tableStop n) s s.dev)

/-! ## System crossings and received frames -/

/-- What a port does with a frame it receives, checked in order (R331, R339, R342): one that passes every check and is for this module is consumed and
handed on; a length outside 64-1,024 bytes in steps of 8 is a violation of reason 4 that asks for a replay and starts a discard; a bad CRC is
a violation of reason 1, an LSEQ ahead of the one expected one of reason 2, each of which asks for a replay and drops the frame; one whose LSEQ
has passed is dropped; a unicast frame for another module that passes is forwarded; a port that is not UP takes nothing.
(The model's choices: what log entries 45, 46 name.) -/
def Obligations.FramesReceived : Prop :=
  (∀ (d : Dev) (k : Nat) (f : Frame) (c : Nat) (sq : Bool) (deliver : Dev → Dev), GoodFrame d k f c sq → 
    d.receive k f deliver = deliver (d.consume k f))
  ∧ (∀ (d : Dev) (k : Nat) (f : Frame) (deliver : Dev → Dev), d.get (FRY_PORT_STATUS_STATE k) = 2 → (d.fryP k).discard = false →
    (f.length < 64 ∨ 1024 < f.length ∨ f.length % 8 ≠ 0) →
    d.receive k f deliver = (d.setFryP k { d.fryP k with discard := true }).violation k 4 (d.fryP k).rx true)
  ∧ (∀ (d : Dev) (k : Nat) (f : Frame) (deliver : Dev → Dev), d.get (FRY_PORT_STATUS_STATE k) = 2 → (d.fryP k).discard = false →
    64 ≤ f.length → f.length ≤ 1024 → f.length % 8 = 0 → f.crcOk = false → d.receive k f deliver = d.violation k 1 (d.fryP k).rx true)
  ∧ (∀ (d : Dev) (k : Nat) (f : Frame) (c n : Nat) (deliver : Dev → Dev), d.get (FRY_PORT_STATUS_STATE k) = 2 →
    (d.fryP k).discard = false → 64 ≤ f.length → f.length ≤ 1024 → f.length % 8 = 0 → f.crcOk = true → typeRow f.typ = some (c, n, true) →
    (passed (d.fryP k).rx f.lseq = true → d.receive k f deliver = d)
    ∧ (passed (d.fryP k).rx f.lseq = false → f.lseq % 4096 ≠ (d.fryP k).rx → d.receive k f deliver = d.violation k 2 (d.fryP k).rx true))
  ∧ (∀ (d : Dev) (k : Nat) (f : Frame) (c : Nat) (sq : Bool) (deliver : Dev → Dev), Passes d k f c sq → linkLocal f.typ = false →
    f.bcast = false → f.dst ≠ d.moduleId → d.receive k f deliver = (d.consume k f).forward k f)
  ∧ (∀ (d : Dev) (k : Nat) (f : Frame) (deliver : Dev → Dev), d.get (FRY_PORT_STATUS_STATE k) ≠ 2 → d.receive k f deliver = d)

/-- Frames of system crossings that reach an acting wheelhouse (R131-R134): a PROPOSAL not known yet is held with its instant and queued in Q1;
a VOTE to the coordinator, of a member that has not voted, is counted and the votes are looked at; a DECISION from the coordinator is held; a
DECISION_REPORT records the crossing as missed.
The two deadlines of a system crossing (R132, R133): at the vote deadline a participant whose part has not come votes NO, with a reason the
spec leaves open, and a coordinator without every vote decides ABORT, naming a member whose vote is missing; 2.000 us before the instant a GO held lets the part execute, an ABORT withdraws it, and with no decision after a READY vote the decision is lost.
(The model's choices: a command whose conditions do not hold changes nothing, log entry 3; what log entries 12, 22, 42, 84 name.) -/
def Obligations.SystemCrossings : Prop :=
  (∀ (s : State) (k : Fin 8) (w : RawFrame), s.live → let f := readFrame w
    f.typ = 1 → GoodFrame s.dev k f 0 true → s.dev.inletRoom = true → s.dev.acting = true →
    s.dev.sysX (frameId f) = none →
    Makes (.proposal k w) s (fun d => (∃ x, d.sysX (frameId f) = some x ∧ x.proposed = true ∧ x.coord = false
        ∧ x.instant = s.dev.inst (f.words.getD 2 0 % 2 ^ 32 + f.words.getD 3 0 % 2 ^ 32 * 2 ^ 32))
      ∧ d.ready 1 = s.dev.ready 1 ++ [.proposal (frameId f)] ∧ (d.fryP k).rx = ((s.dev.fryP k).rx + 1) % 4096))
  ∧ (∀ (s : State) (k : Fin 8) (w : RawFrame) (x : Sys), s.live → let f := readFrame w
    f.typ = 2 → GoodFrame s.dev k f 0 true → s.dev.inletRoom = true →
    s.dev.acting = true → frameId f / 2 ^ 52 = s.dev.moduleId → s.dev.sysX (frameId f) = some x → x.coord = true → x.decision = none →
    x.members.contains (bits (f.words.getD 2 0) 16 12) = true → (∀ v ∈ x.votes, v.1 ≠ bits (f.words.getD 2 0) 16 12) →
    Does (.vote k w) s ((((s.dev.consume k f).inletPut false).setSysX (frameId f) (some { x with votes := x.votes ++
      [(bits (f.words.getD 2 0) 16 12, bit (f.words.getD 2 0) 0, bits (f.words.getD 2 0) 8 8)] })).tally (frameId f)))
  ∧ (∀ (s : State) (k : Fin 8) (w : RawFrame) (x : Sys), s.live → let f := readFrame w
    f.typ = 3 → GoodFrame s.dev k f 0 true → s.dev.inletRoom = true →
    s.dev.acting = true → f.src = frameId f / 2 ^ 52 → s.dev.sysX (frameId f) = some x → x.ready = true → x.decision = none →
    Makes (.decision k w) s (fun d => ∃ y, d.sysX (frameId f) = some y ∧ y.decision = some (bit (f.words.getD 2 0) 0)))
  ∧ (∀ (s : State) (k : Fin 8) (w : RawFrame), s.live → let f := readFrame w
    f.typ = 4 → GoodFrame s.dev k f 0 true → s.dev.inletRoom = true → s.dev.acting = true →
    frameId f / 2 ^ 52 = s.dev.moduleId →
    Does (.decisionReport k w) s (((s.dev.consume k f).inletPut false).missed (frameId f) 2 (bits (f.words.getD 2 0) 0 12)))
  ∧ (∀ (s : State) (id : Nat) (x : Sys), s.live → s.dev.sysX id = some x → x.proposed = true → x.voted = false → x.part = none → x.coord = false →
    id / 2 ^ 52 ≠ s.dev.moduleId →
    let d := s.dev.atLeast (x.instant - s.dev.get XNG_VOTE_GAP * 1000)
    Does (.voteDeadline id) s (d.useFresh.sendVote id false (Config.freeNat s.dev.fresh % 256)))
  ∧ (∀ (s : State) (id m : Nat) (x : Sys), s.live → s.dev.sysX id = some x → x.coord = true → x.proposed = false → x.decision = none →
    (∀ v ∈ x.votes, v.2.1 = true) → x.members.find? (fun m => !x.votes.any (fun v => v.1 == m)) = some m →
    Does (.voteDeadline id) s ((s.dev.atLeast (x.instant - s.dev.get XNG_VOTE_GAP * 1000)).rule id false 0 m))
  ∧ (∀ (s : State) (id : Nat) (x : Sys), s.live → s.dev.sysX id = some x → x.proposed = true → x.decision = some true →
    Does (.decisionCheck id) s ((s.dev.atLeast (x.instant - 2000)).setSysX id (some { x with go := true })))
  ∧ (∀ (s : State) (id : Nat) (x : Sys), s.live → s.dev.sysX id = some x → x.proposed = true → x.decision = some false →
    Does (.decisionCheck id) s ((s.dev.atLeast (x.instant - 2000)).withdrawPart id x x.why.1 x.why.2))
  ∧ (∀ (s : State) (id : Nat) (x : Sys), s.live → s.dev.sysX id = some x → x.proposed = true → x.decision = none → x.ready = true →
    Does (.decisionCheck id) s (((s.dev.atLeast (x.instant - 2000)).inc XNG_CNT_DECISION_LOST).decisionLost id x))
  ∧ (∀ (s : State) (id : Nat), s.live → s.dev.sysX id = none → Does (.voteDeadline id) s s.dev ∧ Does (.decisionCheck id) s s.dev)

/-! ## Module time -/

/-- The servo (R143-R149): while UNSET a sample sets module time back by its offset and the servo ACQUIREs; beyond TIM_JUMP_MAX it is refused;
within, the integrator, the adjustment and the increment move by the rule and the run of refusals ends; with no servo it is dropped. No
sample for TIM_LOSS_TIMEOUT means HOLDOVER.
Reading and choosing time (R142, R143, R146, R149, R150, R153): a snapshot holds the instant of the read for its requester; a new source
is selected and its samples are gone; a PPS_IN edge is captured and, under SRC 3, yields a sample; PTP messages count only for SRC 2, its domain and its transport, and a Sync's sample only from the master followed; TIM_CTL.SUSPEND
suspends; FORCE is refused while crossings go on; PPS_OUT rises at a whole second and falls 100 ms later.
(The model's choices: a command whose conditions do not hold changes nothing, log entry 3; what log entries 7, 12, 38, 89 name.) -/
def Obligations.ModuleTime : Prop :=
  (∀ (s : State) (x : Int) (l : List Int), s.live → s.dev.tim.samples = x :: l → s.dev.on TIM_CTL_SERVO_EN = false →
    Does .offsetSample s { s.dev with tim := { s.dev.tim with samples := l } })
  ∧ (∀ (s : State) (x : Int) (l : List Int), s.live → s.dev.tim.samples = x :: l → s.dev.on TIM_CTL_SERVO_EN = true →
    s.dev.get TIM_STATUS_STATE = 0 → x * 65536 ≤ s.dev.mt →
    Makes .offsetSample s (fun d => (d.mt : Int) = s.dev.mt - x * 65536 ∧ d.tick = s.dev.tick ∧ d.get TIM_STATUS_STATE = 1
      ∧ d.tim.integ = 0 ∧ d.tim.samples = l))
  ∧ (∀ (s : State) (x : Int) (l : List Int), s.live → s.dev.tim.samples = x :: l → s.dev.on TIM_CTL_SERVO_EN = true →
    s.dev.get TIM_STATUS_STATE ≠ 0 → s.dev.get TIM_JUMP_MAX * 65536 < x.natAbs →
    let d := (({ s.dev with tim := { s.dev.tim with samples := l } }).set TIM_OFFSET
      (uns 32 (clampI (-2147483648) 2147483647 (nearest x 65536)))).refuseSample
    (d.get TIM_STATUS_REFUSED_RUN < 7 → Does .offsetSample s (d.set TIM_STATUS_REFUSED_RUN (d.get TIM_STATUS_REFUSED_RUN + 1)))
      ∧ (7 ≤ d.get TIM_STATUS_REFUSED_RUN → Does .offsetSample s (d.set TIM_STATUS_REFUSED_RUN 8).enterHoldover))
  ∧ (∀ (s : State) (x : Int), s.live → s.dev.tim.samples = [x] → s.dev.on TIM_CTL_SERVO_EN = true →
    s.dev.get TIM_STATUS_STATE = 1 ∨ s.dev.get TIM_STATUS_STATE = 2 → x.natAbs ≤ s.dev.get TIM_JUMP_MAX * 65536 →
    let g := s.dev.clampAdj (s.dev.tim.integ + nearest (sgn 32 (s.dev.get TIM_KI) * x * ((s.dev.tick - s.dev.tim.lastOk : Nat) : Int)) 65536000000000)
    let a := s.dev.clampAdj (nearest (sgn 32 (s.dev.get TIM_KP) * x) 65536 + g)
    Makes .offsetSample s (fun d => d.tim.integ = g ∧ d.tim.adj = a ∧ d.tim.lastOk = s.dev.tick ∧ d.tim.samples = []
      ∧ d.get TIM_INCR = (4294967296 - nearest (a * 65536) 1000000000 + s.dev.tim.thermal).toNat % 2 ^ 36
      ∧ d.get TIM_STATUS_REFUSED_RUN = 0 ∧ d = { s.dev with regs := d.regs, tim := d.tim }))
  ∧ (∀ s : State, s.live → s.dev.get TIM_STATUS_STATE = 1 ∨ s.dev.get TIM_STATUS_STATE = 2 →
    Does .timLossTimeout s ((s.dev.atTick (s.dev.tim.lastAny + s.dev.get TIM_LOSS_TIMEOUT * 1000000)).enterHoldover))
  ∧ (∀ s : State, s.live → s.dev.get TIM_STATUS_STATE = 0 → Does .timLossTimeout s s.dev)
  ∧ (∀ s : State, s.live → Does .tcxoLoss s ((s.dev.setB TIM_STATUS_TCXO_OK false).raise 88 0 0 0 []))
  ∧ (∀ (s : State) (k : Nat) (x : Int), s.live → k < 17 → x.natAbs ≤ 4294967296 →
    Makes (.replicaCheck [(k, x)]) s (fun d => d.tim.replica.get 0 k = x ∧ d = { s.dev with tim := d.tim }))
  ∧ (∀ (s : State) (k : Nat) (x : Int), s.live → k < 17 → 2 * 4294967296 < x.natAbs →
    let d := { s.dev with tim := { s.dev.tim with replica := s.dev.tim.replica.put 0 k 0 } }
    Does (.replicaCheck [(k, x)]) s ((d.logL0 89 0 0 0 [d.statusWord 89 0 0]).raise 88 0 0 0 []))
  ∧ (∀ (s : State) (r : Requester), s.answers →
    Makes (.timeSnapshot r) s (fun d => d.tim.snaps.get 0 (reqKey r) = s.dev.now
      ∧ (∀ k, k ≠ reqKey r → d.tim.snaps.get 0 k = s.dev.tim.snaps.get 0 k)
      ∧ d = { s.dev.unlatch r with tim := { s.dev.tim with snaps := d.tim.snaps }, out := d.out }))
  ∧ (∀ (s : State) (r : Requester) (c : Fin 4) (p : Fin 8), Reached s r 0x50000 → s.dev.get TIM_CTL_SRC ≠ c.val → s.dev.get TIM_STATUS_STATE = 0 →
    Makes (.timeSourceSelect r c p) s (fun d => d.get TIM_CTL_SRC = c.val ∧ d.get TIM_CTL_FERRY_PORT = p.val ∧ d.tim.samples = []
      ∧ d.tim.known = false ∧ d.get TIM_STATUS_STATE = 0 ∧ d = { s.dev.unlatch r with regs := d.regs, tim := d.tim }))
  ∧ (∀ (s : State) (r : Requester) (c : Fin 4) (p : Fin 8), Reached s r 0x50000 → s.dev.get TIM_CTL_SRC ≠ c.val →
    Does (.timeSourceSelect r c p) s (((s.dev.unlatch r).set TIM_CTL_SRC c).set TIM_CTL_FERRY_PORT p).sourceChange)
  ∧ (∀ (s : State) (r : Requester) (c : Fin 4) (p : Fin 8), Reached s r 0x50000 → s.dev.get TIM_CTL_SRC = c.val →
    s.dev.get TIM_CTL_FERRY_PORT = p.val → Does (.timeSourceSelect r c p) s (s.dev.unlatch r))
  ∧ (∀ s : State, s.live → s.dev.get TIM_CTL_SRC ≠ 3 →
    Makes .ppsInEdge s (fun d => d.get TIM_CAP_PPS = stampOf s.dev.now % 2 ^ 64 ∧ OnlyFields s.dev d [TIM_CAP_PPS]))
  ∧ (∀ s : State, s.live → s.dev.get TIM_CTL_SRC = 3 →
    let m : Int := ((s.dev.now : Int) + sgn 16 (s.dev.get TIM_PPS_DELAY)) % 1000000000
    (2 * m < 1000000000 → Makes .ppsInEdge s (fun d =>
      d.tim.samples = s.dev.tim.samples ++ [m * 65536] ∧ d.get TIM_CAP_PPS = stampOf s.dev.now % 2 ^ 64))
    ∧ (1000000000 < 2 * m → Makes .ppsInEdge s (fun d =>
      d.tim.samples = s.dev.tim.samples ++ [(m - 1000000000) * 65536] ∧ d.get TIM_CAP_PPS = stampOf s.dev.now % 2 ^ 64)))
  ∧ (∀ (s : State) (u : Bool) (dom p : Nat) (x : Int), s.live → s.dev.ptpTakes u dom = true → s.dev.tim.known = true → s.dev.tim.gmPort = p →
    Makes (.ptpSync u dom p x) s (fun d => d.tim.samples = s.dev.tim.samples ++ [x] ∧ d.tim.lastAny = s.dev.tick
      ∧ OnlyFields { s.dev with tim := d.tim } d [HST_MGMT_CNT_RX, HST_MGMT_CTL_LINK]))
  ∧ (∀ (s : State) (u : Bool) (dom gm p : Nat), s.live → s.dev.ptpTakes u dom = true → s.dev.tim.known = false →
    Does (.ptpAnnounce u dom gm p) s { s.dev.mgmtIn.inc HST_MGMT_CNT_RX with tim := { s.dev.tim with gm := gm, gmPort := p, known := true } })
  ∧ (∀ (s : State) (u : Bool) (dom gm p : Nat), s.live → s.dev.ptpTakes u dom = true → s.dev.tim.known = true → s.dev.tim.gm ≠ gm →
    Makes (.ptpAnnounce u dom gm p) s (fun d => d.tim.gm = gm ∧ d.tim.gmPort = p ∧ d.tim.known = true ∧ d.tim.samples = []))
  ∧ (∀ (s : State) (u : Bool) (dom gm p : Nat) (x : Int), s.live → s.dev.mgmtOn = true → (s.dev.get TIM_CTL_SRC ≠ 2
      ∨ s.dev.get TIM_CTL_PTP_DOMAIN ≠ dom ∨ u ≠ s.dev.on TIM_CTL_PTP_UDP ∨ u = true ∧ s.dev.get HST_MGMT_IPV4 = 0) →
    Does (.ptpSync u dom p x) s (s.dev.mgmtIn.inc HST_MGMT_CNT_DROP) ∧ Does (.ptpAnnounce u dom gm p) s (s.dev.mgmtIn.inc HST_MGMT_CNT_DROP))
  ∧ (∀ (s : State) (u : Bool) (dom gm p : Nat) (x : Int), s.live → s.dev.mgmtOn = false →
    Does (.ptpSync u dom p x) s s.dev ∧ Does (.ptpAnnounce u dom gm p) s s.dev)
  ∧ (∀ (s : State) (r : Requester), Reached s r 0x50000 →
    Does (.suspend r true) s ((s.dev.unlatch r).setB TIM_CTL_SUSPEND true).holdSuspended)
  ∧ (∀ (s : State) (r : Requester), Reached s r 0x50000 → s.dev.tim.hold = true → Does (.suspend r false) s (s.dev.unlatch r))
  ∧ (∀ (s : State) (r : Requester), Reached s r 0x50000 → s.dev.tim.hold = false → s.dev.on TIM_CTL_SUSPEND = true →
    Does (.suspend r false) s ((s.dev.unlatch r).setB TIM_CTL_SUSPEND false).resume)
  ∧ (∀ (s : State) (r : Requester), Reached s r 0x50000 → s.dev.suspended = false →
    Makes (.force r) s (fun d => d.get TIM_STATUS_FORCE_REFUSED = 1 ∧ OnlyFields (s.dev.unlatch r) d [TIM_STATUS_FORCE_REFUSED]))
  ∧ (∀ (s : State) (r : Requester), Reached s r 0x50000 → s.dev.suspended = true →
    0 ≤ (s.dev.mt : Int) + sgn 64 (s.dev.get TIM_FORCE_OFS) * 4294967296 →
    Makes (.force r) s (fun d => (d.mt : Int) = s.dev.mt + sgn 64 (s.dev.get TIM_FORCE_OFS) * 4294967296 ∧ d.tick = s.dev.tick))
  ∧ (∀ s : State, s.live → s.dev.tim.ppsOut = false → s.dev.on TIM_CTL_PPS_OUT_EN = true →
    let d := s.dev.atLeast (ceilMul s.dev.now 1000000000)
    Does .ppsOut s (({ d with tim := { d.tim with ppsOut := true } }).emit (.pin 2 true)))
  ∧ (∀ s : State, s.live → s.dev.tim.ppsOut = true →
    let d := s.dev.atLeast (s.dev.now / 1000000000 * 1000000000 + 100000000)
    Does .ppsOut s (({ d with tim := { d.tim with ppsOut := false } }).emit (.pin 2 false)))

/-! ## Ferry lanes -/

/-- Bring-up (R332, R344): ENABLE at 1 lets a disabled port that may train do so, at 0 disables it and empties it; a training port sends a
HELLO once its lanes are aligned and takes its partner's ID and role from one, going DOWN with LOOP on its own ID; after a HELLO and 1,024 clean codewords, with each lane at most 20 ns behind the other, it is UP with its
sequence numbers at 0; a lane's lost lock takes an UP port DOWN with LOCK, from which it trains again.
(The model's choices: a command whose conditions do not hold changes nothing, log entry 3; what log entries 12, 46 name.) -/
def Obligations.FerryBringUp : Prop :=
  (∀ (s : State) (r : Requester) (k : Fin 8), Reached s r (0x70100 + k.val * 0x40) → (s.dev.fryP k).off = false → s.dev.man.waiting.cells = [] → s.dev.get (FRY_PORT_STATUS_STATE k) = 0 →
    (s.dev.setB (FRY_PORT_CTL_ENABLE k) true).mayTrain k = true →
    Does (.ferryPortEnable r k true) s (((s.dev.unlatch r).setB (FRY_PORT_CTL_ENABLE k) true).train k))
  ∧ (∀ (s : State) (r : Requester) (k : Fin 8), Reached s r (0x70100 + k.val * 0x40) → (s.dev.fryP k).off = false →
    Makes (.ferryPortEnable r k false) s (fun d => d.get (FRY_PORT_CTL_ENABLE k) = 0 ∧ d.get (FRY_PORT_STATUS_STATE k) = 0
      ∧ d.get (FRY_PORT_STATUS_CAUSE k) = 0 ∧ d.fryP k = (s.dev.fryP k).emptied ∧ (∀ j, j ≠ k.val → d.fryP j = s.dev.fryP j)
      ∧ d = { s.dev.unlatch r with regs := d.regs, fry := d.fry }))
  ∧ (∀ (s : State) (k : Fin 8), s.live → s.dev.get (FRY_PORT_STATUS_STATE k) = 1 → (s.dev.fryP k).hello = false → (s.dev.fryP k).helloAt = none →
    s.dev.on (FRY_LANE_STATUS_ALIGNED (2 * k)) = true → s.dev.on (FRY_LANE_STATUS_ALIGNED (2 * k + 1)) = true →
    let d := s.dev.setFryP k { s.dev.fryP k with helloAt := some s.dev.tick }
    Does (.helloSend k) s (d.sendOn k
      (d.frame 0x70 false 0 [d.moduleId + d.fryRole k * 4096 + b2n (d.safetyA k) * 32768 + d.timeRole * 65536])))
  ∧ (∀ (s : State) (k : Fin 8), s.live → s.dev.get (FRY_PORT_STATUS_STATE k) = 0 → Does (.helloSend k) s s.dev)
  ∧ (∀ (s : State) (k : Fin 8) (w : RawFrame), s.live → let f := readFrame w
    f.typ = 0x70 → s.dev.get (FRY_PORT_STATUS_STATE k) = 1 → f.crcOk = true → f.length = 64 → f.cls = 3 →
    f.words.getD 0 0 % 4096 ≠ s.dev.moduleId →
    Makes (.hello k w) s (fun d => d.get (FRY_PORT_STATUS_PEER k) = f.words.getD 0 0 % 4096 ∧ d.get (FRY_PORT_STATUS_PEER_VALID k) = 1
      ∧ d.fryP k = { s.dev.fryP k with hello := true, peerRole := bits (f.words.getD 0 0) 12 3 }
      ∧ d = { s.dev with regs := d.regs, fry := d.fry }))
  ∧ (∀ (s : State) (k : Fin 8) (w : RawFrame), s.live → let f := readFrame w
    f.typ = 0x70 → s.dev.get (FRY_PORT_STATUS_STATE k) = 1 → f.crcOk = true → f.length = 64 → f.cls = 3 →
    f.words.getD 0 0 % 4096 = s.dev.moduleId →
    Does (.hello k w) s ((s.dev.sets [(FRY_PORT_STATUS_PEER k, f.words.getD 0 0 % 4096), (FRY_PORT_STATUS_PEER_VALID k, 1)]).portDown k 4 (16 + k)))
  ∧ (∀ (s : State) (k : Fin 8) (a b : Nat), s.live → s.dev.get (FRY_PORT_STATUS_STATE k) = 1 → (s.dev.fryP k).hello = true →
    1024 ≤ (s.dev.fryP k).clean → a ≤ 200 → b ≤ 200 →
    Makes (.portUp k a b) s (fun d => d.get (FRY_PORT_STATUS_STATE k) = 2 ∧ d.get (FRY_LANE_STATUS_SKEW (2 * k)) = a
      ∧ d.get (FRY_LANE_STATUS_SKEW (2 * k + 1)) = b ∧ (d.fryP k).tx = 0 ∧ (d.fryP k).rx = 0 ∧ (d.fryP k).retry = []
      ∧ (∀ j, j ≠ k.val → d.fryP j = s.dev.fryP j) ∧ d = { s.dev with regs := d.regs, fry := d.fry }))
  ∧ (∀ (s : State) (k : Fin 8) (a b : Nat), s.live → (s.dev.fryP k).clean < 1024 ∨ 200 < a ∨ 200 < b → Does (.portUp k a b) s s.dev)
  ∧ (∀ (s : State) (l : Fin 16), s.live → let d := (s.dev.setB (FRY_LANE_STATUS_LOCK l) false).setB (FRY_LANE_STATUS_ALIGNED l) false
    (s.dev.get (FRY_PORT_STATUS_STATE (l / 2)) = 2 → Does (.lockLoss l) s (d.portDown (l / 2) 1 l))
    ∧ (s.dev.get (FRY_PORT_STATUS_STATE (l / 2)) ≠ 2 → Does (.lockLoss l) s d))
  ∧ (∀ (s : State) (k : Fin 8), s.live → s.dev.get (FRY_PORT_STATUS_STATE k) = 3 → s.dev.get (FRY_PORT_STATUS_CAUSE k) = 1 →
    Does (.lockRetrain k) s ((s.dev.atTick ((s.dev.fryP k).downAt + 100000000)).train k))
  ∧ (∀ (s : State) (k : Fin 8), s.live → s.dev.get (FRY_PORT_STATUS_CAUSE k) ≠ 1 → Does (.lockRetrain k) s s.dev)

/-- A port at work (R328, R331, R336, R339, R340, R343): a codeword whose ACK names a held frame frees that one and every one before it; an
uncorrectable one starts a discard; a time-critical frame leaves in a sailing window that it fits; a NAK without REPLAY is counted, one with it starts a
replay; 100 us without an ACK start one from the oldest held frame; too many violations in a second take the port DOWN; a frame for another module
goes on to the port that leads there with one hop less, or is dropped with NO_ROUTE.
(The model's choices: a command whose conditions do not hold changes nothing, log entry 3; what log entries 12, 46 name.) -/
def Obligations.FerryTraffic : Prop :=
  (∀ (s : State) (k : Fin 8) (h : Nat) (c0 c1 : Bool) (l r : List Frame) (f : Frame), s.live → s.dev.get (FRY_PORT_STATUS_STATE k) = 2 →
    (s.dev.fryP k).retry = l ++ f :: r → f.lseq = bits h 0 12 → ((s.dev.fryP k).retry.map (fun g => g.lseq)).Nodup → (s.dev.fryP k).tc3 = [] →
    Makes (.codeword k h false c0 c1) s (fun d => (d.fryP k).retry = r ∧ (d.fryP k).ackTick = s.dev.tick
      ∧ (∀ j, j ≠ k.val → d.fryP j = s.dev.fryP j) ∧ d = { s.dev with regs := d.regs, fry := d.fry }))
  ∧ (∀ (s : State) (k : Fin 8) (h : Nat) (c0 c1 : Bool), s.live → s.dev.get (FRY_PORT_STATUS_STATE k) = 1 →
    Makes (.codeword k h true c0 c1) s (fun d => d.fryP k = { s.dev.fryP k with clean := 0, discard := true }
      ∧ d = { s.dev with regs := d.regs, fry := d.fry }))
  ∧ (∀ (s : State) (k : Fin 8) (n : Nat) (q : QFrame), s.live → s.dev.get (FRY_PORT_STATUS_STATE k) = 2 → (s.dev.fryP k).tc0 = [q] →
    (s.dev.fryP k).tc1 = [] → (s.dev.fryP k).tc2 = [] → (s.dev.fryP k).tc3 = [] → (s.dev.fryP k).room q = true →
    q.frame.length ≤ 640 * min n (s.dev.get (FRY_PORT_WIN_LEN k) * 7 / 170) →
    let d := s.dev.atLeastIn [16] (ceilMul s.dev.now (s.dev.get (FRY_PORT_WIN_PERIOD k)))
    let e := (d.setFryP k { d.fryP k with tc0 := [] }).transmit k q
    Does (.sailingWindow k n) s (e.setFryP k (e.fryP k).age))
  ∧ (∀ (s : State) (k : Fin 8) (n : Nat), s.live → s.dev.get (FRY_PORT_STATUS_STATE k) ≠ 2 → Does (.sailingWindow k n) s s.dev)
  ∧ (∀ (s : State) (k : Fin 8) (w : RawFrame), s.live → let f := readFrame w
    f.typ = 0x71 → GoodFrame s.dev k f 3 false → bit (f.words.getD 0 0) 20 = false →
    Does (.nak k w) s (s.dev.inc (FRY_PORT_CNT_NAKRX k)))
  ∧ (∀ (s : State) (k : Fin 8) (w : RawFrame) (g : Frame), s.live → let f := readFrame w
    f.typ = 0x71 → GoodFrame s.dev k f 3 false → bit (f.words.getD 0 0) 20 = true →
    g ∈ (s.dev.fryP k).retry → g.lseq = f.words.getD 0 0 % 4096 → (s.dev.fryP k).replaying = false →
    Does (.nak k w) s ((s.dev.inc (FRY_PORT_CNT_NAKRX k)).startReplay k g.lseq))
  ∧ (∀ (s : State) (k : Fin 8) (f : Frame) (l : List Frame), s.live → s.dev.get (FRY_PORT_STATUS_STATE k) = 2 → (s.dev.fryP k).retry = f :: l →
    Does (.replayTimeout k) s ((s.dev.atTick ((s.dev.fryP k).ackTick + 100000)).startReplay k f.lseq))
  ∧ (∀ (d : Dev) (k n : Nat), (d.fryP k).rptSeq = n → 8 ≤ (d.fryP k).rptCnt → d.startReplay k n = d.portDown k 3 (16 + k))
  ∧ (∀ (s : State) (k : Fin 8), s.live → (s.dev.fryP k).retry = [] → Does (.replayTimeout k) s s.dev)
  ∧ (∀ (s : State) (k : Fin 8), s.live →
    let d := s.dev.atTick (ceilMul s.dev.tick 1000000000)
    let e := (d.set (FRY_PORT_VIOL_RATE k) (min (s.dev.fryP k).viol 65535)).setFryP k { s.dev.fryP k with viol := 0 }
    ((s.dev.violThresh k = 0 ∨ (s.dev.fryP k).viol ≤ s.dev.violThresh k) → Does (.violationSecond k) s e)
    ∧ (s.dev.violThresh k ≠ 0 → s.dev.violThresh k < (s.dev.fryP k).viol → s.dev.get (FRY_PORT_STATUS_STATE k) = 2 →
      Does (.violationSecond k) s (e.portDown k 2 (16 + k))))
  ∧ (∀ (s : State) (k : Fin 8) (w : RawFrame) (c : Nat) (sq : Bool) (j : Nat), s.live → let f := readFrame w
    Passes s.dev k f c sq → linkLocal f.typ = false → f.bcast = false →
    f.dst ≠ s.dev.moduleId → f.hops ≠ 0 → f.typ ≠ 0x20 → s.dev.portTo f.dst = some j →
    Does (.frameForward k w) s ((s.dev.consume k f).enqueue j { f with hops := f.hops - 1, lseq := 0 }))
  ∧ (∀ (s : State) (k : Fin 8) (w : RawFrame) (c : Nat) (sq : Bool), s.live → let f := readFrame w
    Passes s.dev k f c sq → linkLocal f.typ = false → f.bcast = false →
    f.dst ≠ s.dev.moduleId → (f.hops = 0 ∨ s.dev.portTo f.dst = none) →
    Does (.frameForward k w) s (((s.dev.consume k f).inc FRY_CNT_NOROUTE).violation k 6 f.lseq false))

/-- A time exchange (R345-R347): a serving port sends SYNC with its exchange's number; a taking port notes T2 and answers DELAY_REQ, which the serving
port answers with T4; DELAY_RESP yields the offset sample ((T2 - T1) - (T4 - T3)) / 2 - ASYM / 2 for the servo, where it takes its time from this port; an exchange
left without one for 100 us is dropped.
(The model's choices: a command whose conditions do not hold changes nothing, log entry 3; what log entry 12 names.) -/
def Obligations.FerryTime : Prop :=
  (∀ (s : State) (k : Fin 8), s.live → s.dev.get (FRY_PORT_STATUS_STATE k) = 2 → s.dev.serves k = true → s.dev.timeRole = 1 → (s.dev.fryP k).exchAt = none →
    let x := ((s.dev.fryP k).exch + 1) % 65536
    let d := s.dev.setFryP k { s.dev.fryP k with exch := x, exchAt := some s.dev.now, serving := true }
    Does (.exchangeStart k) s (d.enqueue k (d.frame 0x10 false 0
      [0, 0, x * 65536, d.moduleId % 4096 + d.get TIM_STATUS_STATE * 65536])))
  ∧ (∀ (s : State) (k : Fin 8), s.live → s.dev.serves k = false → Does (.exchangeStart k) s s.dev)
  ∧ (∀ (s : State) (k : Fin 8) (w : RawFrame), s.live → let f := readFrame w
    f.typ = 0x10 → GoodFrame s.dev k f 2 false → s.dev.takes k = true →
    let g := fun j => f.words.getD j 0
    let d := s.dev.setFryP k { s.dev.fryP k with taker := some {
        exch := g 2 / 65536 % 65536, t1 := s.dev.inst (g 0 + g 1 * 2 ^ 32) * 65536 + g 2 % 65536, t2 := s.dev.mt / 65536, t3 := none,
        master := g 3 % 4096, steps := g 3 / 4096 % 16, state := g 3 / 65536 % 4, tick := s.dev.tick } }
    Does (.sync k w) s (d.enqueue k (d.frame 0x11 false 0 [0, 0, g 2 / 65536 % 65536 * 65536])))
  ∧ (∀ (s : State) (k : Fin 8) (w : RawFrame), s.live → let f := readFrame w
    f.typ = 0x11 → GoodFrame s.dev k f 2 false → s.dev.serves k = true → (s.dev.fryP k).serving = true →
    (s.dev.fryP k).exch = f.words.getD 2 0 / 65536 % 65536 →
    let d := s.dev.setFryP k { s.dev.fryP k with serving := false }
    Does (.delayReq k w) s (d.enqueue k (d.frame 0x12 false 0 [stampOf s.dev.now % 2 ^ 32, stampOf s.dev.now / 2 ^ 32,
      s.dev.mt / 65536 % 65536 + (s.dev.fryP k).exch * 65536])))
  ∧ (∀ (s : State) (k : Fin 8) (w : RawFrame) (t : Taker) (t3 : Nat), s.live → let f := readFrame w
    f.typ = 0x12 → GoodFrame s.dev k f 2 false → s.dev.takes k = true →
    (s.dev.fryP k).taker = some t → t.t3 = some t3 → t.exch = f.words.getD 2 0 / 65536 % 65536 → s.dev.get TIM_CTL_SRC = 1 →
    s.dev.get TIM_CTL_FERRY_PORT = k.val → t.steps = 0 → s.dev.tim.known = false →
    let t4 : Int := (s.dev.inst (f.words.getD 0 0 + f.words.getD 1 0 * 2 ^ 32) * 65536 + f.words.getD 2 0 % 65536 : Nat)
    Makes (.delayResp k w) s (fun d => (d.fryP k).taker = none ∧ d.tim.known = true ∧ d.tim.master = t.master
      ∧ d.tim.samples = s.dev.tim.samples ++ [nearest (((t.t2 : Int) - t.t1 - (t4 - t3)) * 1000 - sgn 16 (s.dev.get (FRY_PORT_ASYM k)) * 65536) 2000]
      ∧ d = { s.dev with tim := d.tim, fry := d.fry }))
  ∧ (∀ (s : State) (k : Fin 8) (t : Taker), s.live → (s.dev.fryP k).taker = some t →
    Does (.exchangeAbandon k) s ((s.dev.atTick (t.tick + 100000)).setFryP k { s.dev.fryP k with taker := none }))
  ∧ (∀ (s : State) (k : Fin 8), s.live → (s.dev.fryP k).taker = none → (s.dev.fryP k).serving = false → Does (.exchangeAbandon k) s s.dev)

/-! ## Telemetry and temperature -/

/-- Frames and records (R351, R352, R378, R382, R383): while enabled a TELEMETRY frame is sent; one received goes to the next slot of PF0's ring, and is
dropped and counted while the ring is full or not enabled; a history record is written at its place, after what waits before it at the hold port, and while the hold is lost only its
number goes on.
Housekeeping (R205-R213): a round starts 20 ms after the one before; its report, of sensors all working and below every limit, shows each value as
counted and as reported, and counts the round, and the berths follow; a rail within 5 % of its nominal value clears its flags, one outside it for the second round running raises
SUP_RANGE; with no round under way nothing is reported.
(The model's choices: a command whose conditions do not hold changes nothing, log entry 3; what log entries 12, 52, 54, 65 name.) -/
def Obligations.ReportsAndHousekeeping : Prop :=
  (∀ s : State, s.live → s.dev.on FRY_TEL_CFG_EN = true → s.dev.fry.telAt = none →
    Does .telemetrySend s (({ s.dev with fry := { s.dev.fry with telAt := some s.dev.tick } }).sendFrame 0x40 (s.dev.get FRY_TEL_CFG_DST)
      s.dev.telPayload))
  ∧ (∀ s : State, s.live → s.dev.on FRY_TEL_CFG_EN = false → Does .telemetrySend s s.dev)
  ∧ (∀ (s : State) (k : Fin 8) (w : RawFrame), s.live → let f := readFrame w
    f.typ = 0x40 → GoodFrame s.dev k f 3 true → f.bcast = false → s.dev.on FRY_TEL_RING_CFG_EN = false →
    Does (.telemetry k w) s ((s.dev.consume k f).inc FRY_TEL_CNT_DROP))
  ∧ (∀ (s : State) (k : Fin 8) (w : RawFrame), s.live → let f := readFrame w
    f.typ = 0x40 → GoodFrame s.dev k f 3 true → f.bcast = false → s.dev.on FRY_TEL_RING_CFG_EN = true →
    let n := 2 ^ (s.dev.get FRY_TEL_RING_CFG_SIZE + 4)
    let t := s.dev.get FRY_TEL_RING_TAIL
    (t + 1) % n ≠ s.dev.get FRY_TEL_RING_HEAD % n →
    Does (.telemetry k w) s ((((s.dev.consume k f).emit (.hostWrite 0 (s.dev.get FRY_TEL_RING_BASE * 1024 + t * 1024) (frameWords f))).set
      FRY_TEL_RING_TAIL ((t + 1) % n)).msix 0 (s.dev.get FRY_TEL_RING_CFG_VEC)))
  ∧ (∀ s : State, s.live → s.dev.on HLD_CTL_EN = true → s.dev.get HLD_STATUS_STATE = 2 → s.dev.hld.histAt = none →
    let e := ({ s.dev with hld := { s.dev.hld with histAt := some s.dev.tick } }).servePort .history
    let n := s.dev.get HLD_HIST_HEAD
    let a := s.dev.get HLD_HIST_BASE + n % (s.dev.get HLD_HIST_CFG_MIB * 8192) * 128
    MakesMem .historyRecord s (fun d m => d.get HLD_HIST_HEAD = (n + 1) % 2 ^ 64 ∧ (∀ i < 8, m.byte (a + i) = byteOf n i)
      ∧ (∀ b, (b < a ∨ a + 128 ≤ b) → m.byte b = s.mem.byte b)
      ∧ d = { e with regs := d.regs, fresh := d.fresh }))
  ∧ (∀ s : State, s.live → s.dev.on HLD_CTL_EN = true → s.dev.get HLD_STATUS_STATE = 3 → s.dev.hld.histAt = none →
    MakesMem .historyRecord s (fun d m => d.get HLD_HIST_HEAD = (s.dev.get HLD_HIST_HEAD + 1) % 2 ^ 64 ∧ m = s.mem))
  ∧ (∀ s : State, s.live → s.dev.on HLD_CTL_EN = false → exec .historyRecord s = .next s)
  ∧ (∀ (s : State) (l : List (Fin 24 × List Nat)), s.live →
    let d := s.dev.atTick s.dev.thm.next
    Does (.housekeepingRound l) s (({ d with thm := { d.thm with round := some d.tick, next := d.tick + 20000000 } }).rounds
      (l.map (fun (x : Fin 24 × List Nat) => (x.1.val, x.2)))))
  ∧ (∀ (s : State) (raws : List (Option Int)) (rails : List Int) (x : Int), s.live → s.dev.thm.round = none →
    Does (.housekeepingReport raws rails x) s s.dev)
  ∧ (∀ (s : State) (raws : List (Option Int)) (x : Int) (t : Nat), s.live → s.dev.thm.round = some t →
    (∀ i < 110, s.dev.on (THM_TEMP_BROKEN i) = false) → s.dev.breaking (inTrim raws) = [] → (∀ b < 96, s.dev.loopsRun b = false) → s.dev.get THM_STATUS_WARN_REACH = 0 →
    s.dev.on THM_STATUS_WARN_WH = false → s.dev.get CAL_AUTO_EN = 0 →
    (∀ i < 110, ∃ y : Int, raws.getD i none = some y ∧ -4000 ≤ y ∧ y < 11000 ∧ y < sgn 16 (s.dev.get THM_CFG_WARN)) →
    Makes (.housekeepingReport raws [] x) s (fun d => d.get THM_ROUNDS = (s.dev.get THM_ROUNDS + 1) % 2 ^ 32
      ∧ d.get THM_LAST = stampOf d.now % 2 ^ 64 ∧ d.thm.round = none
      ∧ (∀ i < 110, some (sgn 16 (d.get (THM_RAW i))) = raws.getD i none ∧ d.get (THM_TEMP_REPORTED i) = d.get (THM_RAW i)
        ∧ d.get (THM_TEMP_NOCOUNT i) = 0)
      ∧ d = { s.dev with regs := d.regs, thm := d.thm, tim := d.tim, mt := d.mt, tick := d.tick }))
  ∧ (∀ (s : State) (raws : List (Option Int)) (rails : List Int) (x : Int) (t : Nat), s.live → s.dev.thm.round = some t →
    let w := s.dev.atTick (t + 1000000)
    let a := { w with thm := { w.thm with round := none } }
    let b := a.reportSensors (inTrim raws)
    let b := (b.inc THM_ROUNDS).set THM_LAST (stampOf b.now)
    let c := b.set THM_LAMP_POWER (if b.on THM_LAMP_OFF then 0x8000 else uns 16 x)
    let e := ({ c with tim := { c.tim with thermal := (match c.reported 108, c.reported 109 with
      | some u, some v => Config.clockTerm (u + v)
      | _, _ => c.tim.thermal) } }).putIncr
    let f := (a.breaking (inTrim raws)).foldl (fun d i => d.raise 35 8 i 1 []) ((List.range 96).foldl (fun d i => d.followTemp i) e).warnings
    let g := ((List.range 12).filter (fun n => decide (3 ≤ a.sensorsLeft n) && decide (Dev.sensorsLeft f n < 3))).foldl
      (fun d n => d.raise 35 8 (96 + n) 2 []) f
    Does (.housekeepingReport raws rails x) s (((rails.take 9).zipIdx.foldl (fun d y => d.reportRail y.2 y.1) g.shutdown).tempTriggers))
  ∧ (∀ (d : Dev) (k : Nat) (mv : Int), k < 9 →
    (let nom := railFS k / 2
     let y := if nom < 0 then -mv else mv
     ((nom.natAbs * 95 : Nat) ≤ y * 100 → y * 100 ≤ (nom.natAbs * 105 : Nat) →
       (d.reportRail k mv).get (THM_SUPPLY_LOW k) = 0 ∧ (d.reportRail k mv).get (THM_SUPPLY_HIGH k) = 0
         ∧ (d.reportRail k mv).thm.rails.get 0 k = 0)
     ∧ (y * 100 < (nom.natAbs * 95 : Nat) → d.thm.rails.get 0 k = 1 →
       ∃ e : Dev, d.reportRail k mv = e.raise 37 9 k 0 [] ∧ e.get (THM_SUPPLY_LOW k) = 1 ∧ e.thm.rails.get 0 k = 2)))

/-! ## Capstans -/

/-- An update of a cell's loop (R157-R170): none where the loop is parked, moored or not run; in a reach that calibrates claims for privilege are looked at
first (R163); it takes its samples in the slots of its next update, under the test ripple, which the corrected codes of the recorder and the loop leave out (R168),
and none that was taken under a test current (R426). An open bond or a probe that reads the same 64 times opens the
loop, otherwise it does the work of its mode; a shadowed loop only tracks its companions; an open loop counts its good updates; a loop recloses on request once they
reach 1,024, and a cell beyond the block's 144 is a reserved encoding (R12, R181); its claim to a place lapses 50 us after its last switch.
An update of a port group (R171-R176): none where its block does not run; an open bond or a frozen probe loses the feedback; a dark output only takes the sample; otherwise
the highest of the three requests is applied, never less than the ceiling asks for and never above the attenuator's top. A lost group counts its good updates and resumes
on a write of 1 once 1,024 have come.
(The model's choices: a command whose conditions do not hold changes nothing, log entry 3; what log entries 12, 25, 26, 47, 78, 80, 88, 90, 91, 92, 93, 94 name.) -/
def Obligations.LoopsAndGroups : Prop :=
  (∀ (s : State) (i : Fin 13824) (x y : Int), s.live →
    let b := cellBlk i
    let a := if s.dev.calibrating b then s.dev.refreshPriv b else s.dev
    ((a.loopsRun b = false ∨ (a.loop i).mode = 5 ∨ (a.loop i).mode = 6) → Does (.cellLoopUpdate i x y) s a)
    ∧ (a.loopsRun b = true → (a.loop i).mode ≠ 5 → (a.loop i).mode ≠ 6 →
      let u := a.updateOf i
      let d := a.atLeastIn [blkReach b] u.1
      let d := d.setLoop i { d.loop i with lastAt := some u.1 }
      let ca := d.codeBy b u.2.1 (probeCell i 0) x
      let cb := d.codeBy b u.2.2 (probeCell i 1) y
      let d := (d.recSample b (2 * (i.val % 144)) ca).recSample b (2 * (i.val % 144) + 1) cb
      let d := (d.flipRipple (probeCell i 0)).flipRipple (probeCell i 1)
      let p := reading (d.probeCor (probeCell i 0)) ca
      let q := reading (d.probeCor (probeCell i 1)) cb
      let l := d.loop i
      let raws := ((x, y) :: l.raws).take 4
      ((d.underTest b (probeCell i 0) = true ∨ d.underTest b (probeCell i 1) = true) → Does (.cellLoopUpdate i x y) s d)
      ∧ (d.underTest b (probeCell i 0) = false → d.underTest b (probeCell i 1) = false →
        (l.mode < 3 → d.bondOpen (probeCell i 0) = true → Does (.cellLoopUpdate i x y) s ((d.setLoop i { l with raws }).openWater i .probeOpen))
        ∧ (l.mode < 3 → d.bondOpen (probeCell i 0) = false → (l.up.take x).run = 64 →
          Does (.cellLoopUpdate i x y) s ((d.setLoop i { l with up := l.up.take x, raws }).openWater i .freeze))
        ∧ (l.mode < 3 → d.bondOpen (probeCell i 0) = false → (l.up.take x).run ≠ 64 → d.bondOpen (probeCell i 1) = false → (l.lp.take y).run ≠ 64 →
          Does (.cellLoopUpdate i x y) s ((d.setLoop i { l with up := l.up.take x, lp := l.lp.take y, raws }).workLoop i p q))
        ∧ (l.mode = 3 → let e := d.setLoop i { l with up := probe0, lp := probe0, darkRun := 0, raws }
          e.shadowed i = true → Does (.cellLoopUpdate i x y) s (e.companion i))
        ∧ (l.mode = 4 → d.bondOpen (probeCell i 0) = true →
          Does (.cellLoopUpdate i x y) s ((d.setLoop i { l with up := l.up.take x, lp := l.lp.take y, raws }).goodUpdate i false)))))
  ∧ (∀ (s : State) (r : Requester) (b : Fin 96) (c : Fin 256), Reached s r (0x201330 + b.val * 0x2000) → c.val < 144 →
    (s.dev.loop (b.val * 144 + c.val)).mode = 4 → 1024 ≤ (s.dev.loop (b.val * 144 + c.val)).good →
    Does (.capReclose r b c) s ((s.dev.unlatch r).reclose (b.val * 144 + c.val)))
  ∧ (∀ (s : State) (r : Requester) (b : Fin 96) (c : Fin 256), Reached s r (0x201330 + b.val * 0x2000) → 144 ≤ c.val →
    Does (.capReclose r b c) s (s.dev.unlatch r).badEncoding)
  ∧ (∀ (s : State) (r : Requester) (b : Fin 96) (c : Fin 256), Reached s r (0x201330 + b.val * 0x2000) → c.val < 144 →
    ((s.dev.loop (b.val * 144 + c.val)).mode ≠ 4 ∨ (s.dev.loop (b.val * 144 + c.val)).good < 1024) →
    Does (.capReclose r b c) s (s.dev.unlatch r))
  ∧ (∀ (s : State) (i : Fin 13824) (t : Nat), s.live → (s.dev.loop i).switched = some t →
    Does (.privClaimLapse i) s ((s.dev.atLeastIn [blkReach (cellBlk i)] (t + 50000)).refreshPriv (cellBlk i)))
  ∧ (∀ (s : State) (i : Fin 13824), s.live → (s.dev.loop i).switched = none → Does (.privClaimLapse i) s s.dev)
  ∧ (∀ (s : State) (o : Fin 512) (v : Int), s.live → (s.dev.loopsRun (64 + o / 16) = false ∨ s.dev.on (FAB_BLK_STATUS_PARKED (64 + o / 16)) = true) →
    Does (.portGroupUpdate o v) s s.dev)
  ∧ (∀ (s : State) (o : Fin 512) (v : Int), s.live → s.dev.loopsRun (64 + o / 16) = true → s.dev.on (FAB_BLK_STATUS_PARKED (64 + o / 16)) = false →
    let b := 64 + o.val / 16
    let t := s.dev.groupAt o
    let a := s.dev.atLeastIn [blkReach b] t
    let a := a.setGroup o { a.group o with lastAt := some t }
    let p := a.readProbe b (288 + o.val % 16) (probeOut o) v
    let d := a.outSample o v
    let g := d.group o
    let e := d.setGroup o { g with probe := g.probe.take v }
    (d.underTest b (probeOut o) = true → Does (.portGroupUpdate o v) s d)
    ∧ (d.underTest b (probeOut o) = false →
      (d.on (CAP_PORT_STATUS_FB_LOST o) = true → d.bondOpen (probeOut o) = true →
        Does (.portGroupUpdate o v) s (e.setGroup o { e.group o with good := 0 }))
      ∧ (d.on (CAP_PORT_STATUS_FB_LOST o) = false → (d.bondOpen (probeOut o) = true ∨ (g.probe.take v).run = 64) →
        Does (.portGroupUpdate o v) s (e.portLost o))
      ∧ (d.on (CAP_PORT_STATUS_FB_LOST o) = false → d.bondOpen (probeOut o) = false → (g.probe.take v).run ≠ 64 →
        (d.on (FAB_VOA_STATUS_DARK o) = true → Does (.portGroupUpdate o v) s e)
        ∧ (d.on (FAB_VOA_STATUS_DARK o) = false → Does (.portGroupUpdate o v) s (e.workGroup o p)))))
  ∧ (∀ (d : Dev) (o : Nat) (p : Int), ((d.workGroup o p).group o).applied ≤ (aMax : Int)
    ∧ min (aMax : Int) ((d.group o).applied + p - (sgn 16 (d.get (CAP_PORT_CEIL o)) - 20)) ≤ ((d.workGroup o p).group o).applied)
  ∧ (∀ (s : State) (r : Requester) (o : Fin 512), Reached s r (0x380048 + o.val * 0x400) → s.dev.on (CAP_PORT_STATUS_FB_LOST o) = true →
    1024 ≤ (s.dev.group o).good →
    Makes (.fbLostClear r o) s (fun d => d.get (CAP_PORT_STATUS_FB_LOST o) = 0
      ∧ d.group o = { s.dev.group o with integ := (s.dev.group o).applied * 65536, good := 0 }
      ∧ OnlyFields { s.dev.unlatch r with cap := d.cap } d [CAP_PORT_STATUS_FB_LOST o]))
  ∧ (∀ (s : State) (r : Requester) (o : Fin 512), Reached s r (0x380048 + o.val * 0x400) → (s.dev.group o).good < 1024 →
    Does (.fbLostClear r o) s (s.dev.unlatch r))

/-! ## Calibration -/

/-- The calibration store from outside (R189-R192, R200): a load is refused BUSY or reads its file, which is refused with the code of the first failing check
or applied whole; a dump needs its room, takes the sets as they are and answers with the image; self-calibration starts only out of service, and a result that fits replaces its
entry; a host write waits for its block's return and is refused in service (R13), and changes a survey converter's entry at once.
Reach runs (R193-R198): a request makes an idle reach PENDING in the lamp's queue, and is held for a reach that is not idle; with the lamp a run starts and its
survey converter sweeps its reference for 32 us; its end, after a sweep of its reference again, stamps the switch at a whole 4 us, 2 us and more ahead; at the switch, which waits for a dump's copy of the reach, the new entries are in force,
the counters show the run, and the reach is IDLE.
(The model's choices: a command whose conditions do not hold changes nothing, log entry 3; what log entries 53, 95, 96 name.) -/
def Obligations.Calibration : Prop :=
  (∀ (s : State) (r : Requester), Reached s r 0xD0000 → (s.dev.anyInService = true ∨ s.dev.calBusy = true) →
    Does (.calLoad r) s (((s.dev.unlatch r).set CAL_STATUS_ERR 1).irq .calLoad))
  ∧ (∀ (s : State) (r : Requester), Reached s r 0xD0000 → s.dev.anyInService = false → s.dev.calBusy = false →
    let x := (s.dev.unlatch r).cohRead 0 (s.dev.get CAL_FILE_ADDR * 64) (s.dev.get CAL_FILE_LEN)
    Does (.calLoad r) s { (x.1.setB CAL_STATUS_LOAD_BUSY true) with cal := { x.1.cal with miss := !x.2 } })
  ∧ (∀ (s : State) (h : HostFile), s.live → s.dev.on CAL_STATUS_LOAD_BUSY = false → Does (.calLoadComplete h) s s.dev)
  ∧ (∀ (s : State) (h : HostFile), s.live → s.dev.on CAL_STATUS_LOAD_BUSY = true →
    let f := calFile h
    let d := s.dev.setB CAL_STATUS_LOAD_BUSY false
    (d.calErr f ≠ 0 → Does (.calLoadComplete h) s ((d.set CAL_STATUS_ERR (d.calErr f)).irq .calLoad))
    ∧ (d.calErr f = 0 → f.kind = 1 → Does (.calLoadComplete h) s ((d.applyFactory f).irq .calLoad))
    ∧ (d.calErr f = 0 → f.kind = 2 → Does (.calLoadComplete h) s ((d.applySets f (f.blocks.map (·.2))).irq .calLoad)))
  ∧ (∀ (d : Dev) (f : CalFile) (l : List Int) (i : Nat) (e : CalFF), f.ff[i]? = some e → (d.applySets f l).ff i = ffOfFile e)
  ∧ (∀ (s : State) (r : Requester), Reached s r 0xD0000 → s.dev.get CAL_FILE_LEN < 456016 →
    Does (.dump r) s (((s.dev.unlatch r).set CAL_STATUS_ERR 3).irq .calDump))
  ∧ (∀ (s : State) (r : Requester), Reached s r 0xD0000 → 456016 ≤ s.dev.get CAL_FILE_LEN → s.dev.calBusy = true →
    Does (.dump r) s (((s.dev.unlatch r).set CAL_STATUS_ERR 1).irq .calDump))
  ∧ (∀ (s : State) (r : Requester), Reached s r 0xD0000 → 456016 ≤ s.dev.get CAL_FILE_LEN → s.dev.calBusy = false →
    let x := CalDump.mk s.dev.now (s.dev.get CAL_FILE_ADDR * 64) s.dev.cal.probes s.dev.cal.ff s.dev.cal.tref s.dev.cal.trig
    Makes (.dump r) s (fun d => d.get CAL_STATUS_DUMP_BUSY = 1 ∧ d.cal = { s.dev.cal with dump := some x }
      ∧ OnlyFields { s.dev.unlatch r with cal := d.cal } d [CAL_STATUS_DUMP_BUSY]))
  ∧ (∀ (s : State) (x : CalDump), s.live → s.dev.cal.dump = some x →
    let d := { (s.dev.setB CAL_STATUS_DUMP_BUSY false) with cal := { s.dev.cal with dump := none } }
    Does .dumpComplete s ((d.emit (.hostBytes 0 x.addr ((savedImage dieIdentity (stampOf x.at_) (fun i => x.probes.get probeCor0 i)
      (fun i => x.ff.get ff0 i) (fun b => x.tref.get 0 b) (fun b => x.trig.get 0 b)).map BitVec.toNat))).irq .calDump))
  ∧ (∀ s : State, s.live → s.dev.cal.dump = none → Does .dumpComplete s s.dev)
  ∧ (∀ (s : State) (r : Requester), Reached s r 0xD0000 →
    (s.dev.on CAL_STATUS_FACTORY = false ∨ s.dev.anyInService = true ∨ s.dev.calBusy = true) →
    Does (.adcSelf r) s (((s.dev.unlatch r).set CAL_STATUS_ERR 1).irq .calAdc))
  ∧ (∀ (s : State) (r : Requester), Reached s r 0xD0000 → s.dev.on CAL_STATUS_FACTORY = true → s.dev.anyInService = false → s.dev.calBusy = false →
    Makes (.adcSelf r) s (fun d => d.get CAL_STATUS_ADC_BUSY = 1
      ∧ (∀ c < 24, s.dev.convOff c = false → d.conv c = { s.dev.conv c with hold := s.dev.convFree c + 1600000, cal := true })
      ∧ (∀ c < 24, s.dev.convOff c = true → d.conv c = s.dev.conv c)
      ∧ d = { s.dev.unlatch r with regs := d.regs, svy := d.svy }))
  ∧ (∀ (s : State) (l : List (Int × Nat)), s.live → s.dev.on CAL_STATUS_ADC_BUSY = true → l.length = 792 →
    (∀ (i : Nat) (x : Int × Nat), l[i]? = some x → adcFits (s.dev.cal.factory.get adc0 i) x = true) →
    Makes (.adcSelfComplete l) s (fun d => d.get CAL_STATUS_ADC_DONE = 1 ∧ d.get CAL_STATUS_ADC_FAILS = 0 ∧ d.get CAL_STATUS_ADC_BUSY = 0
      ∧ ∀ (i : Nat) (x : Int × Nat), l[i]? = some x → d.adc i = { ofs := x.1, gain := x.2, failed := false }))
  ∧ (∀ (s : State) (r : Requester) (v i b : Nat), Reached s r 0xD0038 → s.dev.get CAL_ACC_SEL_INDEX = i →
    let t := s.dev.get CAL_ACC_SEL_TABLE
    i < accEntries t → accUnit t i = some b →
    let l := s.dev.cal.waiting.filter (fun x => x.1 != t || x.2.1 != i) ++ [(t, i, v % 2 ^ 64)]
    (s.dev.inService b = false → Does (.calAccWrite r v) s { s.dev.unlatch r with cal := { s.dev.cal with waiting := l } })
    ∧ (s.dev.inService b = true → Does (.calAccWrite r v) s (s.dev.unlatch r).frozenWrite))
  ∧ (∀ (s : State) (r : Requester) (v : Nat), Reached s r 0xD0038 → accEntries (s.dev.get CAL_ACC_SEL_TABLE) ≤ s.dev.get CAL_ACC_SEL_INDEX →
    Does (.calAccWrite r v) s (s.dev.unlatch r).badEncoding)
  ∧ (∀ (s : State) (r : Requester) (v i : Nat), Reached s r 0xD0038 → s.dev.get CAL_ACC_SEL_TABLE = 0 → s.dev.get CAL_ACC_SEL_INDEX = i →
    768 ≤ i → i < 792 →
    Does (.calAccWrite r v) s ((s.dev.unlatch r).setAdc i { s.dev.adc i with ofs := sgn 16 v, gain := bits v 16 16 }))
  ∧ (∀ (s : State) (r : Requester) (n : Fin 12), Reached s r 0xD000C →
    ((List.range 8).any (fun j => s.dev.inService (8 * n + j)) = true → s.dev.reachState n = 0 →
      Does (.calReachReq r (2 ^ n.val)) s ((((s.dev.unlatch r).setReachState n 1).setReachRun n { reachRun0 with only := none }).setLamp
        { s.dev.fab.lamp with queue := if s.dev.fab.lamp.queue.contains n then s.dev.fab.lamp.queue else s.dev.fab.lamp.queue ++ [n.val] }))
    ∧ ((List.range 8).any (fun j => s.dev.inService (8 * n + j)) = true → s.dev.reachState n ≠ 0 →
      Makes (.calReachReq r (2 ^ n.val)) s (fun d => (d.reachRun n).again = true ∧ bit (d.get CAL_REACH_REQ) n = true
        ∧ OnlyFields { s.dev.unlatch r with cal := d.cal } d [CAL_REACH_REQ]))
    ∧ ((List.range 8).any (fun j => s.dev.inService (8 * n + j)) = false → Does (.calReachReq r (2 ^ n.val)) s (s.dev.unlatch r)))
  ∧ (∀ (s : State) (n : Fin 12) (l : List (Fin 32 × Fin 512)), s.live → s.dev.reachState n = 1 → s.dev.fab.lamp.owner = some n.val →
    (s.dev.conv (2 * n)).latched = none → (s.dev.conv (2 * n)).job = none → s.dev.still = false → (s.dev.rch n).isolated = false →
    (s.dev.rch n).clockLost = false →
    let bs := ((List.range 8).map (fun j => 8 * n.val + j)).filter s.dev.runBlk
    let cells := (bs.flatMap blkCells).filter (fun i => match (s.dev.reachRun n).only with | some l => l.contains i | none => true)
    let d := s.dev.setReachRun n { s.dev.reachRun n with tref := bs.map (fun b => (b, s.dev.blkTemp b)), kinds := cells.map (fun i => (i, s.dev.runKind i)) }
    let d := (d.setReachState n 2).setConv (2 * n) { s.dev.conv (2 * n) with hold := d.tick + 32000, cal := false }
    let d := ((List.range 8).foldl (fun d j => Dev.refreshPriv d (8 * n + j)) d).staleReach n true
    Does (.reachRunStart n l) s (l.foldl (fun d (c : Fin 32 × Fin 512) => d.placeLamp n c.1 c.2) d))
  ∧ (∀ (s : State) (n : Fin 12) (l : List (Fin 32 × Fin 512)), s.live → s.dev.reachState n = 2 → s.dev.fab.lamp.owner = some n.val → s.dev.still = false →
    Does (.reachRunStart n l) s (l.foldl (fun d (c : Fin 32 × Fin 512) => d.placeLamp n c.1 c.2) s.dev))
  ∧ (∀ (s : State) (n : Fin 12) (l : List (Fin 32 × Fin 512)), s.live →
    (s.dev.reachState n ≠ 1 ∧ s.dev.reachState n ≠ 2 ∨ s.dev.fab.lamp.owner ≠ some n.val) → Does (.reachRunStart n l) s s.dev)
  ∧ (∀ (s : State) (n : Fin 12) (l : List Sweep), s.live → s.dev.reachState n = 2 →
    let c := s.dev.conv (2 * n)
    let t := max c.hold (s.dev.convFree (2 * n)) + 32000
    let a := (s.dev.setConv (2 * n) { c with hold := t }).atTick t
    Makes (.reachRunEnd n l) s (fun d => ∃ e : Dev, (e.reachRun n).switchAt = ceilMul (a.nowIn n + 2000) 4000 ∧ (e.reachRun n).kinds = []
      ∧ (e.reachRun n).measured + (e.reachRun n).carried + (e.reachRun n).rejected = (s.dev.reachRun n).kinds.length
      ∧ d = (List.range 8).foldl (fun d j => Dev.refreshPriv d (8 * n + j)) ((e.setReachState n 3).releaseHeld n)))
  ∧ (∀ (s : State) (n : Fin 12) (l : List Sweep), s.live → s.dev.reachState n ≠ 2 → Does (.reachRunEnd n l) s s.dev)
  ∧ (∀ (s : State) (n : Fin 12), s.live → s.dev.reachState n = 3 → (s.dev.reachRun n).again = false → (s.dev.reachRun n).lost = [] →
    ((s.dev.reachRun n).entries.map (·.1)).Nodup →
    let t := match s.dev.cal.dump with
      | some x => max (s.dev.reachRun n).switchAt (x.at_ + Config.freeNat s.dev.fresh % 100001)
      | none => (s.dev.reachRun n).switchAt
    Makes (.calSwitch n) s (fun d => d.reachState n = 0 ∧ d.get (CAL_RCH_CELLS_MEASURED n) = (s.dev.reachRun n).measured % 2 ^ 11
      ∧ d.get (CAL_RCH_RUNS n) = (s.dev.get (CAL_RCH_RUNS n) + 1) % 2 ^ 32
      ∧ d.get (CAL_RCH_END n) = stampOf t % 2 ^ 64 ∧ bit (d.get CAL_REACH_REQ) n = false
      ∧ (∀ x ∈ (s.dev.reachRun n).entries, d.ff x.1 = x.2)
      ∧ ∀ x ∈ (s.dev.reachRun n).tref, (((s.dev.reachRun n).tref.map (·.1)).Nodup → d.tref x.1 = x.2)))
  ∧ (∀ (s : State) (n : Fin 12), s.live → s.dev.reachState n ≠ 3 → Does (.calSwitch n) s s.dev)

/-! ## Survey converters and recorders -/

/-- Survey converters (R416-R420, R425): a request of a busy converter waits behind those before it, one too many is counted, one no channel has is a
reserved encoding, one of a converter that is off gets its ABORT result; the end of a conversion adds its result and the next item starts; a read takes the oldest result out, its high word latched; a time
trigger falls at its instant, is latched while the converter is busy, and dropped and counted behind a latched one; an open-wire step notes a suspect bond.
(The model's choices: a command whose conditions do not hold changes nothing, log entry 3; what log entries 12, 50 name.) -/
def Obligations.SurveyConversions : Prop :=
  (∀ (s : State) (r : Requester) (c : Fin 24) (w : Nat) (ch : Chan), Reached s r (0xA0100 + c.val * 0x40) → chanOf (c / 2) (bits w 0 13) = some ch →
    bits w 13 4 ≤ 8 → bits w 18 3 ≤ 4 → (bits w 18 3 = 0 ∨ ch.isBond = true) →
    let q := SvyReq.mk (bits w 0 13) (bits w 13 4) (bit w 17) (bits w 18 3) (bits w 24 8) false
    let e := s.dev.unlatch r
    let x := s.dev.conv c
    let d := e.setConv c { x with reqs := x.reqs ++ [q] }
    (s.dev.convOff c = false → x.reqs.length < 16 → Does (.svyReq r c w) s (d.nextConv c))
    ∧ (s.dev.convOff c = false → x.reqs.length < 16 → s.dev.convBusy c = true → (x.latched = none ∨ x.cal = false) → Does (.svyReq r c w) s d)
    ∧ (s.dev.convOff c = false → 16 ≤ x.reqs.length → Does (.svyReq r c w) s (e.inc (SVY_CNT_REQFULL c)))
    ∧ (s.dev.convOff c = true → (s.dev.rch (c / 2)).isolated = false →
      Does (.svyReq r c w) s (e.svyResult c (svyWord q 0 false false false true))))
  ∧ (∀ (s : State) (r : Requester) (c : Fin 24) (w : Nat), Reached s r (0xA0100 + c.val * 0x40) →
    (chanOf (c / 2) (bits w 0 13) = none ∨ 8 < bits w 13 4 ∨ 4 < bits w 18 3) → Does (.svyReq r c w) s (s.dev.unlatch r).badEncoding)
  ∧ (∀ (s : State) (c : Fin 24) (l : List Nat) (q : SvyReq) (inj : Bool) (t : Nat), s.live → (s.dev.conv c).job = some (q, inj, t) → q.test = false →
    q.raw = true →
    let d := (s.dev.atTick (t + 2 ^ q.avg * 500)).setConv c { s.dev.conv c with job := none }
    Does (.conversionDone c l) s ((d.svyResult c (svyWord q (average q.avg l) inj false
      (l.any (fun x => x % 65536 == 0 || x % 65536 == 65535)) false)).nextConv c))
  ∧ (∀ (s : State) (c : Fin 24) (l : List Nat) (q : SvyReq) (inj : Bool) (t : Nat) (ch : Chan), s.live → (s.dev.conv c).job = some (q, inj, t) → q.test = false →
    q.raw = false → chanOf (c / 2) q.chan = some ch →
    let d := (s.dev.atTick (t + 2 ^ q.avg * 500)).setConv c { s.dev.conv c with job := none }
    let v := d.svyValue ch (correct (s.dev.conv c).cor (average q.avg l))
    Does (.conversionDone c l) s ((v.1.svyResult c (svyWord q v.2.1 inj v.2.2
      (l.any (fun x => x % 65536 == 0 || x % 65536 == 65535)) false)).nextConv c))
  ∧ (∀ (d : Dev) (c w : Nat), (d.conv c).results.length < 256 → (d.conv c).lost = false → d.capturing (c / 2) = false →
    d.svyResult c w = d.setConv c { d.conv c with results := (d.conv c).results ++ [w], lost := false })
  ∧ (∀ (s : State) (r : Requester) (c : Fin 24) (w : Nat) (l : List Nat), Reached s r (SVY_RES c).off → (s.dev.conv c).results = w :: l →
    Makes (.svyResPop r c) s (fun d => (d.conv c).results = l ∧ d.acc.rlatch.get none (reqKey r) = some ((SVY_RES c).off, w / 2 ^ 32)
      ∧ d.out = s.dev.out ++ [.answer (reqKey r) (SVY_RES c).off (w % 2 ^ 32)]
      ∧ d = { s.dev with out := d.out, acc := d.acc, svy := d.svy }))
  ∧ (∀ (s : State) (c : Fin 24) (t : Nat), s.live → (s.dev.conv c).next = some t → s.dev.on (SVY_INJ_CFG_TIME_EN c) = true →
    let p := s.dev.get (SVY_INJ_PERIOD c)
    Does (.injectionTrigger c) s (((s.dev.atLeastIn [c / 2] t).setConv c { s.dev.conv c with next := if p = 0 then none else some (t + p) }).trigger c))
  ∧ (∀ (s : State) (c : Fin 24), s.live → (s.dev.conv c).next = none → Does (.injectionTrigger c) s s.dev)
  ∧ (∀ (d : Dev) (c : Nat), (d.conv c).trigAt ≠ some d.tick → d.convOff c = false → d.convBusy c = true →
    ((d.conv c).latched = none → ((d.trigger c).conv c).latched = some (d.setup c) ∧ d.trigger c = { d with svy := (d.trigger c).svy })
    ∧ ((d.conv c).latched.isSome = true →
      let e := d.setConv c { d.conv c with trigAt := some d.tick }
      d.trigger c = (e.inc (SVY_CNT_OVERRUN c)).raise 42 7 (768 + c) 0 [e.svyStatusW c]))
  ∧ (∀ (s : State) (c : Fin 24) (a b t code : Nat) (l : List Nat) (j k : Nat), s.live → s.dev.stepDue c = some t → (s.dev.conv c).retest = false →
    (s.dev.conv c).todo = code :: l → s.dev.convOff c = false → s.dev.convBusy c = false → chanOf (c / 2) code = some (.port j k) →
    let d := s.dev.atTick t
    let d := d.atTick (d.tick + 4000)
    d.get SVY_OW_CFG_PROBE_THRESH ≤ (correct (d.adc (768 + c)) a - correct (d.adc (768 + c)) b).natAbs →
    let x := s.dev.conv c
    Does (.openWireStep c a b) s (((d.setConv c { x with steps := x.steps + 1, todo := l, suspect := x.suspect ++ [code] }).roundOn c).nextConv c))
  ∧ (∀ (s : State) (c : Fin 24) (a b : Nat), s.live → s.dev.stepDue c = none → Does (.openWireStep c a b) s s.dev)

/-- A recorder outside any group (R434-R441): an arm starts a capture, and is ignored and reported while one is in progress; with PRE words written it is
ARMED; the sequencer takes the first branch whose condition holds; FORCE sets a fire 100 ns and the lead ahead; the fire is taken at its instant; with
its words written the capture is DONE; a disarm returns it to IDLE. A TRIGGER frame arms, fires or disarms the group's recorders, and is passed on where it is a broadcast with hops left (R331, R439).
(The model's choices: a command whose conditions do not hold changes nothing, log entry 3; what log entries 12, 48, 49 name.) -/
def Obligations.Recorders : Prop :=
  (∀ (s : State) (r : Requester) (n : Fin 12), Reached s r (0xB1000 + n.val * 0x200) → s.dev.inProgress n = true → (s.dev.rcdr n).stopped = false →
    Does (.recArm r n) s (((s.dev.unlatch r).setB (REC_STATUS_ARM_IGNORED n) true).raise 43 4 n 0 []))
  ∧ (∀ (s : State) (r : Requester) (n : Fin 12), Reached s r (0xB1000 + n.val * 0x200) → (s.dev.rcdr n).stopped = true →
    Does (.recArm r n) s (s.dev.unlatch r))
  ∧ (∀ (s : State) (r : Requester) (n : Fin 12), Reached s r (0xB1000 + n.val * 0x200) → s.dev.inProgress n = false → (s.dev.rcdr n).stopped = false → s.dev.get (REC_CFG_GROUP_EN n) = 0 →
    s.dev.on (REC_CFG_SPILL n) = false → s.dev.get (REC_POST n) ≤ recWords - s.dev.get (REC_PRE n) →
    Makes (.recArm r n) s (fun d => d.get (REC_STATUS_STATE n) = (if s.dev.get (REC_PRE n) = 0 then 2 else 1) ∧ d.get (REC_STATUS_SEQ n) = 0
      ∧ (d.rcdr n).fire = none ∧ d = { s.dev.unlatch r with regs := d.regs, rcd := d.rcd }))
  ∧ (∀ (s : State) (n : Fin 12), s.live → s.dev.on (REC_CTL_ARM_AT n) = true → (s.dev.rcdr n).stopped = false →
    Does (.recArmTimeReached n) s (((s.dev.atLeastIn [n.val] (s.dev.inst (s.dev.get (REC_ARM_TIME n)))).setB (REC_CTL_ARM_AT n) false).armGroup n
      (s.dev.get (REC_ARM_TIME n))))
  ∧ (∀ (s : State) (n : Fin 12), s.live → s.dev.on (REC_CTL_ARM_AT n) = false → Does (.recArmTimeReached n) s s.dev)
  ∧ (∀ (s : State) (r : Requester) (n : Fin 12), Reached s r (0xB1000 + n.val * 0x200) → (s.dev.rcdr n).get (REC_CFG_GROUP_EN n) = 0 →
    (s.dev.get (REC_STATUS_STATE n) = 1 ∨ s.dev.get (REC_STATUS_STATE n) = 2) →
    Makes (.disarm r n) s (fun d => d.get (REC_STATUS_STATE n) = 0 ∧ d.rcdr n = { s.dev.rcdr n with fire := none }
      ∧ OnlyFields { s.dev.unlatch r with rcd := d.rcd } d [REC_STATUS_STATE n]))
  ∧ (∀ (s : State) (r : Requester) (n : Fin 12), Reached s r (0xB1000 + n.val * 0x200) → (s.dev.rcdr n).stopped = false → s.dev.get (REC_STATUS_STATE n) = 2 →
    (s.dev.rcdr n).get (REC_CFG_GROUP_EN n) = 0 → (s.dev.rcdr n).fire = none →
    let i := s.dev.nowIn n + 100 + (s.dev.rcdr n).get (REC_CFG_LEAD_US n) * 1000
    Makes (.recForce r n) s (fun d => (d.rcdr n).fire = some { at_ := i, src := 1, module := s.dev.moduleId, reach := n }
      ∧ d = { s.dev.unlatch r with rcd := d.rcd }))
  ∧ (∀ (s : State) (r : Requester) (n : Fin 12), Reached s r (0xB1000 + n.val * 0x200) → (s.dev.rcdr n).stopped = false →
    s.dev.get (REC_STATUS_STATE n) = 1 → Does (.recForce r n) s ((s.dev.unlatch r).inc (REC_CNT_EARLY n)))
  ∧ (∀ (s : State) (r : Requester) (n : Fin 12) (v : Nat), Reached s r (0xB1014 + n.val * 0x200) →
    Does (.recMark r n v) s ((s.dev.unlatch r).recEvent n 7 (v % 2 ^ 32)))
  ∧ (∀ (s : State) (n : Fin 12), s.live → s.dev.get (REC_STATUS_STATE n) = 1 → (s.dev.rcdr n).get (REC_PRE n) ≤ (s.dev.rcdr n).since →
    Makes (.preFilled n) s (fun d => d.get (REC_STATUS_STATE n) = 2 ∧ OnlyFields s.dev d [REC_STATUS_STATE n]))
  ∧ (∀ (s : State) (n : Fin 12), s.live → (s.dev.rcdr n).since < (s.dev.rcdr n).get (REC_PRE n) → Does (.preFilled n) s s.dev)
  ∧ (∀ (s : State) (n : Fin 12), s.live → s.dev.get (REC_STATUS_STATE n) = 2 → (s.dev.rcdr n).fired = false → (s.dev.rcdr n).seqAt ≠ some s.dev.tick →
    (s.dev.rcdr n).stopped = false →
    let q := s.dev.get (REC_STATUS_SEQ n)
    let holds := fun b => s.dev.condHolds n ((s.dev.rcdr n).get (REC_SEQ_COND n q b)) ((s.dev.rcdr n).get (REC_SEQ_ARG n q b))
    (holds 0 = true → Does (.sequencerBranch n) s (s.dev.takeBranch n q 0))
    ∧ (holds 0 = false → holds 1 = true → Does (.sequencerBranch n) s (s.dev.takeBranch n q 1))
    ∧ (holds 0 = false → holds 1 = false → Does (.sequencerBranch n) s s.dev))
  ∧ (∀ (s : State) (n : Fin 12) (due : Nat), s.live → (s.dev.rcdr n).tmr0 = some due →
    Makes (.sequencerTimer n 0) s (fun d => (d.rcdr n).tmr0 = none ∧ (0, d.tick) ∈ (d.rcdr n).exp ∧ d.tick = max s.dev.tick due
      ∧ d = { s.dev with mt := d.mt, tick := d.tick, rcd := d.rcd }))
  ∧ (∀ (s : State) (n : Fin 12), s.live → (s.dev.rcdr n).tmr0 = none → Does (.sequencerTimer n 0) s s.dev)
  ∧ (∀ (s : State) (n : Fin 12) (f : Fire), s.live → (s.dev.rcdr n).fire = some f → s.dev.get (REC_STATUS_STATE n) = 2 → (s.dev.rcdr n).stopped = false →
    Does (.fireInstant n) s ((s.dev.atLeastIn [n.val] f.at_).takeFire n f f.at_))
  ∧ (∀ (s : State) (n : Fin 12), s.live → (s.dev.rcdr n).fire = none → Does (.fireInstant n) s s.dev)
  ∧ (∀ (s : State) (n : Fin 12), s.live → s.dev.get (REC_STATUS_STATE n) = 3 → (s.dev.rcdr n).post ≤ (s.dev.rcdr n).done →
    Makes (.captureDone n) s (fun d => d.get (REC_STATUS_STATE n) = 4 ∧ OnlyFields s.dev d [REC_STATUS_STATE n]))
  ∧ (∀ (s : State) (n : Fin 12), s.live → s.dev.get (REC_STATUS_STATE n) ≠ 3 → Does (.captureDone n) s s.dev)
  ∧ (∀ (s : State) (k : Fin 8) (w : RawFrame) (e : Dev), s.live → let f := readFrame w
    f.typ = 5 → let d := s.dev.consume k f
    let g := bits (f.words.getD 0 0) 8 8
    let a := f.words.getD 2 0 % 2 ^ 32 + f.words.getD 3 0 * 2 ^ 32
    let i := s.dev.inst a
    (bits (f.words.getD 0 0) 0 2 = 1 ∧ e = (d.remoteMembers d.regWritten g).foldl (fun d m =>
        if a = 0 ∨ i ≤ d.nowIn m then d.recArm m else d.setRcdr m { d.rcdr m with armAt := some i }) d
      ∨ bits (f.words.getD 0 0) 0 2 = 2 ∧ e = (d.remoteMembers d.regInForce g).foldl (fun d m => d.learnFire m
        { at_ := i, src := 3, module := f.src, reach := 0 }) d
      ∨ bits (f.words.getD 0 0) 0 2 = 3 ∧ e = (d.remoteMembers d.regInForce g).foldl (fun d m => d.recDisarm m) d) →
    (GoodFrame s.dev k f 0 true → Does (.trigger k w) s e)
    ∧ (Passes s.dev k f 0 true → f.bcast = true → f.hops = 0 → Does (.trigger k w) s e)
    ∧ (Passes s.dev k f 0 true → f.bcast = true → f.hops ≠ 0 →
      Does (.trigger k w) s (e.broadcast { f with hops := f.hops - 1, lseq := 0 } (some k))))
  ∧ (∀ (s : State) (g : Fin 256) (m t : Nat), s.live → s.dev.remoteMembers s.dev.regWritten g = [m] → (s.dev.rcdr m).armAt = some t →
    let d := s.dev.atLeastIn [m] t
    Does (.remoteArmInstant g) s ((d.setRcdr m { d.rcdr m with armAt := none }).recArm m))
  ∧ (∀ (s : State) (g : Fin 256), s.live → s.dev.remoteMembers s.dev.regWritten g = [] → Does (.remoteArmInstant g) s s.dev)

/-! ## Link test, hold, DMA, matrix -/

/-- Link test (R467-R477): CLR clears the counters of a lane or of a pair and nothing else; errors are inserted by a running generator, corruptions owed by a live
link; a checker fed with bits locks once 64 in a row agree, then counts bits and errors, and reseeds, counting the loss, when 32 of the last 256 disagree; the continuity test starts out of service alone, and ends; the hold port's test mode changes
only while the hold is out of service.
(The model's choices: a command whose conditions do not hold changes nothing, log entry 3; what log entry 64 names.) -/
def Obligations.LinkTests : Prop :=
  (∀ (s : State) (r : Requester) (l : Fin 16), Reached s r (0xE1100 + l.val * 0x20) →
    Makes (.flClear r l) s (fun d => d.get (TST_FL_BITS l) = 0 ∧ d.get (TST_FL_ERRS l) = 0 ∧ d.get (TST_FL_STATUS_LOCK_LOSS l) = 0
      ∧ OnlyFields (s.dev.unlatch r) d [TST_FL_BITS l, TST_FL_ERRS l, TST_FL_STATUS_LOCK_LOSS l]))
  ∧ (∀ (s : State) (r : Requester) (l : Fin 16) (n : Nat), Reached s r (0xE1100 + l.val * 0x20) →
    (n % 256 ≠ 0 → s.dev.on (TST_FL_CTL_GEN_EN l) = true → Does (.flInject r l n) s ((s.dev.unlatch r).emit (.laneErr l (n % 256))))
    ∧ (n % 256 ≠ 0 → s.dev.on (TST_FL_CTL_GEN_EN l) = false → Does (.flInject r l n) s (s.dev.unlatch r))
    ∧ (n % 256 = 0 → Does (.flInject r l n) s (s.dev.unlatch r).badEncoding))
  ∧ (∀ (s : State) (r : Requester) (p : Fin 18) (n : Nat), Reached s r (0xE1400 + p.val * 0x20) →
    let l := 2 * p.val + (if s.dev.on (TST_BB_CTL_INJ_DIR p) then 0 else 1)
    (0 < n → n < 4 → s.dev.on (TST_BB_CTL_EN p) = false → (s.dev.link l).failed = false →
      Does (.bbInject r p n) s ((s.dev.unlatch r).setLink l { s.dev.link l with corrupt := n }))
    ∧ ((n = 0 ∨ 3 < n ∨ s.dev.on (TST_BB_CTL_EN p) = true ∨ (s.dev.link l).failed = true) →
      Does (.bbInject r p n) s (s.dev.unlatch r).badEncoding))
  ∧ (∀ (s : State) (r : Requester) (p : Fin 18), Reached s r (0xE1400 + p.val * 0x20) →
    Makes (.bbClear r p) s (fun d => d.get (TST_BB_BITS p) = 0 ∧ d.get (TST_BB_ERRS p) = 0 ∧ d.get (TST_BB_PAR_ERRS p) = 0
      ∧ OnlyFields (s.dev.unlatch r) d [TST_BB_BITS p, TST_BB_ERRS p, TST_BB_PAR_ERRS p]))
  ∧ (∀ (s : State) (l : Fin 16) (k : Fin 34) (rx : List Bool) (par : Nat), s.live → k.val = l.val →
    (s.dev.on (TST_FL_CTL_CHK_EN l) = false → Does (.prbsCheckerLock k rx par) s s.dev)
    ∧ (s.dev.on (TST_FL_CTL_CHK_EN l) = true →
      let x := Check.takes (s.dev.get (TST_FL_CTL_PATTERN l)) (s.dev.on (TST_FL_CTL_INV l))
        (Check.mk (s.dev.checker l) (s.dev.on (TST_FL_STATUS_LOCKED l)) 0 0 0) rx
      Makes (.prbsCheckerLock k rx par) s (fun d => d.checker l = x.chk ∧ d.get (TST_FL_STATUS_LOCKED l) = b2n x.locked
        ∧ d.get (TST_FL_BITS l) = (s.dev.get (TST_FL_BITS l) + x.bits) % 2 ^ 64 ∧ d.get (TST_FL_ERRS l) = (s.dev.get (TST_FL_ERRS l) + x.errs) % 2 ^ 64
        ∧ d.get (TST_FL_STATUS_LOCK_LOSS l) = min (s.dev.get (TST_FL_STATUS_LOCK_LOSS l) + x.losses) 65535
        ∧ OnlyFields { s.dev with fry := d.fry } d [TST_FL_STATUS_LOCKED l, TST_FL_BITS l, TST_FL_ERRS l, TST_FL_STATUS_LOCK_LOSS l])))
  ∧ (∀ (s : State) (p : Fin 18) (k : Fin 34) (rx : List Bool) (par : Nat), s.live → k.val = 16 + p.val →
    (s.dev.on (TST_BB_CTL_EN p) = false → Does (.prbsCheckerLock k rx par) s s.dev)
    ∧ (s.dev.on (TST_BB_CTL_EN p) = true →
      let x := Check.takes (s.dev.get (TST_BB_CTL_PATTERN p)) false (Check.mk (s.dev.checker (16 + p)) (s.dev.on (TST_BB_CTL_LOCKED p)) 0 0 0) rx
      Makes (.prbsCheckerLock k rx par) s (fun d => d.checker (16 + p) = x.chk ∧ d.get (TST_BB_CTL_LOCKED p) = b2n x.locked
        ∧ d.get (TST_BB_BITS p) = (s.dev.get (TST_BB_BITS p) + x.bits) % 2 ^ 64 ∧ d.get (TST_BB_ERRS p) = (s.dev.get (TST_BB_ERRS p) + x.errs) % 2 ^ 64
        ∧ d.get (TST_BB_PAR_ERRS p) = (s.dev.get (TST_BB_PAR_ERRS p) + par) % 2 ^ 32)))
  ∧ (∀ (pat : Nat) (x : Check) (b : Bool),
    (x.locked = false → (x.take pat b).bits = x.bits ∧ (x.take pat b).errs = x.errs
      ∧ ((x.take pat b).locked = true ↔ prbsLen pat ≤ x.chk.seen ∧ b = prbsNext pat x.chk.reg ∧ 63 ≤ x.chk.run))
    ∧ (x.locked = true → (x.take pat b).bits = x.bits + 1 ∧ (x.take pat b).errs = x.errs + b2n (b != prbsNext pat x.chk.reg)
      ∧ ((x.take pat b).locked = false ↔ 32 ≤ ones ((x.chk.win * 2 + b2n (b != prbsNext pat x.chk.reg)) % 2 ^ 256) 256)
      ∧ ((x.take pat b).locked = false → (x.take pat b).losses = x.losses + 1)))
  ∧ (∀ (s : State) (r : Requester), Reached s r 0xE1800 → s.dev.on TST_GW_STATUS_BUSY = true → Does (.gangwayGo r) s (s.dev.unlatch r))
  ∧ (∀ (s : State) (r : Requester), Reached s r 0xE1800 → s.dev.on TST_GW_STATUS_BUSY = false →
    (s.dev.get TST_GW_CTL_KIND = 0 ∨ (bitList (s.dev.get TST_GW_CTL_BLOCKS) 8).any (fun k => s.dev.inService (8 * s.dev.get TST_GW_CTL_REACH + k)) = true) →
    Does (.gangwayGo r) s (s.dev.unlatch r).badEncoding)
  ∧ (∀ (s : State) (r : Requester), Reached s r 0xE1800 → s.dev.on TST_GW_STATUS_BUSY = false → s.dev.get TST_GW_CTL_KIND ≠ 0 →
    s.dev.get TST_GW_CTL_REACH < 12 →
    (bitList (s.dev.get TST_GW_CTL_BLOCKS) 8).any (fun k => s.dev.inService (8 * s.dev.get TST_GW_CTL_REACH + k)) = false →
    Makes (.gangwayGo r) s (fun d => d.get TST_GW_STATUS_BUSY = 1 ∧ d.get TST_GW_STATUS_TESTED = 0 ∧ d.get TST_GW_STATUS_FAILED = 0
      ∧ d.svy.gwOn = some (s.dev.get TST_GW_CTL_REACH, false) ∧ d = { s.dev.unlatch r with regs := d.regs, svy := d.svy }))
  ∧ (∀ s : State, s.live → s.dev.svy.gwOn = none → Does .gangwayTestDone s s.dev)
  ∧ (∀ (s : State) (n : Nat), s.live → s.dev.svy.gwOn = some (n, true) → s.dev.convOff (2 * n) = false → s.dev.convOff (2 * n + 1) = false →
    (∀ c, c = 2 * n ∨ c = 2 * n + 1 → (s.dev.gw c).todo = [] ∧ (s.dev.gw c).prog = []) →
    Makes .gangwayTestDone s (fun d => d.svy.gwOn = none ∧ OnlyFields { s.dev with svy := d.svy } d [TST_GW_STATUS_BUSY]
      ∧ d.get TST_GW_STATUS_BUSY = 0))
  ∧ (∀ (s : State) (n : Nat) (b : Bool), s.live → s.dev.svy.gwOn = some (n, b) → (s.dev.convOff (2 * n) = true ∨ s.dev.convOff (2 * n + 1) = true) →
    Makes .gangwayTestDone s (fun d => d.svy.gwOn = none ∧ d.get TST_GW_STATUS_ABORTED = 1 ∧ d.get TST_GW_STATUS_BUSY = 0))
  ∧ (∀ (s : State) (r : Requester) (v : Nat), Reached s r 0xE1A00 → v % 4 ≠ s.dev.get TST_HLD_CTL_MODE →
    (s.dev.on HLD_CTL_EN = true → Does (.holdTestMode r v) s (s.dev.unlatch r).badEncoding)
    ∧ (s.dev.on HLD_CTL_EN = false → v % 4 ≠ 0 → Makes (.holdTestMode r v) s (fun d => d.get TST_HLD_CTL_MODE = v % 4
      ∧ OnlyFields (s.dev.unlatch r) d [TST_HLD_CTL_MODE]))
    ∧ (s.dev.on HLD_CTL_EN = false → v % 4 = 0 → Makes (.holdTestMode r v) s (fun d => d.get TST_HLD_CTL_MODE = 0 ∧ d.get HLD_STATUS_STATE = 1)))
  ∧ (∀ s : State, s.live → Makes .enterCompliance s (fun d => d.hst.compl = true ∧ d = { s.dev with hst := { s.dev.hst with compl := true } }))

/-- A byte written to the hold reads back and every other byte stays, whatever is written and wherever; the canonical form stays too.
(The model's choices: what log entry 5 names.) -/
def Obligations.MemoryReadWrite : Prop :=
  (∀ (m : Memory) (a : Nat) (l : List Byte) (b : Nat),
    (m.puts a l).byte b = if a ≤ b ∧ b < a + l.length then l.getD (b - a) 0 else m.byte b)
  ∧ (∀ (m : Memory) (a : Nat) (l : List Byte), m.wf = true → (m.puts a l).wf = true)

/-- The hold's port (R376-R386, R396): its training ends with the hold UP, of its capacity, every wear counter and HIST at 0, or ABSENT with the reason; a flush adds
what is pending, once what waits before it at the port is served (R378); out of service it goes only where nothing uses it, and the new layout is applied where it fits; lost, it raises HLD_LOSS; poison and
corrected errors are counted.
(The model's choices: a command whose conditions do not hold changes nothing, log entry 3; what log entry 51 names.) -/
def Obligations.HoldPort : Prop :=
  (∀ (s : State) (cap rate w : Nat), s.live → s.dev.hld.off = false → s.dev.hld.lost = false → s.dev.srdsOut = false → s.dev.on HLD_CTL_EN = true →
    s.dev.get HLD_STATUS_STATE ≠ 2 → 64 ≤ cap → cap ≤ 1024 →
    MakesMem (.holdUp (.type3 cap rate w)) s (fun d m => d.get HLD_STATUS_STATE = 2 ∧ d.get HLD_STATUS_ERR = 0
      ∧ d.get HLD_CAPACITY = cap * 1073741824 ∧ d.get HLD_HIST_HEAD = 0 ∧ (∀ i : Nat, (d.cell i).wear = 0) ∧ m = s.dev.zeroHist s.mem
      ∧ d = { s.dev with regs := d.regs, fab := d.fab, tk := d.tk }))
  ∧ (∀ s : State, s.live → s.dev.hld.off = false → s.dev.srdsOut = false → s.dev.on HLD_CTL_EN = true → s.dev.get HLD_STATUS_STATE ≠ 2 →
    MakesMem (.holdUp .notType3) s (fun d m => d.get HLD_STATUS_STATE = 0 ∧ d.get HLD_STATUS_ERR = 2 ∧ m = s.mem
      ∧ OnlyFields s.dev d [HLD_STATUS_STATE, HLD_STATUS_ERR]))
  ∧ (∀ (s : State) (r : Requester), Reached s r 0x88000 →
    let d := (s.dev.unlatch r).setB HLD_STATUS_FLUSH_BUSY true
    let l := (s.dev.fab.cells.cells.filter (fun (c : Nat × Cell) => c.2.pend != 0)).map (·.1)
    Does (.wearFlush r) s { d with hld := { d.hld with flush := l } })
  ∧ (∀ s : State, s.live → s.dev.holdUp = true →
    Does .wearFlushDone s (((s.dev.servePort .wear).serveFlush).setB HLD_STATUS_FLUSH_BUSY false))
  ∧ (∀ (d : Dev) (i : Nat), d.holdUp = true → (d.cell i).pend ≠ 0 →
    d.addWear i = d.setCell i { d.cell i with wear := ((d.cell i).wear + (d.cell i).pend) % 2 ^ 48, pend := 0 })
  ∧ (∀ d : Dev, (d.serveFlush).hld.flush = [] ∧ d.serveFlush = { d with fab := d.serveFlush.fab, hld := d.serveFlush.hld })
  ∧ (∀ s : State, s.live → s.dev.holdUp = false → Does .wearFlushDone s s.dev)
  ∧ (∀ (s : State) (r : Requester), Reached s r 0x88000 → s.dev.on HLD_CTL_EN = true → s.dev.spillArmed = false →
    ((∀ n < 1024, s.dev.get (TID_TBL_STATUS_STATE n) = 0) → (∀ c < 64, s.dev.dmaInHold c = false) →
      Makes (.holdEnable r false) s (fun d => d.get HLD_CTL_EN = 0 ∧ OnlyFields (s.dev.unlatch r) d [HLD_CTL_EN]))
    ∧ ((∃ n < 1024, s.dev.get (TID_TBL_STATUS_STATE n) ≠ 0) → Does (.holdEnable r false) s (s.dev.unlatch r).badEncoding))
  ∧ (∀ (s : State) (r : Requester), Reached s r 0x88000 → s.dev.on HLD_CTL_EN = false →
    let h := s.dev.get HLD_HIST_CFG_MIB
    let b := hostBase h (s.dev.get HLD_SPILL_CFG) (s.dev.get HLD_TABLE_CFG)
    (s.dev.get HLD_CAPACITY < b → Makes (.holdEnable r true) s (fun d => d.get HLD_STATUS_ERR = 3 ∧ OnlyFields (s.dev.unlatch r) d [HLD_STATUS_ERR]))
    ∧ (b ≤ s.dev.get HLD_CAPACITY → b < 2 ^ 41 → MakesMem (.holdEnable r true) s (fun d _ => d.get HLD_CTL_EN = 1 ∧ d.get HLD_STATUS_ERR = 0
      ∧ d.get HLD_HOST_BASE = b ∧ d.get HLD_HIST_BASE = 0x100000 ∧ (∀ i : Nat, (d.cell i).wear = 0)
      ∧ d = { s.dev.unlatch r with regs := d.regs, fab := d.fab, tk := d.tk })))
  ∧ (∀ (s : State) (l : List (Nat × Nat)), s.live → s.dev.get HLD_STATUS_STATE = 2 → (∀ n < 1024, s.dev.get (TID_TBL_STATUS_STATE n) = 0) →
    (∀ c < 64, s.dev.dmaInHold c = false) → (∀ n < 12, s.dev.inProgress n = false) →
    let d := s.dev.sets [(HLD_STATUS_STATE, 3), (HLD_STATUS_RATE, 0), (HLD_STATUS_WIDTH, 0), (HLD_STATUS_FLUSH_BUSY, 0)]
    Does (.holdLoss l) s (({ d with hld := { d.hld with lost := true, flush := [] } }).raise 82 0 0 0 []))
  ∧ (∀ (s : State) (l : List (Nat × Nat)), s.live → s.dev.get HLD_STATUS_STATE ≠ 2 → Does (.holdLoss l) s s.dev)
  ∧ (∀ s : State, s.live → s.dev.holdUp = true → Does (.holdPoison .table) s ((s.dev.inc HLD_CNT_POISON).raise 69 12 1 0 []))
  ∧ (∀ (s : State) (i : Fin 13824), s.live → s.dev.holdUp = true → (s.dev.cell i).poison < 2 →
    Does (.holdPoison (.wear i)) s ((s.dev.inc HLD_CNT_POISON).setCell i { s.dev.cell i with poison := (s.dev.cell i).poison + 1 }))
  ∧ (∀ (s : State) (u : HoldUser), s.live → s.dev.holdUp = false → Does (.holdPoison u) s s.dev)
  ∧ (∀ s : State, s.live → Makes .correctedMediaError s (fun d => d.get HLD_CNT_CORR = (s.dev.get HLD_CNT_CORR + 1) % 2 ^ HLD_CNT_CORR.w
    ∧ OnlyFields s.dev d [HLD_CNT_CORR]))

/-- DMA channels (R387-R394): START of an idle native channel makes it BUSY with all its bytes left and its reads issued as far as it gets read slots, or ends it with the code of the range it breaks; ARM keeps a shadow set for a BUSY
channel; the completion of a transfer from host memory to the hold has stored exactly its bytes, shows DONE, frees its slots and ends its turn at the port; DIS stops a channel, which drains, and 0 brings it back.
(The model's choices: a command whose conditions do not hold changes nothing, log entry 3; what log entry 63 names.) -/
def Obligations.DmaChannels : Prop :=
  (∀ (s : State) (r : Requester) (c : Fin 64), Reached s r (0x80114 + c.val * 0x40) → s.dev.dmaCompat = false → s.dev.get (DMA_STATUS_STATE c) = 2 →
    s.dev.dmaErr c = 0 → s.dev.get (DMA_CTL_SRC_SPACE c) ≠ 0 →
    Makes (.dmaStart r c) s (fun d => d.get (DMA_STATUS_STATE c) = 3 ∧ d.get (DMA_REMAIN c) = s.dev.get (DMA_CNT c) % 2 ^ 32
      ∧ d.get (DMA_STATUS_DONE c) = 0 ∧ d.get (DMA_STATUS_ERR c) = 0
      ∧ OnlyFields { s.dev.unlatch r with hld := d.hld } d [DMA_STATUS_STATE c, DMA_REMAIN c, DMA_STATUS_DONE c, DMA_STATUS_ERR c]))
  ∧ (∀ (s : State) (r : Requester) (c : Fin 64), Reached s r (0x80114 + c.val * 0x40) → s.dev.dmaCompat = false → s.dev.get (DMA_STATUS_STATE c) = 2 →
    let d := ((s.dev.unlatch r).sets [(DMA_STATUS_DONE c, 0), (DMA_STATUS_ERR c, 0)]).set (DMA_REMAIN c) (s.dev.get (DMA_CNT c))
    (s.dev.dmaErr c ≠ 0 → Does (.dmaStart r c) s (d.dmaReport c (s.dev.dmaErr c) (s.dev.get (DMA_CNT c)) (s.dev.get (DMA_SRC c))))
    ∧ (s.dev.dmaErr c = 0 → s.dev.get (DMA_CTL_SRC_SPACE c) = 0 → s.dev.on (DMA_CTL_SRC_COH c) = false →
      Does (.dmaStart r c) s ((d.set (DMA_STATUS_STATE c) 3).issueReads c (d.dmaReads c) true))
    ∧ (s.dev.dmaErr c = 0 → s.dev.get (DMA_CTL_SRC_SPACE c) = 0 → s.dev.on (DMA_CTL_SRC_COH c) = true →
      let a := s.dev.get (DMA_SRC c) / 64 * 64
      let x := d.cohRead 0 a (ceilMul (s.dev.get (DMA_SRC c) + s.dev.get (DMA_CNT c)) 64 - a)
      (x.2 = true → Does (.dmaStart r c) s ((x.1.set (DMA_STATUS_STATE c) 3).issueReads c (d.dmaReads c) false))
      ∧ (x.2 = false → Does (.dmaStart r c) s (x.1.dmaReport c 1 (s.dev.get (DMA_CNT c)) (s.dev.get (DMA_SRC c))))))
  ∧ (∀ (s : State) (r : Requester) (c : Fin 64), Reached s r (0x80114 + c.val * 0x40) →
    (s.dev.dmaCompat = false → s.dev.get (DMA_STATUS_STATE c) ≠ 2 → Does (.dmaStart r c) s (s.dev.unlatch r).badEncoding)
    ∧ (s.dev.dmaCompat = true → Does (.dmaStart r c) s (s.dev.unlatch r)))
  ∧ (∀ (s : State) (r : Requester) (c : Fin 64), Reached s r (0x80134 + c.val * 0x40) → s.dev.dmaCompat = true →
    (s.dev.on (DMA_SH_CTL_ARM c) = true → Does (.dmaArm r c) s (s.dev.unlatch r).badEncoding)
    ∧ (s.dev.on (DMA_SH_CTL_ARM c) = false → s.dev.get (DMA_STATUS_STATE c) = 3 →
      Makes (.dmaArm r c) s (fun d => d.get (DMA_SH_CTL_ARM c) = 1 ∧ OnlyFields (s.dev.unlatch r) d [DMA_SH_CTL_ARM c]))
    ∧ (s.dev.on (DMA_SH_CTL_ARM c) = false → s.dev.get (DMA_STATUS_STATE c) = 2 → Does (.dmaArm r c) s ((s.dev.unlatch r).dmaChain c))
    ∧ (s.dev.on (DMA_SH_CTL_ARM c) = false → s.dev.get (DMA_STATUS_STATE c) ≠ 2 → s.dev.get (DMA_STATUS_STATE c) ≠ 3 →
      Does (.dmaArm r c) s ((s.dev.unlatch r).setB (DMA_STATUS_SH_LOST c) true)))
  ∧ (∀ (s : State) (r : Requester) (c : Fin 64), Reached s r (0x80134 + c.val * 0x40) → s.dev.dmaCompat = false →
    Does (.dmaArm r c) s (s.dev.unlatch r))
  ∧ (∀ (s : State) (r : Requester) (c : Fin 64) (l : List (Nat × Byte)), Reached s r (0x80114 + c.val * 0x40) → s.dev.get (DMA_STATUS_STATE c) = 2 →
    s.dev.on (DMA_SH_CTL_ARM c) = false →
    Makes (.dmaDisable r c true l) s (fun d => d.get (DMA_STATUS_STATE c) = 0 ∧ d.get (DMA_CTL_DIS c) = 1
      ∧ OnlyFields (s.dev.unlatch r) d [DMA_STATUS_STATE c, DMA_CTL_DIS c]))
  ∧ (∀ (s : State) (r : Requester) (c : Fin 64), Reached s r (0x80114 + c.val * 0x40) → s.dev.get (DMA_STATUS_STATE c) = 3 →
    s.dev.on (DMA_SH_CTL_ARM c) = false →
    let e := (s.dev.unlatch r).dmaPort c
    Makes (.dmaDisable r c true []) s (fun d => d.get (DMA_STATUS_STATE c) = 1 ∧ d.get (DMA_CTL_DIS c) = 1 ∧ d.fresh = s.dev.fresh + 1
      ∧ d.hld.reads.get 0 c = 0 ∧ OnlyFields { e with fresh := d.fresh, hld := d.hld } d [DMA_STATUS_STATE c, DMA_CTL_DIS c, DMA_REMAIN c]))
  ∧ (∀ (s : State) (r : Requester) (c b : Fin 64) (l : List (Nat × Byte)), Reached s r (0x80114 + c.val * 0x40) → s.dev.get (DMA_STATUS_STATE c) = 0 →
    (s.dev.get (DMA_STATUS_STATE b) ≠ 0 ∨ s.dev.man.waiting.cells = []) →
    Makes (.dmaDisable r c false l) s (fun d => d.get (DMA_STATUS_STATE c) = 2 ∧ d.get (DMA_CTL_DIS c) = 0
      ∧ OnlyFields (s.dev.unlatch r) d [DMA_STATUS_STATE c, DMA_CTL_DIS c]))
  ∧ (∀ (s : State) (c : Fin 64), s.live → s.dev.get (DMA_STATUS_STATE c) = 1 →
    Makes (.dmaDrained c) s (fun d => d.get (DMA_STATUS_STATE c) = 0 ∧ OnlyFields s.dev d [DMA_STATUS_STATE c]))
  ∧ (∀ (s : State) (c : Fin 64), s.live → s.dev.get (DMA_STATUS_STATE c) ≠ 1 → Does (.dmaDrained c) s s.dev)
  ∧ (∀ (s : State) (c : Fin 64) (left addr : Nat) (data : List Byte), s.live → s.dev.get (DMA_STATUS_STATE c) = 3 →
    s.dev.get (DMA_CTL_SRC_SPACE c) = 0 → s.dev.get (DMA_CTL_DST_SPACE c) = 1 → s.dev.on (DMA_SH_CTL_ARM c) = false →
    let e := s.dev.dmaPort c
    let a := s.dev.get (DMA_DST c)
    let n := s.dev.get (DMA_CNT c)
    MakesMem (.dmaComplete c 0 left addr data) s (fun d m => (∀ i < n, m.byte (a + i) = data.getD i 0)
      ∧ (∀ b, (b < a ∨ a + n ≤ b) → m.byte b = s.mem.byte b)
      ∧ d.get (DMA_STATUS_STATE c) = 2 ∧ d.get (DMA_STATUS_DONE c) = 1 ∧ d.get (DMA_REMAIN c) = 0
      ∧ d.get (DMA_STATUS_SEQ c) = (s.dev.get (DMA_STATUS_SEQ c) + 1) % 256 ∧ bit (d.get DMA_DONE) c = true
      ∧ d.hld.reads.get 0 c = 0 ∧ d.hld.turn = c.val ∧ d = { e with regs := d.regs, out := d.out, hld := d.hld, hst := d.hst }))
  ∧ (∀ (s : State) (c : Fin 64) (err left addr : Nat) (data : List Byte), s.live → s.dev.get (DMA_STATUS_STATE c) ≠ 3 →
    exec (.dmaComplete c err left addr data) s = .next s)

/-- The internal matrix (R397-R409): an access outside the map is answered DECODE, and held under DECODE_HANG; one beyond its master's limit waits at the master; any other waits at its port, or is granted where it finds none before it, in as many matrix cycles as its parking and its path give; an idle port parks on its
default master, and a claim re-parks the wheelhouses' ports; a request 512 ns
old joins tier A; MTX_HANG_REL answers a held access with DECODE; a master's own reset takes back what it has outstanding, a wheelhouse's with its torn words, a DMA port's with its channels stopped.
(The model's choices: a command whose conditions do not hold changes nothing, log entry 3; what log entries 61, 62 name.) -/
def Obligations.InternalMatrix : Prop :=
  (∀ (s : State) (r : Requester) (a : Nat) (w : Option Nat) (wide wait : Bool), s.answers → inSpace r a = true → s.dev.mtxSilent (masterOf r) = false →
    s.dev.mtxRoom (masterOf r) w.isSome = true → targetOf r a = 31 →
    let q : MtxReq := { req := r, addr := a, wr := w, wide, since := s.dev.tick, aged := false, told := false }
    (bit (s.dev.manA 13 7 0) (masterOf r) = false → Does (.matrixAccess r a w wide wait) s (s.dev.respond (masterOf r) 31 1 a w.isSome))
    ∧ (bit (s.dev.manA 13 7 0) (masterOf r) = true → Does (.matrixAccess r a w wide wait) s
        ((({ s.dev with mtx := { s.dev.mtx with hung := s.dev.mtx.hung ++ [q] } }).set MTX_STATUS_HUNG
          (putBit (s.dev.get MTX_STATUS_HUNG) (masterOf r) true)).decodeErr (masterOf r) a)))
  ∧ (∀ (s : State) (r : Requester) (a : Nat) (w : Option Nat) (wide : Bool), s.answers → inSpace r a = true → s.dev.mtxSilent (masterOf r) = false →
    s.dev.mtxRoom (masterOf r) w.isSome = true → targetOf r a ≠ 31 →
    let q : MtxReq := { req := r, addr := a, wr := w, wide, since := s.dev.tick, aged := false, told := false }
    let p := s.dev.setPark (targetOf r a) 10
    Does (.matrixAccess r a w wide true) s { p with mtx := { p.mtx with waits := s.dev.mtx.waits ++ [q] } }
    ∧ (s.dev.mtx.waits = [] →
      let e := (({ s.dev with mtx := { s.dev.mtx with waits := [q] } }).mtxTurn (targetOf r a) q).mtxServe s.mem q
      exec (.matrixAccess r a w wide false) s = .next { s with dev := (e.1.parkIdle (targetOf r a)).mtxDecodes, mem := e.2 }))
  ∧ (∀ (d : Dev) (t : Nat) (q : MtxReq), let k := masterOf q.req
    (d.mtxTurn t q).mtx.cycles.get 0 t = 3 - b2n (d.parkOn t == k) + 2 * b2n (bit (d.manA 13 ((20 * k + t) / 32) 0) ((20 * k + t) % 32)))
  ∧ (∀ (d : Dev) (t : Nat), d.mtx.waits.any (fun q => targetOf q.req q.addr == t) = false →
    (d.parkIdle t).parkOn t = if portHome t = 0 then d.mtx.home else portHome t)
  ∧ (∀ (d : Dev) (w t : Nat), t < 20 → (d.reparkWh w).parkOn t = if d.parkOn t < 2 then w else d.parkOn t)
  ∧ (∀ (d : Dev) (m : Memory) (k : Fin 10) (x v : Nat), 2 ≤ k.val → k.val ≤ 5 → x % 4 = 0 → d.pairFailed 16 = false → d.holdUp = true →
    x + 4 ≤ d.get HLD_CAPACITY → 0x100000 ≤ x → x < 0x10000000000 → (∀ i < 4, d.spillAt (x + i) = none) →
    d.mtxServe m { req := .master k, addr := 0x800000000000 + x, wr := some v, wide := false, since := 0, aged := false, told := false }
      = (d.servePort .dma, m.puts x (bytesOf v 4)))
  ∧ (∀ (s : State) (r : Requester) (a : Nat) (w : Option Nat) (wide wait : Bool), s.answers → inSpace r a = true → s.dev.mtxSilent (masterOf r) = false →
    s.dev.mtxRoom (masterOf r) w.isSome = false →
    let q : MtxReq := { req := r, addr := a, wr := w, wide, since := s.dev.tick, aged := false, told := false }
    Does (.matrixAccess r a w wide wait) s { s.dev with mtx := { s.dev.mtx with waits := s.dev.mtx.waits ++ [q] } })
  ∧ (∀ (s : State) (t : Fin 20) (k : Fin 10) (q : MtxReq), s.live → s.dev.mtx.waits = [q] → targetOf q.req q.addr = t.val → masterOf q.req = k.val →
    q.aged = false →
    Makes (.requestAgeing t k) s (fun d => d.mtx.waits = [{ q with aged := true }] ∧ d.tick = max s.dev.tick (q.since + 512)
      ∧ d = { s.dev with mt := d.mt, tick := d.tick, mtx := d.mtx }))
  ∧ (∀ (s : State) (t : Fin 20) (k : Fin 10), s.live → s.dev.mtx.waits = [] → Does (.requestAgeing t k) s s.dev)
  ∧ (∀ (s : State) (r : Requester) (k : Fin 10) (q : MtxReq), Reached s r 0x90004 → s.dev.mtx.hung = [q] → masterOf q.req = k.val → q.told = false →
    let e := s.dev.unlatch r
    Does (.hangRelease r (2 ^ k.val)) s ((((({ e with mtx := { e.mtx with hung := [] } }).set MTX_STATUS_HUNG
      (putBit (s.dev.get MTX_STATUS_HUNG) k false)).captureErr k 31 1 q.addr q.wr.isSome).handOn k 1 q.addr q.wr.isSome).mtxDecodes))
  ∧ (∀ (s : State) (r : Requester), Reached s r 0x90004 → Does (.hangRelease r 0) s (s.dev.unlatch r))
  ∧ (∀ s : State, s.live → Does (.masterReset 7) s s.dev ∧ Does (.masterReset 9) s s.dev)
  ∧ (∀ (s : State) (k : Fin 10), s.live → (k.val < 2 ∨ k.val = 6 ∨ k.val = 8) →
    let other := fun (q : MtxReq) => masterOf q.req != k.val
    let d := ({ s.dev with mtx := { s.dev.mtx with waits := s.dev.mtx.waits.filter other, hung := s.dev.mtx.hung.filter other } }).parkPorts
    let e := if k.val < 2 then d.dropTorn else d
    Does (.masterReset k) s (((e.set MTX_STATUS_HUNG (putBit (s.dev.get MTX_STATUS_HUNG) k false)).inc MTX_CNT_MRESET).raise 65 13 k 0 []))
  ∧ (∀ (s : State) (k : Fin 10), s.live → 2 ≤ k.val → k.val ≤ 5 →
    Does (.masterReset k) s ((s.dev.dmaStopAll ((List.range 16).map (fun j => (k.val - 2) * 16 + j))).masterReset k))
  ∧ (∀ (d : Dev) (i : Nat), i < 99 → (d.dropTorn.stage i).buf = 0 ∧ d.dropTorn = { d with whl := d.dropTorn.whl })

/-! ## Faults and interlocks -/

/-- A fault raised at the module, of a class whose L2 takes no action (R287-R290, R297): at L0 it is only logged; at L1 or L2 it opens the occurrence of its class; from
L3 on the module is safe too, the logbook frozen with the cause, and every block parks. An open occurrence goes up one level, within the class's range.
(The model's choices: what log entry 34 names.) -/
def Obligations.FaultRaised : Prop :=
  ∀ (d : Dev) (c i sub : Nat) (l : List Nat) (row : ClassRow), classRow c = some row → row.act = .none →
    ((d.occ c).level = 0 → d.levelOf c = 0 → (d.raise c 0 i sub l).flt.occs = d.flt.occs ∧ (d.raise c 0 i sub l).safe = d.safe
      ∧ (d.raise c 0 i sub l).get (FLT_CLS_LAST c) = stampOf d.now % 2 ^ 64
      ∧ (d.raise c 0 i sub l).get (FLT_CLS_COUNT c) = (d.get (FLT_CLS_COUNT c) + 1) % 2 ^ 32)
    ∧ ((d.occ c).level = 0 → d.levelOf c = 1 ∨ d.levelOf c = 2 →
      ((d.raise c 0 i sub l).occ c).level = d.levelOf c ∧ ((d.raise c 0 i sub l).occ c).locs = [(0, i)] ∧ (d.raise c 0 i sub l).safe = d.safe
        ∧ (∀ x, x ≠ c → (d.raise c 0 i sub l).occ x = d.occ x))
    ∧ ((d.occ c).level = 0 → d.levelOf c = 3 ∨ d.levelOf c = 4 → d.safe = false → d.rst.phase ≠ 1 → (∀ n < 12, d.reachState n ≠ 2) →
      (d.raise c 0 i sub l).safe = true ∧ (d.raise c 0 i sub l).get FLT_STATUS_FROZEN = 1 ∧ (d.raise c 0 i sub l).get FLT_SAFE_CAUSE_CLASS = c
        ∧ (d.raise c 0 i sub l).get FLT_SAFE_CAUSE_LEVEL = d.levelOf c ∧ ((d.raise c 0 i sub l).occ c).level = d.levelOf c
        ∧ ∀ b < 96, ((d.raise c 0 i sub l).blk b).parking = some d.now)
    ∧ (1 ≤ (d.occ c).level → max (d.occ c).level (min ((d.occ c).level + 1) row.hi) < 3 →
      ((d.raise c 0 i sub l).occ c).level = max (d.occ c).level (min ((d.occ c).level + 1) row.hi) ∧ (d.raise c 0 i sub l).safe = d.safe)

/-- The commands of the fault collector (R289, R291, R292, R297, R300, R303): the faults of a tick are raised in ascending order of class and location; a class timer runs out into the level its class goes to; an
acknowledgement closes the occurrence and lifts what lasts until then; module safe strands every ticket in place and leaves nothing of any crossing; the
logbook is emptied unless the module is safe; BELL changes level every 500 us, and is still while the module is safe.
(The model's choices: a command whose conditions do not hold changes nothing, log entry 3; what log entries 12, 34, 35 name.) -/
def Obligations.FaultCommands : Prop :=
  (∀ (s : State) (f : FaultIn), s.live → Does (.fault [f]) s (s.dev.oneFault f))
  ∧ (∀ (s : State) (f g : FaultIn), s.live → FaultIn.before f g = true →
    Does (.fault [f, g]) s ((s.dev.oneFault f).oneFault g) ∧ (FaultIn.before g f = false → Does (.fault [g, f]) s ((s.dev.oneFault f).oneFault g)))
  ∧ (∀ s : State, s.live → Does (.fault []) s s.dev)
  ∧ (∀ (d : Dev) (f : FaultIn), f.cls ≠ 4 → f.cls ≠ 120 → d.oneFault f = d.raise f.cls f.unit f.index f.sub f.detail)
  ∧ (∀ (s : State) (c : Fin 128) (t e : Nat) (row : ClassRow), s.live → (s.dev.occ c).deadline = some t → classRow c = some row → row.e = some e →
    let o := s.dev.occ c
    let d := ((s.dev.atTick t).logIt c 2 e 0 o.unit o.index (List.replicate 10 0)).setOcc c { o with level := e, deadline := none }
    (2 ≤ o.level → Does (.classTimerExpiry c) s (d.atLevel c e))
    ∧ (o.level < 2 → Does (.classTimerExpiry c) s ((d.actAll c o.locs).atLevel c e)))
  ∧ (∀ (s : State) (c : Fin 128), s.live → (s.dev.occ c).deadline = none → Does (.classTimerExpiry c) s s.dev)
  ∧ (∀ (s : State) (r : Requester) (c : Fin 128), Reached s r 0x6000C → classRow c = none →
    Does (.acknowledge r c) s (s.dev.unlatch r).badEncoding)
  ∧ (∀ (s : State) (r : Requester) (c : Fin 128), Reached s r 0x6000C → (classRow c).isSome = true → (s.dev.occ c).level = 0 →
    Does (.acknowledge r c) s (s.dev.unlatch r))
  ∧ (∀ (s : State) (r : Requester) (c : Fin 128), Reached s r 0x6000C → (classRow c).isSome = true → (s.dev.occ c).level = 1 →
    Makes (.acknowledge r c) s (fun d => d.occ c = occ0 ∧ (∀ x, x ≠ c.val → d.occ x = s.dev.occ x)
      ∧ d = { s.dev.unlatch r with regs := d.regs, flt := d.flt, out := d.out }))
  ∧ (∀ (s : State) (r : Requester) (c : Fin 128), Reached s r 0x6000C → (classRow c).isSome = true → 2 ≤ (s.dev.occ c).level →
    Does (.acknowledge r c) s (((s.dev.occ c).locs.foldl (fun d (x : Nat × Nat) => d.lift c x.1 x.2) ((s.dev.unlatch r).setOcc c occ0)).updFaultN))
  ∧ (∀ s : State, s.live → s.dev.safe = false → Does .safeTicketsStranded s s.dev)
  ∧ (∀ s : State, s.live → s.dev.safe = true → Makes .safeTicketsStranded s (fun d => d.cmd.xings = Tab.empty ∧ d.cmd.heads = Tab.empty
    ∧ d.cmd.ready = Tab.empty ∧ d.cmd.solving = none ∧ d.tk.gather = [] ∧ d.tk.list = [] ∧ d.get CMD_STATUS_RESTORE_RUN = 0))
  ∧ (∀ (s : State) (t : Nat) (k : Ticket), s.live → s.dev.safe = true → s.dev.tide.sys.cells = [] → s.dev.tide.runs.cells = [] → s.dev.cmd.ops.cells = [] →
    s.dev.tk.store.cells = [(t, k)] → k.state = 3 →
    Makes .safeTicketsStranded s (fun d => (d.tkt t).state = 5 ∧ (d.tkt t).strand = 3))
  ∧ (∀ (s : State) (r : Requester), Reached s r 0x60004 → s.dev.safe = false →
    Makes (.unfreeze r) s (fun d => d.flt = { s.dev.flt with log := Tab.empty } ∧ d.get FLT_STATUS_FROZEN = 0 ∧ d.get FLT_SAFE_CAUSE_VALID = 0
      ∧ d.get FLT_SAFE_TIME = 0 ∧ d = { s.dev.unlatch r with regs := d.regs, flt := d.flt }))
  ∧ (∀ (s : State) (r : Requester), Reached s r 0x60004 → s.dev.safe = true → Does (.unfreeze r) s (s.dev.unlatch r))
  ∧ (∀ s : State, s.live → s.dev.safe = true →
    Makes .bellToggle s (fun d => d.get FLT_STATUS_BELL_RUN = 0 ∧ OnlyFields s.dev d [FLT_STATUS_BELL_RUN]))
  ∧ (∀ s : State, s.live → s.dev.safe = false → s.dev.flt.agree = true → s.dev.rst.phase = 0 → s.dev.rst.rstn = false →
    Makes .bellToggle s (fun d => d.flt.bell = (!s.dev.flt.bell) ∧ d.get FLT_STATUS_BELL_RUN = 1
      ∧ d.tick = (s.dev.tick / 500000 + 1) * 500000 ∧ d.out = s.dev.out ++ [.pin 0 (!s.dev.flt.bell)]))

/-- The dark lines and the slots (R310, R314, R319): asserting lines leaves each of them asserted, with its VOA DARK; a CLOSED slot with a cause opens, an OPEN
one without is READY once a manifest is loaded, a READY one with a cause is OPEN again.
(The model's choices: what log entry 55 names.) -/
def Obligations.DarkFunction : Prop :=
  (∀ (d : Dev) (o : Nat), o < 512 → (d.assertLines (List.range 512)).darkLine o = true
    ∧ (d.darkLine o = false → (d.assertLines (List.range 512)).on (FAB_VOA_STATUS_DARK o) = true))
  ∧ (∀ (d : Dev) (i : Nat), i < 8 →
    let e := d.set ILK_CONTACTS_REMOTE (putBit (d.get ILK_CONTACTS_REMOTE) i
      ((List.range 4).any (fun j => d.on (ILK_SRC_EN i j) && (d.src (i * 4 + j)).opened)))
    (d.ilkState i = 0 → d.cause i = true → d.evalSlot i = e.openSlot i)
    ∧ (d.ilkState i = 0 → d.cause i = false → d.evalSlot i = e)
    ∧ (d.ilkState i = 1 → d.cause i = false → d.manLoaded = true → (d.evalSlot i).ilkState i = 2)
    ∧ (d.ilkState i = 2 → d.cause i = true → (d.evalSlot i).ilkState i = 1))

/-- The commands of interlocks (R309-R322): an edge is stamped, a level that the pin has at the second sample is accepted and the slot looked at again; levels that have differed too long raise ILK_DISCREPANCY; a restart closes a READY
slot alone; a confirmed output waits no more, and one not confirmed in time is noted; the watchdog asserts every dark line; a forwarding entry sends its STATE, a
message with a bad CRC is counted, one that does not come opens its source.
(The model's choices: a command whose conditions do not hold changes nothing, log entry 3; what log entries 12, 55, 56 name.) -/
def Obligations.InterlockCommands : Prop :=
  (∀ (s : State) (i : Fin 8) (b : Bool), s.live →
    Makes (.contactEdge i true b) s (fun d => d.get (ILK_EDGE_A i) = stampOf s.dev.now % 2 ^ 64
      ∧ d.ilkSlot i = { s.dev.ilkSlot i with rawA := some (b, s.dev.tick) } ∧ OnlyFields { s.dev with ilk := d.ilk } d [ILK_EDGE_A i])
    ∧ Makes (.contactEdge i false b) s (fun d => d.get (ILK_EDGE_B i) = stampOf s.dev.now % 2 ^ 64
      ∧ d.ilkSlot i = { s.dev.ilkSlot i with rawB := some (b, s.dev.tick) } ∧ OnlyFields { s.dev with ilk := d.ilk } d [ILK_EDGE_B i]))
  ∧ (∀ (s : State) (i : Fin 8) (a b : Bool), s.live →
    let x := s.dev.ilkSlot i
    let raw := (if a then x.rawA else x.rawB).getD (b, 0)
    let d := s.dev.atTick (max (ceilMul s.dev.tick 50000) (ceilMul raw.2 50000 + 50000))
    let f := if a then ILK_CONTACTS_A else ILK_CONTACTS_B
    let d := d.set f (putBit (d.get f) i b)
    let t := if bit (d.get ILK_CONTACTS_A) i != bit (d.get ILK_CONTACTS_B) i then some (x.diffAt.getD d.tick) else none
    (raw.1 = b → Does (.contactAccept i a b) s ((d.setIlkSlot i { x with diffAt := t }).evalSlot i))
    ∧ (raw.1 ≠ b → Does (.contactAccept i a b) s s.dev))
  ∧ (∀ (s : State) (i : Fin 8) (t : Nat), s.live → (s.dev.ilkSlot i).diffAt = some t → s.dev.manLoaded = true → bit (s.dev.get ILK_LOCAL_EN) i = true →
    bit (s.dev.get ILK_DISC) i = false →
    let d := s.dev.atTick (t + s.dev.manA 10 (i * 36 + 32) 0 * 10000000)
    Does (.discrepancy i) s (((d.set ILK_DISC (putBit (d.get ILK_DISC) i true)).raise 112 11 i 0 []).evalSlot i))
  ∧ (∀ (s : State) (i : Fin 8), s.live → (s.dev.ilkSlot i).diffAt = none → Does (.discrepancy i) s s.dev)
  ∧ (∀ (s : State) (r : Requester) (i : Fin 8), Reached s r 0x68008 →
    let e := s.dev.unlatch r
    (bit (s.dev.get ILK_CONTACTS_A) i = bit (s.dev.get ILK_CONTACTS_B) i →
      Does (.discClear r (2 ^ i.val)) s ((e.set ILK_DISC (putBit (s.dev.get ILK_DISC) i false)).evalSlot i))
    ∧ (bit (s.dev.get ILK_CONTACTS_A) i ≠ bit (s.dev.get ILK_CONTACTS_B) i → Does (.discClear r (2 ^ i.val)) s e))
  ∧ (∀ (s : State) (r : Requester) (i : Fin 8), Reached s r 0x68004 →
    let e := s.dev.unlatch r
    (s.dev.ilkState i = 2 → s.dev.cause i = false → Does (.slotRestart r (2 ^ i.val)) s
      ((((e.putIlkState i 0).setIlkSlot i { s.dev.ilkSlot i with extra := [], keptIn := [] }).releaseLines).tellSlot i))
    ∧ (s.dev.ilkState i ≠ 2 ∨ s.dev.cause i = true → Does (.slotRestart r (2 ^ i.val)) s e))
  ∧ (∀ s : State, s.live → Makes .darkConfirm s (fun d => d.ilk.unconf = s.dev.ilk.unconf.filter (fun x => s.dev.on (FAB_VOA_STATUS_RB_ERR x.1))
    ∧ d = { s.dev with ilk := { s.dev.ilk with unconf := d.ilk.unconf } }))
  ∧ (∀ (s : State) (o : Fin 512) (t : Nat) (l : List (Nat × Nat)), s.live → s.dev.ilk.unconf = (o.val, t) :: l →
    Makes (.darkConfirmTimeout o) s (fun d => d.ilk.late = s.dev.ilk.late ++ [o.val] ∧ (∀ x ∈ d.ilk.unconf, x.1 ≠ o.val)
      ∧ d.tick = max s.dev.tick (t + 1000000)))
  ∧ (∀ (s : State) (o : Fin 512), s.live → s.dev.ilk.unconf = [] → Does (.darkConfirmTimeout o) s s.dev)
  ∧ (∀ s : State, s.live → let d := s.dev.atTick (ceilMul s.dev.tick 50000)
    Does .safeOkReadback s (({ d with ilk := { d.ilk with rb := true } }).raise 116 0 0 0 []))
  ∧ (∀ s : State, s.live → Does .ilkWatchdog s
    (((({ s.dev with ilk := { s.dev.ilk with wd := true } }).setB ILK_STATUS_WD_OK false).assertLines (List.range 512)).raise 114 0 0 0 []))
  ∧ (∀ (s : State) (l : List (Bool × Nat)) (t : Nat), s.live → s.dev.ilk.testAt = some t → s.dev.diag 3 = false →
    Makes (.testDarkening l) s (fun d => d.ilk.testAt = some (t + 1000000000)
      ∧ d = { s.dev with mt := d.mt, tick := d.tick, ilk := { s.dev.ilk with testAt := d.ilk.testAt, idle := d.ilk.idle } }))
  ∧ (∀ (s : State) (l : List (Bool × Nat)), s.live → s.dev.ilk.testAt = none → Does (.testDarkening l) s s.dev)
  ∧ (∀ (s : State) (e : Fin 16) (t : Nat), s.live → s.dev.on (ILK_FWD_EN e) = true → (s.dev.fwd e).sentAt = some t →
    Does (.safetyStateSend e) s ((s.dev.atTick (t + 1000000)).sendState e))
  ∧ (∀ (s : State) (e : Fin 16), s.live → s.dev.on (ILK_FWD_EN e) = false → Does (.safetyStateSend e) s s.dev)
  ∧ (∀ (s : State) (k : Fin 8) (w : RawFrame), s.live → let f := readFrame w
    f.typ = 0x20 → GoodFrame s.dev k f 1 true →
    Does (.safety (some k) w) s ((s.dev.consume k f).takeState true (f.words.take 8))
    ∧ Does (.safetyAck (some k) w) s ((s.dev.consume k f).takeAck true (f.words.take 8)))
  ∧ (∀ (s : State) (w : RawFrame), s.live → s.dev.mgmtOn = true →
    Does (.safety none w) s ((s.dev.mgmtIn.inc HST_MGMT_CNT_RX).takeState false (w.words.take 8))
    ∧ Does (.safetyAck none w) s ((s.dev.mgmtIn.inc HST_MGMT_CNT_RX).takeAck false (w.words.take 8)))
  ∧ (∀ (s : State) (w : RawFrame), s.live → s.dev.mgmtOn = false → Does (.safety none w) s s.dev ∧ Does (.safetyAck none w) s s.dev)
  ∧ (∀ (d : Dev) (n : Bool) (ws : List Nat), crc32c (ws.take 7) ≠ ws.getD 7 0 % 2 ^ 32 →
    d.takeState n ws = d.inc ILK_CNT_BADCRC ∧ d.takeAck n ws = d.inc ILK_CNT_BADCRC)
  ∧ (∀ (s : State) (k : Fin 32), s.live → s.dev.on (ILK_SRC_EN (k.val / 4) (k.val % 4)) = true →
    (∀ (x : Nat × Bool × List Nat × Nat) (l : List (Nat × Bool × List Nat × Nat)), (s.dev.src k).waits = x :: l →
      Does (.safetyCopyTimeout k 0) s (((s.dev.atTick (x.2.2.2 + 2000000)).setSrc k { s.dev.src k with waits := l }).mismatch k))
    ∧ (∀ t : Nat, (s.dev.src k).atA = some t →
      Does (.safetyCopyTimeout k 1) s (((((s.dev.atTick (t + 3000000)).setB (ILK_SRC_OK_A (k.val / 4) (k.val % 4)) false).setSrc k
        { s.dev.src k with atA := none }).mismatch k)))
    ∧ (∀ t : Nat, (s.dev.src k).atB = some t →
      Does (.safetyCopyTimeout k 2) s (((((s.dev.atTick (t + 3000000)).setB (ILK_SRC_OK_B (k.val / 4) (k.val % 4)) false).setSrc k
        { s.dev.src k with atB := none }).mismatch k))))
  ∧ (∀ (s : State) (k : Fin 32) (w : Fin 3), s.live → s.dev.on (ILK_SRC_EN (k.val / 4) (k.val % 4)) = false → Does (.safetyCopyTimeout k w) s s.dev)
  ∧ (∀ (s : State) (e : Fin 16) (t : Nat), s.live → (s.dev.fwd e).waitA = some t →
    Does (.safetyAckTimeout e true) s (((s.dev.atTick (t + 2000000)).setFwd e { s.dev.fwd e with waitA := none }).setB (ILK_FWD_ACK_A e) false))
  ∧ (∀ (s : State) (e : Fin 16) (t : Nat), s.live → (s.dev.fwd e).waitB = some t →
    Does (.safetyAckTimeout e false) s (((s.dev.atTick (t + 2000000)).setFwd e { s.dev.fwd e with waitB := none }).setB (ILK_FWD_ACK_B e) false))
  ∧ (∀ (s : State) (e : Fin 16), s.live → (s.dev.fwd e).waitA = none → Does (.safetyAckTimeout e true) s s.dev)

/-! ## The manifest and the seal -/

/-- Manifest loads and commits (R245-R252): LOAD starts the read of LEN bytes at ADDR, or is refused BUSY and touches nothing that runs; a read that fails or a failed check
ends the load with its code and section; a manifest that passes them is applied field by field, or whole by the first load, and gives its serial number and digest. COMMIT takes
the shadow copy as it stands to an instant at least 2.000 us on, or ends with RULES; at the instant every STAGED value comes in force together.
(The model's choices: a command whose conditions do not hold changes nothing, log entry 3; what log entries 12, 30, 32, 33, 37 name.) -/
def Obligations.ManifestLoads : Prop :=
  (∀ (s : State) (r : Requester), Reached s r 0x10000 → s.dev.on MAN_STATUS_LOAD_BUSY = false → s.dev.on MAN_STATUS_COMMIT_BUSY = false →
    s.dev.on SEAL_STATUS_COMMITTING = false →
    let x := (s.dev.unlatch r).cohRead 0 (s.dev.get MAN_ADDR * 64) (s.dev.get MAN_LEN)
    let m := { x.1.man with len := s.dev.get MAN_LEN, miss := !x.2 }
    Does (.manLoad r) s { (x.1.setB MAN_STATUS_LOAD_BUSY true) with man := m })
  ∧ (∀ (s : State) (r : Requester), Reached s r 0x10000 →
    s.dev.on MAN_STATUS_LOAD_BUSY = true ∨ s.dev.on MAN_STATUS_COMMIT_BUSY = true ∨ s.dev.on SEAL_STATUS_COMMITTING = true →
    Makes (.manLoad r) s (fun d => (s.dev.get MAN_STATUS_ERR = 0 → d.get MAN_STATUS_ERR = 1) ∧ OnlyFields (s.dev.unlatch r) d [MAN_STATUS_ERR]
      ∧ (s.dev.get MAN_STATUS_ERR ≠ 0 → d = s.dev.unlatch r)))
  ∧ (∀ (s : State) (h : HostFile), s.live → s.dev.on MAN_STATUS_LOAD_BUSY = true →
    (manFile h.readOk h.bytes).readOk = false ∨ s.dev.man.miss = true →
    Makes (.manLoadComplete h) s (fun d => d.get MAN_STATUS_ERR = 2 ∧ d.get MAN_STATUS_SECTION = 0 ∧ d.get MAN_STATUS_LOAD_BUSY = 0
      ∧ d.get HST_PF0_IRQ_MAN_LOAD = 1 ∧ d = { s.dev with regs := d.regs, out := d.out, hst := d.hst }))
  ∧ (∀ (s : State) (h : HostFile) (e : Nat × Nat), s.live → s.dev.on MAN_STATUS_LOAD_BUSY = true → let f := manFile h.readOk h.bytes
    f.readOk = true → s.dev.man.miss = false → manHeader f s.dev.man.len (!s.dev.manLoaded) = some e →
    Makes (.manLoadComplete h) s (fun d => d.get MAN_STATUS_ERR = e.1 % 16 ∧ d.get MAN_STATUS_SECTION = e.2 % 256 ∧ d.get MAN_STATUS_LOAD_BUSY = 0
      ∧ d = { s.dev with regs := d.regs, out := d.out, hst := d.hst }))
  ∧ (∀ (s : State) (h : HostFile) (x : Nat × List Nat), s.live → s.dev.on MAN_STATUS_LOAD_BUSY = true → let f := manFile h.readOk h.bytes
    f.readOk = true → s.dev.man.miss = false → manHeader f s.dev.man.len (!s.dev.manLoaded) = none →
    f.sections.find? (fun x => bodyBad x.1 0 x.2) = some x →
    Makes (.manLoadComplete h) s (fun d => d.get MAN_STATUS_ERR = 8 ∧ d.get MAN_STATUS_SECTION = x.1 % 256 ∧ d.get MAN_STATUS_LOAD_BUSY = 0
      ∧ d = { s.dev with regs := d.regs, out := d.out, hst := d.hst }))
  ∧ (∀ (s : State) (h : HostFile), s.live → s.dev.on MAN_STATUS_LOAD_BUSY = true → let f := manFile h.readOk h.bytes
    f.readOk = true → s.dev.man.miss = false →
    manHeader f s.dev.man.len (!s.dev.manLoaded) = none → (∀ x ∈ f.sections, bodyBad x.1 0 x.2 = false) →
    Does (.manLoadComplete h) s (((match manRules (s.dev.loadVal f.sections (!s.dev.manLoaded)) with
      | some t => s.dev.sets [(MAN_STATUS_ERR, 9), (MAN_STATUS_SECTION, t)]
      | none =>
        let d := s.dev.sets [(MAN_STATUS_ERR, 0), (MAN_STATUS_SECTION, 0)]
        let d := if s.dev.manLoaded then f.sections.foldl (fun (d : Dev) (x : Nat × List Nat) => d.writeWords x.1 0 x.2) d else d.firstLoad f.sections
        (List.range 8).foldl (fun d q => d.set (MAN_DIGEST q) (f.digest.getD q 0)) (d.set MAN_SERIAL f.serial)).setB
      MAN_STATUS_LOAD_BUSY false).syncPending.irq .manLoad))
  ∧ (∀ (s : State) (h : HostFile), s.live → s.dev.on MAN_STATUS_LOAD_BUSY = false → Does (.manLoadComplete h) s s.dev)
  ∧ (∀ (s : State) (r : Requester), Reached s r 0x10000 →
    s.dev.on MAN_STATUS_LOAD_BUSY = true ∨ s.dev.on MAN_STATUS_COMMIT_BUSY = true ∨ s.dev.on SEAL_STATUS_COMMITTING = true →
    Makes (.manCommit r) s (fun d => d.get MAN_STATUS_COMMIT_ERR = 1 ∧ OnlyFields (s.dev.unlatch r) d [MAN_STATUS_COMMIT_ERR]))
  ∧ (∀ (s : State) (r : Requester), Reached s r 0x10000 → s.dev.on MAN_STATUS_LOAD_BUSY = false → s.dev.on MAN_STATUS_COMMIT_BUSY = false →
    s.dev.on SEAL_STATUS_COMMITTING = false →
    Makes (.manCommit r) s (fun d => match manRules (s.dev.commitVal s.dev.man.shadow) with
      | some _ => d.get MAN_STATUS_COMMIT_ERR = 9 ∧ d.get HST_PF0_IRQ_MAN_COMMIT = 1 ∧ d = { s.dev.unlatch r with regs := d.regs, out := d.out, hst := d.hst }
      | none => d.get MAN_STATUS_COMMIT_BUSY = 1 ∧ OnlyFields { s.dev.unlatch r with man := d.man } d [MAN_STATUS_COMMIT_BUSY]
          ∧ ∃ c, d.man = { s.dev.man with commit := some c } ∧ c.copy = s.dev.man.shadow ∧ c.ceils = s.dev.stagedCeils ∧ c.device = false
            ∧ c.instant % 1000 = 0 ∧ s.dev.now + 2000 ≤ c.instant ∧ c.instant < s.dev.now + 3000))
  ∧ (∀ (s : State) (c : Commit), s.live → s.dev.man.commit = some c → c.device = false → s.dev.diag 0 = false →
    let old := s.dev.atLeast c.instant
    let d := { old with man := { old.man with commit := none
                                              active := c.copy.cells.foldl (fun (t : Tab Nat) (x : Nat × Nat) => t.put 0 x.1 x.2)
                                                (old.man.active.dropWhen stagedKey) } }
    let d := c.ceils.foldl (fun (d : Dev) (x : Nat × Nat) => d.set (CAP_PORT_CEIL x.1) x.2) d
    Does .commitInstant s (((((d.lowerCeils.mapsChanged old).setB MAN_STATUS_COMMIT_BUSY false).inc MAN_COMMITS).syncPending).irq .manCommit))
  ∧ (∀ s : State, s.live → s.dev.man.commit = none → Does .commitInstant s s.dev)

/-- MAN_CTL.DISCARD (R251): every shadow value equals the value in force, the ceilings of R182 with the rest, nothing is pending, and
nothing else changes; during a commit it is refused with COMMIT_ERR BUSY alone. -/
def Obligations.DiscardRestoresShadow : Prop :=
  (∀ (s : State) (r : Requester), Reached s r 0x10000 → s.dev.on MAN_STATUS_COMMIT_BUSY = false → (∀ o < 512, s.dev.get (CAP_PORT_CEIL o) < 65536) →
    Makes (.discard r) s (fun d => d.man = { s.dev.man with shadow := ⟨s.dev.man.active.cells.filter (fun c => stagedKey c.1)⟩ }
      ∧ (∀ o < 512, d.get (CAP_PORT_LIMIT_CEIL o) = s.dev.get (CAP_PORT_CEIL o)) ∧ d.get MAN_STATUS_PENDING = 0
      ∧ d = { s.dev.unlatch r with regs := d.regs, man := d.man }))
  ∧ (∀ (s : State) (r : Requester), Reached s r 0x10000 → s.dev.on MAN_STATUS_COMMIT_BUSY = true →
    Makes (.discard r) s (fun d => d.get MAN_STATUS_COMMIT_ERR = 1 ∧ OnlyFields (s.dev.unlatch r) d [MAN_STATUS_COMMIT_ERR]))

/-- Single fields and blocks in service (R10, R13, R241-R243, R249, R255): a STAGED field written takes its value in the shadow copy; one of the protected set is refused while the
seal is closed; a FROZEN one is refused while its unit is in service and waits for it else. IN asks for the return of a block out of service, which enters once its conditions
hold; OUT takes it out, or is refused BUSY for one in use; a middle block out of service parks once nothing passes it.
(The model's choices: a command whose conditions do not hold changes nothing, log entry 3; what log entries 11, 29 name.) -/
def Obligations.FieldsAndService : Prop :=
  (∀ (s : State) (r : Requester) (w v : Nat), Reached s r 0x10044 → s.dev.get MAN_FLD_SEL_SECTION = 5 → s.dev.get MAN_FLD_SEL_INDEX = w → w < 256 →
    -1000 ≤ sgn 16 (bits v 0 16) ∧ sgn 16 (bits v 0 16) ≤ 2000 → -1000 ≤ sgn 16 (bits v 16 16) ∧ sgn 16 (bits v 16 16) ≤ 2000 →
    Makes (.fieldWrite r v) s (fun d => d.man.shadow.get 0 (manKey 5 w 0) = bits v 0 16 ∧ d.man.shadow.get 0 (manKey 5 w 16) = bits v 16 16
      ∧ (∀ k, k ≠ manKey 5 w 0 → k ≠ manKey 5 w 16 → d.man.shadow.get 0 k = s.dev.man.shadow.get 0 k)
      ∧ OnlyFields { s.dev.unlatch r with man := { s.dev.man with shadow := d.man.shadow } } d [MAN_STATUS_PENDING]))
  ∧ (∀ (s : State) (r : Requester) (w v : Nat), Reached s r 0x10044 → s.dev.get MAN_FLD_SEL_SECTION = 6 → s.dev.get MAN_FLD_SEL_INDEX = w → 32 ≤ w → w < 2048 →
    bits v 0 32 ≠ s.dev.man.shadow.get 0 (manKey 6 w 0) →
    (s.dev.on SEAL_STATUS_CLOSED = true → Does (.fieldWrite r v) s ((s.dev.unlatch r).sealRefuse 1 0).syncPending)
    ∧ (s.dev.on SEAL_STATUS_CLOSED = false → Makes (.fieldWrite r v) s (fun d => d.man.shadow.get 0 (manKey 6 w 0) = bits v 0 32
      ∧ OnlyFields { s.dev.unlatch r with man := { s.dev.man with shadow := d.man.shadow } } d [MAN_STATUS_PENDING])))
  ∧ (∀ (s : State) (r : Requester) (v : Nat), Reached s r 0x10044 → s.dev.get MAN_FLD_SEL_SECTION = 12 → s.dev.get MAN_FLD_SEL_INDEX = 0 → bits v 0 2 ≤ 2 →
    bits v 0 2 ≠ s.dev.manA 12 0 0 →
    (s.dev.on TIM_CTL_SERVO_EN = true → Does (.fieldWrite r v) s
      (((((s.dev.unlatch r).inc MAN_FROZEN_CNT).set MAN_FROZEN_LAST_SECTION 12).set MAN_FROZEN_LAST_INDEX 0).raise 71 0 0 0 []).syncPending)
    ∧ (s.dev.on TIM_CTL_SERVO_EN = false → Makes (.fieldWrite r v) s (fun d => d.man.waiting.get 0 (manKey 12 0 0) = bits v 0 2 + 1
      ∧ OnlyFields { s.dev.unlatch r with man := { s.dev.man with waiting := d.man.waiting } } d [MAN_STATUS_PENDING])))
  ∧ (∀ (s : State) (r : Requester) (v : Nat), Reached s r 0x10044 → s.dev.get MAN_FLD_SEL_SECTION = 12 → s.dev.get MAN_FLD_SEL_INDEX = 0 →
    bits v 0 2 = 3 → s.dev.manA 12 0 0 ≠ 3 → Does (.fieldWrite r v) s (s.dev.unlatch r).badEncoding.syncPending)
  ∧ (∀ (s : State) (r : Requester) (b : Fin 96) (force : Bool), Reached s r (0x10100 + b.val * 4) → Does (.blockOut r b true force) s (s.dev.unlatch r).badEncoding)
  ∧ (∀ (s : State) (r : Requester) (b : Fin 96) (force : Bool), Reached s r (0x10100 + b.val * 4) → s.dev.inService b = false →
    Makes (.blockOut r b false force) s (fun d => d.get (MAN_BLK_CTL_RETURN_HELD b) = 0 ∧ d.get (MAN_BLK_CTL_RESULT b) = 0
      ∧ OnlyFields (s.dev.unlatch r) d [MAN_BLK_CTL_RETURN_HELD b, MAN_BLK_CTL_RESULT b]))
  ∧ (∀ (s : State) (r : Requester) (b : Fin 96), Reached s r (0x10100 + b.val * 4) → s.dev.inService b = true → isMiddle b = false →
    (s.dev.blkTkts b).isEmpty = false ∨ s.dev.listsBlk b = true →
    Makes (.blockOut r b false false) s (fun d => d.get (MAN_BLK_CTL_RESULT b) = 1 ∧ d.inService b = true
      ∧ OnlyFields (s.dev.unlatch r) d [MAN_BLK_CTL_RETURN_HELD b, MAN_BLK_CTL_RESULT b]))
  ∧ (∀ (s : State) (r : Requester) (b : Fin 96), Reached s r (0x10100 + b.val * 4) → s.dev.inService b = true →
    let d := ((s.dev.unlatch r).setB (MAN_BLK_CTL_RETURN_HELD b) false).set (MAN_BLK_CTL_RESULT b) 0
    Does (.blockOut r b false true) s (d.leaveService b)
    ∧ (isMiddle b = true ∨ (s.dev.blkTkts b).isEmpty = true ∧ s.dev.listsBlk b = false → Does (.blockOut r b false false) s (d.leaveService b)))
  ∧ (∀ (s : State) (b : Fin 96), s.live →
    (isMiddle b = true → (s.dev.blk b).outPend = true → s.dev.passing b = false → s.dev.running = false →
      Does (.middleBlockPark b) s (((s.dev.setMoor b 3 false).setBlk b { (s.dev.setMoor b 3 false).blk b with outPend := false }).startPark [b]))
    ∧ (isMiddle b = false ∨ (s.dev.blk b).outPend = false ∨ s.dev.passing b = true ∨ s.dev.running = true → Does (.middleBlockPark b) s s.dev))
  ∧ (∀ (s : State) (r : Requester) (b : Fin 96), Reached s r (0x10100 + b.val * 4) → s.dev.inService b = false →
    Makes (.blockIn r b) s (fun d => d.get (MAN_BLK_CTL_RETURN_HELD b) = 1 ∧ OnlyFields (s.dev.unlatch r) d [MAN_BLK_CTL_RETURN_HELD b, MAN_BLK_CTL_RESULT b]
      ∧ (s.dev.on (CAP_BLK_STATUS_FAILED b) = true → d.get (MAN_BLK_CTL_RESULT b) = 3)
      ∧ (s.dev.on (CAP_BLK_STATUS_FAILED b) = false → s.dev.mayEnter b = false → d.get (MAN_BLK_CTL_RESULT b) = 2)
      ∧ (s.dev.mayEnter b = true → d.get (MAN_BLK_CTL_RESULT b) = 0)))
  ∧ (∀ (s : State) (r : Requester) (b : Fin 96), Reached s r (0x10100 + b.val * 4) → s.dev.inService b = true →
    Makes (.blockIn r b) s (fun d => d.get (MAN_BLK_CTL_RESULT b) = 0 ∧ OnlyFields (s.dev.unlatch r) d [MAN_BLK_CTL_RESULT b]))
  ∧ (∀ (s : State) (b : Fin 96), s.live → s.dev.on (MAN_BLK_CTL_RETURN_HELD b) = true → s.dev.inService b = false → s.dev.mayEnter b = true →
    let d := s.dev.takeWaiting (fun k =>
      (keySec k == 2 && keyWord k == b.val) || (keySec k == 3 && keyWord k / 404 == b.val) || (keySec k == 4 && keyWord k / 2 == blkReach b))
    let d := ((((d.setB (FAB_BLK_STATUS_IN_SERVICE b) true).setB (FAB_BLK_STATUS_PARKED b) false).setB (MAN_BLK_CTL_RETURN_HELD b) false).set
      (MAN_BLK_CTL_RESULT b) 0).setMoor b 3 false |>.takeAcc b
    let d := (blkCells b).foldl (fun d i =>
      (d.setCell i { d.cell i with parked := false, failed := false, longOpen := false }).setLoop i (d.loop i).unlit)
      (d.setBlk b { d.blk b with outPend := false })
    Does (.blockEnterService b) s ((((((d.relightAll (blkCells b)).refreshPriv b).followTemp b).capacity).refresh).gwSkip b))
  ∧ (∀ (s : State) (b : Fin 96), s.live → s.dev.on (MAN_BLK_CTL_RETURN_HELD b) = false ∨ s.dev.inService b = true ∨ s.dev.mayEnter b = false →
    Does (.blockEnterService b) s s.dev)

/-- The two-party seal (R256, R257, R259-R263, R350, R373): CLOSE closes it once nothing of R257 fails; a proposal is read only while it is closed and none is staged, and staged with its window, or
refused; an approval with the right SEQ and MAC on its path is recorded, and both together approve; a wrong MAC is counted, the third discards; the window's end discards; an
approved proposal is committed once no load and no commit runs; key words of B are taken until the seal closes; a STATUS_REQ is answered.
(The model's choices: a command whose conditions do not hold changes nothing, log entry 3; what log entries 12, 37, 57 name.) -/
def Obligations.SealProtocol : Prop :=
  (∀ (s : State) (r : Requester), Reached s r 0x18000 → s.dev.closeFails = none →
    Makes (.sealClose r) s (fun d => d.get SEAL_STATUS_CLOSED = 1 ∧ OnlyFields (s.dev.unlatch r) d [SEAL_STATUS_CLOSED]))
  ∧ (∀ (s : State) (r : Requester) (n : Nat), Reached s r 0x18000 → s.dev.closeFails = some n → Does (.sealClose r) s ((s.dev.unlatch r).sealRefuse n 0))
  ∧ (∀ (s : State) (r : Requester), Reached s r 0x18000 → byPf0 r = true →
    let e := s.dev.unlatch r
    (s.dev.on SEAL_STATUS_CLOSED = false → Does (.propose r) s (e.sealRefuse 7 0))
    ∧ (s.dev.on SEAL_STATUS_CLOSED = true → s.dev.on SEAL_STATUS_STAGED = true ∨ s.dev.on MAN_STATUS_LOAD_BUSY = true ∨ s.dev.tps.reading ≠ none →
      Does (.propose r) s (e.sealRefuse 6 0))
    ∧ (s.dev.on SEAL_STATUS_CLOSED = true → s.dev.on SEAL_STATUS_STAGED = false → s.dev.on MAN_STATUS_LOAD_BUSY = false → s.dev.tps.reading = none →
      let x := e.cohRead 0 (s.dev.get SEAL_PROP_ADDR * 64) (s.dev.get SEAL_PROP_LEN)
      Does (.propose r) s { x.1 with tps := { x.1.tps with reading := some (s.dev.get SEAL_PROP_LEN, x.2) } }))
  ∧ (∀ (s : State) (r : Requester), Reached s r 0x18000 → byPf0 r = false →
    Does (.propose r) s (s.dev.unlatch r) ∧ Does (.withdraw r) s (s.dev.unlatch r))
  ∧ (∀ (s : State) (h : HostFile) (n : Nat) (ok : Bool), s.live → s.dev.tps.reading = some (n, ok) →
    let f := propFile h
    let e := { s.dev with tps := { s.dev.tps with reading := none } }
    (ok = false ∨ f.readOk = false → Does (.proposalStage h) s (e.sealRefuse 8 0))
    ∧ (ok = true → Makes (.proposalStage h) s (fun d => match e.propFails f n with
      | some r => d = e.sealRefuse r 0
      | none => d.get SEAL_STATUS_STAGED = 1 ∧ d.get SEAL_STATUS_HAVE_A = 0 ∧ d.get SEAL_STATUS_HAVE_B = 0 ∧ d.get SEAL_STATUS_BAD_MACS = 0
          ∧ d.get SEAL_SEQ_HIGH = f.seq % 2 ^ 64
          ∧ d.tps.prop = some { kind := f.kind, seq := f.seq, digest := f.digest, secs := f.man.sections, wrap := f.wrap,
                                expiry := s.dev.tick + s.dev.get SEAL_WINDOW * 1000000000 }
          ∧ d = { s.dev with regs := d.regs, tps := { s.dev.tps with reading := none, prop := d.tps.prop } })))
  ∧ (∀ (s : State) (h : HostFile), s.live → s.dev.tps.reading = none → Does (.proposalStage h) s s.dev)
  ∧ (∀ (s : State) (r : Requester), Reached s r 0x18000 → byPf0 r = true →
    (s.dev.on SEAL_STATUS_STAGED = true → s.dev.on SEAL_STATUS_COMMITTING = false → Does (.withdraw r) s ((s.dev.unlatch r).discard 17 0))
    ∧ (s.dev.on SEAL_STATUS_STAGED = false ∨ s.dev.on SEAL_STATUS_COMMITTING = true → Does (.withdraw r) s (s.dev.unlatch r)))
  ∧ (∀ (s : State) (r : Requester), Reached s r 0x18000 → Does (.approveA r) s ((s.dev.unlatch r).approve false (byPf0 r) (s.dev.get SEAL_APPR_SEQ)
    (wordsNat [s.dev.get (SEAL_APPR_MAC 0), s.dev.get (SEAL_APPR_MAC 1), s.dev.get (SEAL_APPR_MAC 2), s.dev.get (SEAL_APPR_MAC 3)])))
  ∧ (∀ (d : Dev) (b w : Bool) (q mac : Nat), (∀ p, d.tps.prop = some p → q ≠ p.seq) → d.approve b w q mac = d.sealRefuse 12 (b2n b))
  ∧ (∀ (d : Dev) (b : Bool) (p : Proposal) (mac : Nat), d.tps.prop = some p → d.on SEAL_STATUS_COMMITTING = false →
    (p.expiry ≤ d.tick → d.approve b true p.seq mac = d.discard 13 (b2n b))
    ∧ (d.tick < p.expiry → d.approve b false p.seq mac = d.wrongMac 14 (b2n b))
    ∧ (d.tick < p.expiry → mac ≠ d.macOf b p → d.get SEAL_STATUS_BAD_MACS = 2 → d.approve b true p.seq mac = d.discard 15 (b2n b))
    ∧ (d.tick < p.expiry → mac ≠ d.macOf b p → d.get SEAL_STATUS_BAD_MACS < 2 →
      d.approve b true p.seq mac = (d.inc SEAL_STATUS_BAD_MACS).sealRefuse 15 (b2n b)))
  ∧ (∀ (d : Dev) (p : Proposal), d.tps.prop = some p → d.on SEAL_STATUS_COMMITTING = false → d.tick < p.expiry →
    (d.on SEAL_STATUS_HAVE_A = false → d.on SEAL_STATUS_HAVE_B = false →
      (d.approve false true p.seq (d.macOf false p)).get SEAL_STATUS_HAVE_A = 1
      ∧ OnlyFields d (d.approve false true p.seq (d.macOf false p)) [SEAL_STATUS_HAVE_A]
      ∧ (d.approve true true p.seq (d.macOf true p)).get SEAL_STATUS_HAVE_B = 1
      ∧ OnlyFields d (d.approve true true p.seq (d.macOf true p)) [SEAL_STATUS_HAVE_B])
    ∧ (d.on SEAL_STATUS_HAVE_A = true → d.on SEAL_STATUS_HAVE_B = false → p.kind = 1 →
      (d.approve true true p.seq (d.macOf true p)).get SEAL_STATUS_COMMITTING = 1))
  ∧ (∀ (s : State) (p : Proposal), s.live → s.dev.tps.prop = some p → s.dev.on SEAL_STATUS_COMMITTING = false →
    Does .proposalExpiry s ((s.dev.atTick p.expiry).discard 13 0))
  ∧ (∀ s : State, s.live → s.dev.tps.prop = none → Does .proposalExpiry s s.dev ∧ Does .sealApply s s.dev)
  ∧ (∀ (s : State) (p : Proposal), s.live → s.dev.tps.prop = some p →
    let d := s.dev.shadowProp p.secs
    (s.dev.on SEAL_STATUS_COMMITTING = true → s.dev.on MAN_STATUS_LOAD_BUSY = false → s.dev.on MAN_STATUS_COMMIT_BUSY = false →
      Does .sealApply s (if (manRules (d.commitVal d.man.shadow)).isSome then d.restoreProt.discard 11 0 else d.startCommit true))
    ∧ (s.dev.on SEAL_STATUS_COMMITTING = false ∨ s.dev.on MAN_STATUS_LOAD_BUSY = true ∨ s.dev.on MAN_STATUS_COMMIT_BUSY = true →
      Does .sealApply s s.dev))
  ∧ (∀ (d : Dev) (p : Proposal) (key : Nat), d.tps.prop = some p → d.tps.newKey = some key → p.kind = 2 →
    (∀ q < 8, d.sealApplied.get (SEAL_KEY_A q) = key / 2 ^ (32 * q) % 2 ^ 32) ∧ d.sealApplied.get SEAL_CNT_APPLIED = (d.get SEAL_CNT_APPLIED + 1) % 2 ^ 32
      ∧ d.sealApplied.get SEAL_STATUS_STAGED = 0 ∧ d.sealApplied.tps.prop = none)
  ∧ (∀ (s : State) (mac : Nat) (w : RawFrame), s.live → let f := readFrame w
    s.dev.mgmtOn = true → s.dev.on HST_MGMT_SEAL_EN = true → mac = s.dev.get HST_MGMT_SEAL_MAC →
    f.crcOk = true → f.typ = 0x50 → f.length = 128 → f.hops = 0 → f.lseq = 0 → f.dst = s.dev.moduleId → s.dev.sealFerry = false →
    let d := s.dev.mgmtIn.inc HST_MGMT_CNT_RX
    let m := fun q => f.words.getD (4 + q) 0
    (bits (f.words.getD 0 0) 0 3 = 4 → m 0 = 0x53415031 → m 1 = 0 →
      Does (.approval none mac w) s (d.approve true true (m 2 + m 3 * 2 ^ 32) (wordsNat [m 4, m 5, m 6, m 7])))
    ∧ (bits (f.words.getD 0 0) 0 3 = 1 → s.dev.on SEAL_STATUS_CLOSED = false → s.dev.tps.wroteB < 256 →
      Makes (.keyLoad none mac w) s (fun e => (∀ q < 8, e.get (SEAL_KEY_B q) = m q % 2 ^ 32) ∧ e.get SEAL_STATUS_KEY_B = 1))
    ∧ (bits (f.words.getD 0 0) 0 3 = 1 → s.dev.on SEAL_STATUS_CLOSED = true → Does (.keyLoad none mac w) s (s.dev.mgmtIn.inc HST_MGMT_CNT_DROP))
    ∧ (bits (f.words.getD 0 0) 0 3 = 2 → Does (.statusReq none mac w) s
      (d.emit (.mgmt 0x88B6 mac (frameWords { d.frame 0x50 false f.src d.statusWords with hops := 0 })))))
  ∧ (∀ (s : State) (k : Fin 8) (mac : Nat) (w : RawFrame), s.live → let f := readFrame w
    f.typ = 0x50 → GoodFrame s.dev k f 3 true → s.dev.on FRY_SEAL_SRC_EN = true →
    f.src = s.dev.get FRY_SEAL_SRC_MODULE → s.dev.sealFerry = true → bits (f.words.getD 0 0) 0 3 = 2 →
    Does (.statusReq (some k) mac w) s ((s.dev.consume k f).sendFrame 0x50 f.src (s.dev.consume k f).statusWords))
  ∧ (∀ (s : State) (k : Fin 8) (mac : Nat) (w : RawFrame), s.live → let f := readFrame w
    f.typ = 0x50 → GoodFrame s.dev k f 3 true → s.dev.on FRY_SEAL_SRC_EN = false →
    (bits (f.words.getD 0 0) 0 3 = 4 → Does (.approval (some k) mac w) s ((s.dev.consume k f).violation k 5 f.lseq false))
    ∧ (bits (f.words.getD 0 0) 0 3 = 1 → Does (.keyLoad (some k) mac w) s ((s.dev.consume k f).violation k 5 f.lseq false)))
  ∧ (∀ (s : State) (mac : Nat) (w : RawFrame), s.live → s.dev.mgmtOn = false →
    Does (.approval none mac w) s s.dev ∧ Does (.keyLoad none mac w) s s.dev ∧ Does (.statusReq none mac w) s s.dev)

/-! ## The wheelhouses -/

/-- Commit points, stages and the token keeper (R268-R275): a word at a stage is accepted under the claim in force with a higher CPN, counted as a duplicate with another, discarded
under another claim; with a standby in step a commit point waits for its reply, without one it is released at once; a MATCH releases it, a MISMATCH starts the known-answer test
whose outcome table decides; no reply in 2.000 us fails the standby; a raise issues the claim to every stage; the lease is renewed every 2.000 ms and lapses after 10.000 ms.
(The model's choices: a command whose conditions do not hold changes nothing, log entry 3; what log entries 12, 43, 44 name.) -/
def Obligations.CommitPoints : Prop :=
  (∀ s : State, s.live → s.dev.acting = true → s.dev.inletRoom = true →
    Makes (.timeWord true) s (fun d => d.get WHL_INLET_SEQ = (s.dev.get WHL_INLET_SEQ + 1) % 2 ^ 48 ∧ OnlyFields s.dev d [WHL_INLET_SEQ])
    ∧ Makes (.timeWord false) s (fun d => d.get WHL_INLET_SEQ = (s.dev.get WHL_INLET_SEQ + 1) % 2 ^ 48
      ∧ d = { s.dev with regs := d.regs, mt := d.mt, tick := d.tick }))
  ∧ (∀ (s : State) (l : List (Fin 99 × Nat)), s.live → s.dev.acting = true → s.dev.whl.point = none →
    let ws := l.map (fun x => (x.1.val, x.2))
    let n := (s.dev.whl.lastCpn + 1) % 2 ^ 48
    let p : CommitPoint := { cpn := n, words := ws, closed := s.dev.tick, tested := false }
    (s.dev.inStep = true → Does (.commitPointClose l) s
      ((({ s.dev with whl := { s.dev.whl with lastCpn := n, point := some p } }).emit (.link (28 + s.dev.activeWh) 0 n)).emit
        (.link (28 + s.dev.activeWh) 0 (commitDigest ws))))
    ∧ (s.dev.inStep = false → Does (.commitPointClose l) s ({ s.dev with whl := { s.dev.whl with lastCpn := n } }.release s.dev.activeWh p)))
  ∧ (∀ (s : State) (l : List (Fin 99 × Nat)), s.live → s.dev.acting = false ∨ s.dev.whl.point ≠ none → Does (.commitPointClose l) s s.dev)
  ∧ (∀ (s : State) (p : CommitPoint), s.live → s.dev.whl.point = some p → p.tested = false → s.dev.acting = true →
    Does (.cpnReply true) s (if (s.dev.release s.dev.activeWh p).whl.swap then (s.dev.release s.dev.activeWh p).doSwap
      else s.dev.release s.dev.activeWh p)
    ∧ Does (.cpnReply false) s (({ s.dev with whl := { s.dev.whl with point := some { p with tested := true, closed := s.dev.tick }, swap := false } }.inc
        WHL_CNT_DIVERGE).raiseWh 48 s.dev.activeWh 2)
    ∧ Does .compareTimeout s (((((s.dev.atTick (p.closed + 2000)).release s.dev.activeWh p).inc WHL_CNT_DIVERGE).raiseWh 48 s.dev.activeWh 1).failStandby
        (other s.dev.activeWh)))
  ∧ (∀ s : State, s.live → s.dev.whl.point = none →
    Does (.cpnReply true) s s.dev ∧ Does (.cpnReply false) s s.dev ∧ Does .compareTimeout s s.dev ∧ Does (.knownAnswerDone true true) s s.dev)
  ∧ (∀ (s : State) (p : CommitPoint), s.live → s.dev.whl.point = some p → p.tested = true →
    let d := s.dev.atTick (p.closed + 20000)
    let a := s.dev.activeWh
    let e := { d with whl := { d.whl with point := none } }
    Does (.knownAnswerDone true true) s (((e.failStandby (other a)).restartAll).wake)
    ∧ Does (.knownAnswerDone true false) s (((e.failStandby (other a)).restartAll).wake)
    ∧ Does (.knownAnswerDone false true) s ({ d with whl := { d.whl with point := some { p with tested := false } } }.takeover (other a) a 3)
    ∧ Does (.knownAnswerDone false false) s (((e.setWhState a 6).setWhState (other a) 6).noWheel 1))
  ∧ (∀ (s : State) (k : Fin 99) (w : Fin 2) (claim n : Nat), s.live → (s.dev.stage k).revoked = false → (s.dev.stage k).claim = claim →
    ((s.dev.stage k).cpn < n →
      Does (.outputStageWord k w claim n true) s (s.dev.setStage k { s.dev.stage k with cpn := n, buf := 0 })
      ∧ Does (.outputStageWord k w claim n false) s (s.dev.setStage k { s.dev.stage k with buf := (s.dev.stage k).buf + 1 }))
    ∧ (n ≤ (s.dev.stage k).cpn → ∀ fin : Bool, Makes (.outputStageWord k w claim n fin) s (fun d =>
      d.get WHL_CNT_STALE = (s.dev.get WHL_CNT_STALE + 1) % 2 ^ 32 ∧ OnlyFields s.dev d [WHL_CNT_STALE])))
  ∧ (∀ (s : State) (k : Fin 99) (w : Fin 2) (claim n : Nat) (fin : Bool), s.live → (s.dev.stage k).revoked = false → (s.dev.stage k).claim ≠ claim →
    (s.dev.stage k).logged = false →
    Does (.outputStageWord k w claim n fin) s ((((s.dev.inc WHL_CNT_STALE).setStage k { s.dev.stage k with logged := true }).raiseWh 50 w
      (if (s.dev.stage k).claim < claim then 2 else 1)).goStale w))
  ∧ (∀ (s : State) (k : Fin 99) (w : Fin 2) (claim n : Nat) (fin : Bool), s.live → (s.dev.stage k).revoked = true →
    Does (.outputStageWord k w claim n fin) s ((s.dev.inc WHL_CNT_STALE).goStale w))
  ∧ (∀ (s : State) (w : Fin 2), s.live → s.dev.get WHL_STATUS_TOKEN = w.val + 1 → s.dev.whState w = 4 → s.dev.get WHL_CLAIM < 0xFFFFFFFF →
    Makes (.claimRaise w) s (fun d => d.get WHL_CLAIM = s.dev.get WHL_CLAIM + 1 ∧ d.get WHL_STATUS_REVOKED = 0
      ∧ (∀ i < 99, (d.stage i).claim = s.dev.get WHL_CLAIM + 1 ∧ (d.stage i).revoked = false ∧ (d.stage i).cpn = (s.dev.stage i).cpn)
      ∧ (d.wh w).claim = s.dev.get WHL_CLAIM + 1 ∧ d.mtx = (s.dev.reparkWh w).mtx ∧ d = { s.dev with regs := d.regs, whl := d.whl, mtx := d.mtx }))
  ∧ (∀ (s : State) (w : Fin 2), s.live → s.dev.get WHL_STATUS_TOKEN ≠ w.val + 1 → Does (.claimRaise w) s s.dev)
  ∧ (∀ (s : State) (w : Fin 2), s.live → s.dev.watchMode = true → s.dev.whState w = 3 →
    (s.dev.healthy w = true → Makes (.tokenRequest w) s (fun d => d.get WHL_STATUS_TOKEN = w.val + 1 ∧ d.get WHL_STATUS_MODE = 0
      ∧ d.get WHL_CNT_SWITCH = (s.dev.get WHL_CNT_SWITCH + 1) % 2 ^ 32 ∧ d.whl = { s.dev.whl with leaseAt := some s.dev.tick }
      ∧ d = { s.dev with regs := d.regs, whl := d.whl }))
    ∧ (s.dev.healthy w = false → Does (.tokenRequest w) s (s.dev.noWheel 4)))
  ∧ (∀ (s : State) (w : Fin 2), s.live → s.dev.watchMode = false → Does (.tokenRequest w) s s.dev)
  ∧ (∀ (s : State) (t : Nat) (w : Fin 2), s.live → s.dev.whl.leaseAt = some t → s.dev.watchMode = false → s.dev.get WHL_STATUS_TOKEN = w.val + 1 →
    (s.dev.whState w = 4 → s.dev.tick ≤ t + 2000000 → Makes .leaseRenew s (fun d => d.whl = { s.dev.whl with leaseAt := some (t + 2000000) } ∧ d.tick = t + 2000000
      ∧ d = { s.dev with mt := d.mt, tick := d.tick, whl := d.whl }))
    ∧ (let d := (s.dev.atTick (t + 10000000)).revoke
      let d := { d with whl := { d.whl with leaseAt := none } }.set WHL_STATUS_TOKEN 0
      let d := (d.raiseWh 49 w 6).switchCause 6 w
      Does .leaseLapse s (([0, 1].foldl (fun d w => if d.whState w = 4 then d.setWhState w 5 else d) d).noWheel 3)))
  ∧ (∀ s : State, s.live → s.dev.whl.leaseAt = none → Does .leaseRenew s s.dev ∧ Does .leaseLapse s s.dev)

/-- Watches, switchover and return (R276-R286): a heartbeat marks its paths heard; silence on both for 4.000 us makes the standby take over, or loses it; a fatal error stops the
wheelhouse; SWAP without a point held exchanges the roles at once, and is refused without a healthy standby; RESYNC sends a STALE or FAILED wheelhouse to BOOT, from which it goes to
RESYNC; one whose BOOT fails or is late is FAILED; a report that is OK is kept with its instant; the end of a resync makes a STANDBY in WATCH mode.
(The model's choices: a command whose conditions do not hold changes nothing, log entry 3; what log entries 12, 44 name.) -/
def Obligations.WatchAndReturn : Prop :=
  (∀ (s : State) (w : Fin 2), s.live → s.dev.whState w = 3 ∨ s.dev.whState w = 4 ∨ s.dev.whState w = 5 → s.dev.acting = true →
    (s.dev.wh w).claim ≤ (s.dev.wh (other w)).claim →
    Makes (.heartbeat w true true) s (fun d =>
      d.wh w = { s.dev.wh w with consumed := s.dev.get WHL_INLET_SEQ, bbAt := some s.dev.tick, wireAt := some s.dev.tick }
      ∧ d.get (if w.val = 0 then WHL_WATCH_BB_A else WHL_WATCH_BB_B) = 1 ∧ d.get (if w.val = 0 then WHL_WATCH_WIRE_A else WHL_WATCH_WIRE_B) = 1
      ∧ d.wh (other w) = s.dev.wh (other w) ∧ d = { s.dev with regs := d.regs, whl := d.whl }))
  ∧ (∀ (s : State) (w : Fin 2) (a b : Bool), s.live → s.dev.whState w < 3 ∨ 5 < s.dev.whState w → Does (.heartbeat w a b) s s.dev)
  ∧ (∀ (s : State) (w : Fin 2) (t u : Nat), s.live → (s.dev.wh w).bbAt = some t → (s.dev.wh w).wireAt = some u →
    let d := ((s.dev.atTick (max t u + 4000)).setB (if w.val = 0 then WHL_WATCH_BB_A else WHL_WATCH_BB_B) false).setB
      (if w.val = 0 then WHL_WATCH_WIRE_A else WHL_WATCH_WIRE_B) false
    (s.dev.whState w = 4 → s.dev.whState (other w) = 3 → Does (.heartbeatLoss w true true) s (d.takeover (other w) w 1))
    ∧ (s.dev.whState w = 3 → s.dev.whState (other w) = 4 → Does (.heartbeatLoss w true true) s (d.standbyLost w))
    ∧ (s.dev.whState w ≠ 3 → s.dev.whState w ≠ 4 → Does (.heartbeatLoss w true true) s d))
  ∧ (∀ (s : State) (w : Fin 2) (t : Nat), s.live → (s.dev.wh w).bbAt = some t → s.dev.whState w = 4 → s.dev.whState (other w) = 3 →
    Does (.heartbeatLoss w true false) s (((s.dev.atTick (t + 4000)).setB (if w.val = 0 then WHL_WATCH_BB_A else WHL_WATCH_BB_B) false).raise 51 6 (28 + w) 0 []))
  ∧ (∀ (s : State) (w : Fin 2), s.live →
    let e := (s.dev.setWhState w 6).emit (.link (28 + w) 2 0)
    (s.dev.whState w = 4 → e.isActive w = true → e.whState (other w) = 3 → Does (.fatal w) s (e.takeover (other w) w 2))
    ∧ (s.dev.whState w = 4 → e.isActive w = true → e.whState (other w) ≠ 3 → Does (.fatal w) s (e.noWheel 2))
    ∧ (s.dev.whState w = 3 → e.isActive w = false → e.isActive (other w) = true → Does (.fatal w) s (e.standbyLost w))
    ∧ (s.dev.whState w = 0 ∨ s.dev.whState w = 6 → Does (.fatal w) s s.dev))
  ∧ (∀ (s : State) (r : Requester), Reached s r 0x20004 → s.dev.acting = true → s.dev.watchMode = true → s.dev.whState (other s.dev.activeWh) = 3 →
    s.dev.healthy (other s.dev.activeWh) = true → s.dev.whl.swap = false →
    (s.dev.whl.point = none → Does (.swap r) s (s.dev.unlatch r).doSwap)
    ∧ (s.dev.whl.point ≠ none → Makes (.swap r) s (fun d => d.whl = { s.dev.whl with swap := true } ∧ d.get WHL_STATUS_MODE = 0
      ∧ OnlyFields { s.dev.unlatch r with whl := d.whl } d [WHL_STATUS_MODE])))
  ∧ (∀ (s : State) (r : Requester), Reached s r 0x20004 → s.dev.acting = false ∨ s.dev.watchMode = false ∨ s.dev.whState (other s.dev.activeWh) ≠ 3
      ∨ s.dev.healthy (other s.dev.activeWh) = false →
    Makes (.swap r) s (fun d => d.get WHL_STATUS_SWAP_REFUSED = 1 ∧ OnlyFields (s.dev.unlatch r) d [WHL_STATUS_SWAP_REFUSED]))
  ∧ (∀ (s : State) (r : Requester) (w : Fin 2), Reached s r 0x20004 → s.dev.watchMode = true → s.dev.whState (other w) = 3 →
    let e := ((s.dev.unlatch r).setWhState w 6).emit (.link (28 + w) 2 0)
    (s.dev.whState w = 4 → e.isActive w = true → e.whState (other w) = 3 → Does (.fail r w) s (e.takeover (other w) w 5)))
  ∧ (∀ (s : State) (r : Requester) (w : Fin 2), Reached s r 0x20004 → s.dev.watchMode = false ∨ s.dev.whState (other w) ≠ 3 →
    Does (.fail r w) s (s.dev.unlatch r))
  ∧ (∀ (s : State) (r : Requester) (w : Fin 2), Reached s r 0x20004 →
    let e := (s.dev.unlatch r).setWhState w 1
    (s.dev.whState w = 5 ∨ s.dev.whState w = 6 → s.dev.whState (other w) = 4 → s.dev.isActive (other w) = true →
      Does (.resync r w) s (e.setWh w { e.wh w with back := true, booted := false }))
    ∧ (s.dev.whState w < 5 ∨ s.dev.whState (other w) ≠ 4 → Does (.resync r w) s (s.dev.unlatch r)))
  ∧ (∀ (d : Dev) (w : Fin 2) (v : Nat), d.whState w ≠ v → v < 8 →
    (v = 2 ∨ v = 3 ∨ v = 4 → (d.setWhState w v).whState w = v ∧ (d.setWhState w v).whState (other w) = d.whState (other w))
    ∧ (v = 0 ∨ v = 1 ∨ v = 5 ∨ v = 6 → d.setWhState w v = (d.set (whStateF w) v).masterReset w))
  ∧ (∀ (s : State) (w : Fin 2), s.live → s.dev.whState w = 1 → (s.dev.wh w).booted = false →
    (s.dev.whl.want = true → Does (.bootComplete w true) s ((s.dev.setWh w { s.dev.wh w with booted := true }).leaseStep w))
    ∧ (s.dev.whl.want = false → s.dev.on RST_STATUS_LEASE_DONE = true →
      (s.dev.isActive (other w) = true → Makes (.bootComplete w true) s (fun d => d.whState w = 2 ∧ (d.wh w).booted = true
        ∧ d = { s.dev with regs := d.regs, whl := d.whl }))
      ∧ (s.dev.isActive (other w) = false →
        Does (.bootComplete w true) s ((s.dev.setWh w { s.dev.wh w with booted := true }).setWhState w 6)))
    ∧ (let e := s.dev.setWhState w 6
      (e.whState (other w) ≠ 6 → Does (.bootComplete w false) s e) ∧ (e.whState (other w) = 6 → Does (.bootComplete w false) s (e.noWheel 1))))
  ∧ (∀ (s : State) (w : Fin 2) (ok : Bool), s.live → s.dev.whState w ≠ 1 → Does (.bootComplete w ok) s s.dev)
  ∧ (∀ (s : State) (w : Fin 2) (t : Nat), s.live → s.dev.whl.stepAt = some t →
    (s.dev.whState w = 1 → (s.dev.wh w).booted = false → (s.dev.wh w).back = false →
      let e := (s.dev.atTick (t + 50000000)).setWhState w 6
      (e.whState (other w) ≠ 6 → Does (.bootTimeout w) s e)
      ∧ (e.whState (other w) = 6 → Does (.bootTimeout w) s (({ e with whl := { e.whl with want := false } }).noWheel 1)))
    ∧ (s.dev.whState w ≠ 1 → Does (.bootTimeout w) s s.dev))
  ∧ (∀ (s : State) (w : Fin 2) (x : Fin 10), s.live → s.dev.whState w = 2 → s.dev.isActive (other w) = true → s.dev.diag 1 = true →
    Makes (.resyncComplete w x false false false) s (fun d => d.whState w = 3 ∧ d.get WHL_STATUS_MODE = 1 ∧ d.get WHL_STATUS_TOKEN = 0
      ∧ d.wh w = { s.dev.wh w with claim := s.dev.get WHL_CLAIM, back := false, healthAt := some s.dev.tick } ∧ d.whl.leaseAt = none
      ∧ d.get (if w.val = 0 then WHL_HEALTH_A_OK else WHL_HEALTH_B_OK) = 1 ∧ d = { s.dev with regs := d.regs, whl := d.whl }))
  ∧ (∀ (s : State) (w : Fin 2) (x : Fin 10) (a b c : Bool), s.live → s.dev.whState w = 2 → s.dev.isActive (other w) = false →
    Does (.resyncComplete w x a b c) s (s.dev.setWhState w 6))
  ∧ (∀ (s : State) (w : Fin 2) (x : Fin 10) (t : Nat), s.live → s.dev.diag 1 = true → s.dev.whState w = 3 → (s.dev.wh w).healthAt = some t →
    s.dev.tick ≤ t + 10000000 →
    Makes (.healthReport w x false false false) s (fun d => (d.wh w).healthAt = some (t + 10000000)
      ∧ d.get (if w.val = 0 then WHL_HEALTH_A_OK else WHL_HEALTH_B_OK) = 1
      ∧ d.get (if w.val = 0 then WHL_HEALTH_A_SLICE else WHL_HEALTH_B_SLICE) = x.val
      ∧ d = { s.dev with regs := d.regs, mt := d.mt, tick := d.tick, whl := d.whl }))
  ∧ (∀ (s : State) (w : Fin 2) (x : Fin 10) (a b c : Bool), s.live → s.dev.diag 1 = false ∨ s.dev.whState w ≠ 3 →
    Does (.healthReport w x a b c) s s.dev)

/-! ## The host's side and resets -/

/-- The host link, the management port and I2C (R234, R356-R359, R368-R374, R457): an FLR discards what a function's ring queued and keeps the tickets; D3hot and the way back;
configuration requests before and after BOOT_DONE; the end of training; a snoop is answered; failed traffic is answered and logged; a read that fails ends its operation; ARP;
the I2C pointer and the bytes of a register, read whole at its first byte.
(The model's choices: a command whose conditions do not hold changes nothing, log entry 3; what log entries 58, 59, 60, 67 name.) -/
def Obligations.HostInterface : Prop :=
  (∀ (s : State) (f : Fin 64), s.live → s.dev.confOk f = true →
    (f.val ≠ 0 → Makes (.flr f) s (fun d => d.tk = s.dev.tk ∧ d.get (SQ_HEAD f) = 0 ∧ d.get (SQ_TAIL f) = 0 ∧ (d.ring f).muted = true
      ∧ (∀ t, Work.op t ∉ d.heads (queueOf f)) ∧ d.hst.d3 = s.dev.hst.d3.erase f.val))
    ∧ (f.val = 0 → Does (.flr f) s
      (let e := (s.dev.flrFn 0).msixReset (fun k => f.val == 0 || k == f.val)
       [2, 3, 4, 5].foldl (fun d k => d.masterReset k) ({ e with hst := { e.hst with d3 := [], vfEn := false } }.dmaStopAll (List.range 64))))
    ∧ Does (.powerStateChange f true true) s { s.dev with hst := { s.dev.hst with d3 := f.val :: s.dev.hst.d3.erase f.val } }
    ∧ (s.dev.hst.d3.contains f.val = true → exec (.powerStateChange f false false) s = exec (.flr f) s)
    ∧ (s.dev.hst.d3.contains f.val = true → let e := { s.dev with hst := { s.dev.hst with d3 := s.dev.hst.d3.erase f.val } }
      Does (.powerStateChange f false true) s (if f.val = 0 then (e.askEntry 0).askEntry 64 else e.askEntry f))
    ∧ (s.dev.hst.d3.contains f.val = false → Does (.powerStateChange f false true) s s.dev))
  ∧ (∀ (s : State) (f : Fin 64) (a b : Bool), s.live → s.dev.confOk f = false → Does (.flr f) s s.dev ∧ Does (.powerStateChange f a b) s s.dev)
  ∧ (∀ (s : State) (f : Fin 64) (c : ConfReq), s.live → s.dev.linkUp = true →
    (s.dev.on RST_STATUS_BOOT_DONE = false → Does (.configurationRequest f c) s (s.dev.emit (.pcie 2 0)))
    ∧ (s.dev.on RST_STATUS_BOOT_DONE = true → s.dev.hasFn f = false → Does (.configurationRequest f c) s (s.dev.emit (.pcie 0 0)))
    ∧ (s.dev.on RST_STATUS_BOOT_DONE = true → s.dev.hasFn f = true → f.val ≠ 0 →
      (c = .other ∨ (∃ n, c = .numVfs n) ∨ (∃ b, c = .vfEnable b) ∨ (∃ b, c = .cacheEnable b)) →
      Does (.configurationRequest f c) s (s.dev.emit (.pcie 3 0))))
  ∧ (∀ (s : State) (f : Fin 64) (reg : ConfReg) (a b : Bool), s.live → s.dev.linkUp = true → s.dev.on RST_STATUS_BOOT_DONE = true → s.dev.hasFn f = true →
    Does (.configurationRequest f (.read reg)) s (s.dev.emit (.pcie 3 (s.dev.confWord f reg)))
    ∧ Does (.configurationRequest f (.msix a b)) s ((s.dev.emit (.pcie 3 0)).msixControl f a b))
  ∧ (∀ (s : State) (n : Nat) (b : Bool), s.live → s.dev.linkUp = true → s.dev.on RST_STATUS_BOOT_DONE = true →
    let d := s.dev.emit (.pcie 3 0)
    (s.dev.hst.vfEn = false → 1 ≤ n → n ≤ 63 → Does (.configurationRequest 0 (.numVfs n)) s { d with hst := { d.hst with numVfs := n } })
    ∧ (s.dev.hst.vfEn = true ∨ n = 0 ∨ 63 < n → Does (.configurationRequest 0 (.numVfs n)) s d)
    ∧ Does (.configurationRequest 0 (.vfEnable true)) s { d with hst := { d.hst with vfEn := true } }
    ∧ (let e := d.msixReset (fun k => k != 0)
      Does (.configurationRequest 0 (.vfEnable false)) s { e with hst := { e.hst with vfEn := false, d3 := e.hst.d3.filter (· == 0) } })
    ∧ (s.dev.on HST_STATUS_PCIE_ONLY = true → Makes (.configurationRequest 0 (.cacheEnable b)) s (fun d => d.get HST_STATUS_CACHE_EN = 0))
    ∧ (s.dev.on HST_STATUS_PCIE_ONLY = false → Makes (.configurationRequest 0 (.cacheEnable b)) s (fun d => d.get HST_STATUS_CACHE_EN = b2n b))
    ∧ Does (.configurationRequest 0 .other) s d)
  ∧ (∀ (s : State) (w : Nat) (c : Bool), s.live → s.dev.rst.perst = false → s.dev.linkUp = false → s.dev.srdsOut = false → w = 4 ∨ w = 8 ∨ w = 16 →
    Makes (.cxlTrainingEnd 64 w c) s (fun d => d.linkUp = true ∧ d.get HST_STATUS_RATE = 2 ∧ d.get HST_STATUS_WIDTH = w ∧ d.get HST_STATUS_PCIE_ONLY = b2n (!c)
      ∧ d.get HST_STATUS_CACHE_EN = 0 ∧ d = { s.dev with regs := d.regs, hst := { s.dev.hst with compl := false } })
    ∧ Makes (.cxlTrainingEnd 16 w c) s (fun d => d.linkUp = true ∧ d.get HST_STATUS_WIDTH = w ∧ d.get HST_STATUS_PCIE_ONLY = 1 ∧ d.fresh = s.dev.fresh + 1))
  ∧ (∀ (s : State) (r w : Nat) (c : Bool), s.live → s.dev.rst.perst = true ∨ s.dev.linkUp = true → Does (.cxlTrainingEnd r w c) s s.dev)
  ∧ (∀ s : State, s.live → (s.dev.linkUp = true → s.dev.on HST_STATUS_CACHE_EN = true → Does .hostSnoop s (s.dev.emit (.pcie 4 0)))
    ∧ (s.dev.linkUp = false → Does .hostSnoop s s.dev))
  ∧ (∀ (s : State) (f : Fin 64) (h : List Nat) (b c : Bool), s.live → s.dev.linkUp = true →
    Does (.urOther f h b) s ((s.dev.emit (.pcie 0 0)).hostErr 2 f h b) ∧ Does (.poisonWrite f h b) s (s.dev.hostErr 4 f h b)
    ∧ Does (.unexpectedCpl f h b) s (s.dev.hostErr 9 f h b) ∧ Does (.malformedTlp c f h b) s (s.dev.hostErr (if c then 11 else 10) f h b)
    ∧ (s.dev.mtx.waits = [] → s.dev.mtx.hung = [] → Does (.hostRequestTimeout f h b) s ((s.dev.emit (.pcie 1 0)).hostErr 3 f h b)))
  ∧ (∀ (s : State) (f : Fin 64) (h : List Nat) (b : Bool) (q : MtxReq), s.live → s.dev.linkUp = true → s.dev.mtx.waits = [q] → s.dev.mtx.hung = [] →
    masterOf q.req = 6 → reqKey q.req = f.val → q.wr = none → q.told = false →
    let e := s.dev.atTick (q.since + 4000)
    Does (.hostRequestTimeout f h b) s (({ e with mtx := { e.mtx with waits := [{ q with told := true }] } }.emit (.pcie 1 0)).hostErr 3 f h b))
  ∧ (∀ (s : State) (f : Fin 64) (h : List Nat) (b c : Bool), s.live → s.dev.linkUp = false →
    Does (.urOther f h b) s s.dev ∧ Does (.poisonWrite f h b) s s.dev ∧ Does (.unexpectedCpl f h b) s s.dev ∧ Does (.malformedTlp c f h b) s s.dev
    ∧ Does (.hostRequestTimeout f h b) s s.dev)
  ∧ (∀ (d : Dev) (k f : Nat) (h : List Nat) (b : Bool), d.on HST_ERR_INFO_VALID = false →
    ∃ e : Dev, d.hostErr k f h b = (e.irq .hostErr).raise (if b then 80 else 81) 0 0 0 [] ∧ e.get HST_ERR_INFO_KIND = k % 16 ∧ e.get HST_ERR_INFO_VALID = 1
      ∧ e.get HST_ERR_INFO_COUNT = 0 ∧ e.get HST_ERR_TIME = stampOf d.now % 2 ^ 64 ∧ e = { d with regs := e.regs })
  ∧ (∀ (s : State) (h : List Nat) (b : Bool), s.live →
    (s.dev.on MAN_STATUS_LOAD_BUSY = true → s.dev.man.miss = false → Does (.readFail 6 h b .manifest) s ((s.dev.hostErr 6 0 h b).rowManLoaded noFile))
    ∧ (s.dev.on MAN_STATUS_LOAD_BUSY = false → Does (.readFail 6 h b .manifest) s s.dev)
    ∧ (∀ g : Fin 65, s.dev.fetches g = true → s.dev.get (SQ_HEAD g) ≠ s.dev.get (SQ_TAIL g) →
      Does (.readFail 8 h b (.entry g)) s ((s.dev.hostErr 8 (ringFn g) h b).rowEntryFetch g none))
    ∧ (∀ op, Does (.readFail 1 h b op) s s.dev))
  ∧ (∀ (s : State) (ip sip mac : Nat) (b : Bool), s.live →
    (s.dev.mgmtOn = true → s.dev.get HST_MGMT_IPV4 ≠ 0 → ip = s.dev.get HST_MGMT_IPV4 → Does (.arpRequest ip sip mac) s
      ((s.dev.mgmtIn.inc HST_MGMT_CNT_RX).emit (.mgmt 0x0806 mac (arpReply (s.dev.get HST_MGMT_MAC) ip mac sip))))
    ∧ (s.dev.mgmtOn = true → s.dev.get HST_MGMT_IPV4 = 0 ∨ ip ≠ s.dev.get HST_MGMT_IPV4 → Does (.arpRequest ip sip mac) s (s.dev.mgmtIn.inc HST_MGMT_CNT_DROP))
    ∧ (s.dev.mgmtOn = true → Does (.mgmtFrameDrop b) s (s.dev.mgmtIn.inc (if b then HST_MGMT_CNT_FCS else HST_MGMT_CNT_DROP)))
    ∧ (s.dev.mgmtOn = false → Does (.arpRequest ip sip mac) s s.dev ∧ Does (.mgmtFrameDrop b) s s.dev))
  ∧ (∀ (s : State) (hi lo : Byte), s.live → Does (.i2cPointerWrite hi lo) s { s.dev with hst := { s.dev.hst with ptr := hi.toNat * 256 + lo.toNat } })
  ∧ (∀ s : State, s.live → Does (.i2cRead 0) s s.dev)
  ∧ (∀ (s : State) (off : Nat), s.live → s.dev.hst.ptr % 4 = 0 → s.dev.hst.ptr < 65532 → i2cReg s.dev.hst.ptr = some off →
    let w := s.dev.peek off
    Does (.i2cRead 4) s { s.dev with hst := { s.dev.hst with ptr := s.dev.hst.ptr + 4, buf := some (s.dev.hst.ptr, w) }
                                     out := s.dev.out ++ [.i2c (w % 256), .i2c (w / 256 % 256), .i2c (w / 65536 % 256), .i2c (w / 16777216 % 256)] })
  ∧ (∀ s : State, s.live → s.dev.hst.ptr < 65535 → i2cReg (s.dev.hst.ptr / 4 * 4) = none →
    Does (.i2cRead 1) s { s.dev with hst := { s.dev.hst with ptr := s.dev.hst.ptr + 1 }, out := s.dev.out ++ [.i2c 0] })

/-- Cold and module resets, and rails (R446-R457, R479): a cold reset leaves everything at its reset value and the hold empty; its release starts the boot; RST_N low, the key
written twice within 1.000 ms, or an L4 decision 10.000 us ago starts a module reset; the moor ends in the park; 3 us after it the islands are reset, and the logbook stays;
the release runs the boot again with every driver at 0 V. A core rail acts as a cold reset; without drive every VOA reads back DARK.
(The model's choices: a command whose conditions do not hold changes nothing, log entry 3; what log entries 6, 12, 66, 71 name.) -/
def Obligations.ModuleResets : Prop :=
  (∀ s : State, s.dev.rst.cold = false → exec .coldReset s = .next { s with
    dev := { dev0 with out := s.dev.out, fresh := s.dev.fresh, rst := { dev0.rst with perst := s.dev.rst.perst } }, mem := s.mem.powerLost })
  ∧ (∀ s : State, s.dev.rst.cold = true → exec .coldReset s = .next s)
  ∧ (∀ (m : Memory) (a : Nat), m.powerLost.cells = [] ∧ (a < dev0.get HLD_HOST_BASE → m.powerLost.byte a = 0))
  ∧ (∀ s : State, s.dev.rst.cold = true → Makes .coldResetRelease s (fun d => d.rst.cold = false ∧ d.get RST_STATUS_LEVEL = 0
    ∧ d.get FLT_STATUS_BELL_RUN = 1 ∧ d.get TIM_STATUS_TCXO_OK = 1 ∧ d.whState 0 = 1 ∧ d.whState 1 = 1 ∧ d.get HLD_STATUS_STATE = 1 ∧ d = { s.dev with regs := d.regs, rst := d.rst }))
  ∧ (∀ s : State, s.dev.rst.cold = false → Does .coldResetRelease s s.dev)
  ∧ (∀ s : State, s.live →
    (s.dev.rst.phase = 0 → s.dev.get HLD_STATUS_STATE ≠ 1 → Makes .bootDone s (fun d => d.get RST_STATUS_BOOT_DONE = 1
      ∧ OnlyFields s.dev d [RST_STATUS_BOOT_DONE]))
    ∧ (s.dev.rst.phase ≠ 0 ∨ s.dev.get HLD_STATUS_STATE = 1 → Does .bootDone s s.dev))
  ∧ (∀ s : State, s.dev.rst.cold = false → s.dev.rst.rstn = false →
    let d := { s.dev with rst := { s.dev.rst with rstn := true } }
    (s.dev.flt.bell = false → Does .rstNLow s (d.startModule 1 (s.dev.get RST_CFG_MOOR_MS)))
    ∧ (s.dev.flt.bell = true → Does .rstNLow s (({ d with flt := { d.flt with bell := false } }.emit (.pin 0 false)).startModule 1 (s.dev.get RST_CFG_MOOR_MS))))
  ∧ (∀ s : State, s.dev.rst.cold = true ∨ s.dev.rst.rstn = true → Does .rstNLow s s.dev)
  ∧ (∀ (d : Dev) (src ms : Nat), d.rst.phase ≠ 0 → d.startModule src ms = d)
  ∧ (∀ s : State, s.live →
    (s.dev.rst.phase = 1 →
      let d := s.dev.atTick (s.dev.rst.moorAt + s.dev.rst.moorMs * 1000000)
      Does .moorEnd s ({ d with rst := { d.rst with phase := 2, parkAt := d.tick } }.startPark (List.range 96)))
    ∧ (s.dev.rst.phase ≠ 1 → Does .moorEnd s s.dev))
  ∧ (∀ s : State, s.live →
    (s.dev.rst.phase = 2 →
      let d := s.dev.atTick (s.dev.rst.parkAt + 3000)
      let d := d.switchPark ((List.range 96).filter (fun b => (d.blk b).parking.isSome))
      exec .islandReset s = .next { s with dev := d.flushReports.clearIslands, mem := if d.hld.lost then s.mem.lose (d.get HLD_HOST_BASE) else s.mem })
    ∧ (s.dev.rst.phase ≠ 2 → exec .islandReset s = .next s))
  ∧ (∀ d : Dev, d.clearIslands.rst.phase = 3 ∧ d.clearIslands.flt.log = d.flt.log ∧ d.clearIslands.tk = dev0.tk ∧ d.clearIslands.get RST_STATUS_BOOT_DONE = 0
    ∧ d.clearIslands.get FLT_SAFE_CAUSE_CLASS = d.get FLT_SAFE_CAUSE_CLASS % 2 ^ 7 ∧ (∀ o < 512, d.clearIslands.darkLine o = true)
    ∧ (∀ i, (d.clearIslands.cell i).parked = true ∧ (d.clearIslands.cell i).cross = parkState i))
  ∧ (∀ s : State,
    (s.dev.rst.phase = 3 → s.dev.rst.cold = false → Makes .moduleResetRelease s (fun d => d.rst.phase = 0 ∧ d.rst.rstn = false ∧ d.get RST_STATUS_LEVEL = 1
      ∧ d.get RST_STATUS_SOURCE = s.dev.rst.src % 4 ∧ d.whState 0 = 1 ∧ d.whState 1 = 1 ∧ (∀ i, (d.cell i).codeA = 0 ∧ (d.cell i).codeB = 0)))
    ∧ (s.dev.rst.phase ≠ 3 → Does .moduleResetRelease s s.dev))
  ∧ (∀ (s : State) (r : Requester) (v : Nat), Reached s r 0xE0010 → mayReset r = true →
    let off := { s.dev.unlatch r with rst := { s.dev.rst with armM := none } }
    let armed := { s.dev.unlatch r with rst := { s.dev.rst with armM := some s.dev.tick } }
    (v % 2 ^ 32 ≠ 0x4D525354 → Does (.rstModule r v) s off)
    ∧ (v % 2 ^ 32 = 0x4D525354 → s.dev.rst.armM = none → Does (.rstModule r v) s armed)
    ∧ (∀ t, v % 2 ^ 32 = 0x4D525354 → s.dev.rst.armM = some t →
      (s.dev.tick ≤ t + 1000000 → Does (.rstModule r v) s (off.startModule 2 (s.dev.get RST_CFG_MOOR_MS)))
      ∧ (t + 1000000 < s.dev.tick → Does (.rstModule r v) s armed)))
  ∧ (∀ (s : State) (r : Requester) (v : Nat), Reached s r 0xE0010 → mayReset r = false → Does (.rstModule r v) s (s.dev.unlatch r))
  ∧ (∀ s : State, s.live →
    (∀ t, s.dev.flt.l4At = some t → s.dev.rst.phase = 0 → Does .l4Reset s (((s.dev.atTick (t + 10000)).startModule 3 0).endMoor))
    ∧ (s.dev.flt.l4At = none ∨ s.dev.rst.phase ≠ 0 → Does .l4Reset s s.dev))
  ∧ (∀ (s : State) (k : Fin 9) (l : List (Nat × Nat)), s.live →
    (s.dev.rst.rails.contains k.val = true → exec (.railLoss k l) s = .next s)
    ∧ (s.dev.rst.rails.contains k.val = false →
      let d := { s.dev with rst := { s.dev.rst with rails := k.val :: s.dev.rst.rails } }
      (k.val = 0 ∨ k.val = 3 ∨ k.val = 4 → exec (.railLoss k l) s = .next { s with dev := s.dev.coldReset, mem := s.mem.powerLost })
      ∧ (k.val = 5 ∨ k.val = 6 → Makes (.railLoss k l) s (fun e => (∀ o < 512, (e.outP o).rbCode = 0xFFFF) ∧ e.rst = d.rst
        ∧ e = { d with fab := { d.fab with outPrt := e.fab.outPrt } }))
      ∧ (k.val = 1 ∨ k.val = 2 → Does (.railLoss k l) s
        (((List.range 16).foldl (fun (e : Dev) n => e.rowLockLoss n) (d.rowHoldLoss s.mem l)).rowLinkDown false))
      ∧ (k.val = 7 ∨ k.val = 8 → Does (.railLoss k l) s d)))
  ∧ (∀ (s : State) (k : Fin 9), s.live →
    (s.dev.rst.rails.contains k.val = false → Does (.railReturn k) s s.dev)
    ∧ (s.dev.rst.rails = [k.val] → (k.val = 5 ∨ k.val = 6 → Makes (.railReturn k) s (fun e => e.rst.rails = []
        ∧ (∀ o < 512, (e.outP o).rbCode = (s.dev.outP o).cmdCode)))
      ∧ (k.val ≠ 5 → k.val ≠ 6 → Does (.railReturn k) s { s.dev with rst := { s.dev.rst with rails := [] } })))

/-- Helm resets, the lease step and the settlement (R370, R447, R452, R457, R460-R463): the key written twice, the link going down or PERST_N starts a Helm reset, which one under
way ignores; with nothing queued and no table it revokes the stages, clears the claim and keeps the ticket store; LEASE_GO gives the lease to WH-A before WH-B, or waits for the
first that has booted; the settlement frees what no berth sequencer is to make and leaves LIT tickets as they are.
(The model's choices: a command whose conditions do not hold changes nothing, log entry 3; what log entries 68, 69, 70 name.) -/
def Obligations.HelmResets : Prop :=
  (∀ (s : State) (r : Requester) (v : Nat), Reached s r 0xE0014 → mayReset r = true →
    let off := { s.dev.unlatch r with rst := { s.dev.rst with armH := none } }
    let armed := { s.dev.unlatch r with rst := { s.dev.rst with armH := some s.dev.tick } }
    (v % 2 ^ 32 ≠ 0x48525354 → Does (.rstHelm r v) s off)
    ∧ (v % 2 ^ 32 = 0x48525354 → s.dev.rst.armH = none → Does (.rstHelm r v) s armed)
    ∧ (∀ t, v % 2 ^ 32 = 0x48525354 → s.dev.rst.armH = some t →
      (s.dev.tick ≤ t + 1000000 → Does (.rstHelm r v) s (off.startHelm 1)) ∧ (t + 1000000 < s.dev.tick → Does (.rstHelm r v) s armed)))
  ∧ (∀ (s : State) (r : Requester) (v : Nat), Reached s r 0xE0014 → mayReset r = false → Does (.rstHelm r v) s (s.dev.unlatch r))
  ∧ (∀ (d : Dev) (src : Nat), d.rst.phase ≠ 0 ∨ d.on RST_STATUS_HELM_BUSY = true → d.startHelm src = d)
  ∧ (∀ (d : Dev) (src : Nat), d.rst.phase = 0 → d.on RST_STATUS_HELM_BUSY = false → d.on SEAL_STATUS_STAGED = false → d.cmd.ops.cells = [] →
    d.cmd.xings.cells = [] → d.tide.tables.cells = [] → d.tide.runs.cells = [] → d.tide.sys.cells = [] → d.tk.gather = [] → d.levelOf 65 ≤ 1 → (d.occ 65).level ≤ 1 →
    (d.startHelm src).get RST_STATUS_HELM_BUSY = 1 ∧ (d.startHelm src).get RST_STATUS_HELM_SRC = src % 4 ∧ (d.startHelm src).get WHL_STATUS_ACTIVE = 0
      ∧ (d.startHelm src).get WHL_CLAIM = 0 ∧ (d.startHelm src).get WHL_STATUS_REVOKED = 1 ∧ (d.startHelm src).tk.store = d.tk.store
      ∧ (d.startHelm src).fab = d.fab ∧ (d.startHelm src).mt = d.mt)
  ∧ (∀ s : State, s.live →
    (s.dev.linkUp = true → Does (.linkDown true) s ((s.dev.linkLost.masterReset 6).startHelm 2)
      ∧ Does (.linkDown false) s (((s.dev.linkLost.masterReset 6).raise 80 0 0 0 []).startHelm 2))
    ∧ (s.dev.linkUp = false → Does (.linkDown true) s s.dev ∧ Does (.linkDown false) s s.dev))
  ∧ (∀ s : State,
    let d := { s.dev with rst := { s.dev.rst with perst := true } }
    (s.dev.rst.perst = false → s.held = false → Does .perstNAssert s (d.startHelm 3).hostReset)
    ∧ (s.dev.rst.perst = false → s.held = true → Does .perstNAssert s d)
    ∧ (s.dev.rst.perst = true → Does .perstNAssert s s.dev)
    ∧ Does .perstNRelease s { s.dev with rst := { s.dev.rst with perst := false } })
  ∧ (∀ (s : State) (r : Requester), Reached s r 0xE0008 → s.dev.manLoaded = true → s.dev.get WHL_STATUS_ACTIVE = 0 → s.dev.on RST_STATUS_LEASE_DONE = false →
    let e := s.dev.unlatch r
    (s.dev.whState 0 = 1 → (s.dev.wh 0).booted = true → Does (.leaseGo r) s (e.leaseStep 0))
    ∧ ((s.dev.whState 0 ≠ 1 ∨ (s.dev.wh 0).booted = false) → s.dev.whState 1 = 1 → (s.dev.wh 1).booted = true → Does (.leaseGo r) s (e.leaseStep 1))
    ∧ ((s.dev.whState 0 ≠ 1 ∨ (s.dev.wh 0).booted = false) → (s.dev.whState 1 ≠ 1 ∨ (s.dev.wh 1).booted = false) →
      Does (.leaseGo r) s { e with whl := { e.whl with want := true, stepAt := some s.dev.tick } }))
  ∧ (∀ (s : State) (r : Requester), Reached s r 0xE0008 → s.dev.manLoaded = false ∨ s.dev.get WHL_STATUS_ACTIVE ≠ 0 ∨ s.dev.on RST_STATUS_LEASE_DONE = true →
    Does (.leaseGo r) s (s.dev.unlatch r))
  ∧ (∀ s : State, s.live →
    (s.dev.on RST_STATUS_HELM_BUSY = true → s.dev.get WHL_STATUS_ACTIVE ≠ 0 →
      let d := s.dev.allTkts.foldl (fun (d : Dev) (x : Nat × Ticket) => d.settleOne x.1 x.2) s.dev
      let d := d.setList (d.sortList ((d.allTkts.filter (fun x => x.2.restoring && !x.2.committed)).map (·.1)))
      let d := (d.report463.setB RST_STATUS_HELM_BUSY false).inc RST_CNT_HELM
      Does .settlement s { d with rst := { d.rst with lost := [] } }.wake)
    ∧ (s.dev.on RST_STATUS_HELM_BUSY = false ∨ s.dev.get WHL_STATUS_ACTIVE = 0 → Does .settlement s s.dev))
  ∧ (∀ (d : Dev) (t : Nat) (k : Ticket),
    (k.tableOwned = true ∨ k.state = 3 ∨ k.state = 4 ∨ k.state = 5 → d.settleOne t k = d)
    ∧ (k.tableOwned = false → k.state = 1 → d.settleOne t k = d.freeTkt t 0)
    ∧ (k.tableOwned = false → k.state = 2 → k.committed = false → k.restoring = false ∨ d.rst.lost.contains t = true → d.settleOne t k = d.freeTkt t 0)
    ∧ (k.state = 2 → k.restoring = true → d.rst.lost.contains t = false → d.settleOne t k = d)
    ∧ (k.state = 2 → k.committed = true → d.settleOne t k = d)
    ∧ (k.tableOwned = false → k.state = 6 → k.committed = false → d.cmd.xings.cells = [] → d.settleOne t k = d.reopenTkt t))
end

