-- ==== Sys2Proof/Laws/State.lean ====
section
/-! SUPPORT. The small lemmas of tables, registers and records: what each reads as after each update. -/

namespace Sys2Proof.Machine

/-! ## Sparse tables -/

theorem look_ins_self {α : Type} (l : List (Nat × α)) (k : Nat) (v : α) : look (ins l k v) k = some v := by
  induction l with
  | nil => simp [ins, look]
  | cons c l ih =>
    obtain ⟨j, a⟩ := c
    by_cases h1 : k < j
    · simp [ins, h1, look]
    · by_cases h2 : k = j
      · simp [ins, h2, look]
      · simp [ins, h1, h2, look, ih, Ne.symm h2]

theorem look_ins_of_ne {α : Type} (l : List (Nat × α)) (k j : Nat) (v : α) (h : j ≠ k) : look (ins l k v) j = look l j := by
  induction l with
  | nil => simp [ins, look, Ne.symm h]
  | cons c l ih =>
    obtain ⟨i, a⟩ := c
    by_cases h1 : k < i
    · simp [ins, h1, look, Ne.symm h]
    · by_cases h2 : k = i
      · subst h2; simp [ins, look, Ne.symm h]
      · simp [ins, h1, h2, look, ih]

theorem look_filter {α : Type} (l : List (Nat × α)) (p : Nat → Bool) (j : Nat) :
    look (l.filter (fun c => p c.1)) j = if p j then look l j else none := by
  induction l with
  | nil => simp [look]
  | cons c l ih =>
    obtain ⟨i, a⟩ := c
    by_cases h1 : p i <;> by_cases h2 : i = j <;> simp_all [look]

theorem look_del_self {α : Type} (l : List (Nat × α)) (k : Nat) : look (del l k) k = none := by
  unfold del; rw [look_filter l (fun i => i != k)]; simp

theorem look_del_of_ne {α : Type} (l : List (Nat × α)) (k j : Nat) (h : j ≠ k) : look (del l k) j = look l j := by
  unfold del; rw [look_filter l (fun i => i != k)]; simp [h]

/-- A key reads as it was put. -/
@[simp] theorem Tab.get_put_self {α : Type} [DecidableEq α] (t : Tab α) (x : α) (k : Nat) (v : α) :
    (t.put x k v).get x k = v := by
  unfold Tab.put Tab.get
  split
  · simp [look_del_self, *]
  · simp [look_ins_self]

/-- Another key reads as before. -/
theorem Tab.get_put_of_ne {α : Type} [DecidableEq α] (t : Tab α) (x y : α) (k j : Nat) (v : α) (h : j ≠ k) :
    (t.put x k v).get y j = t.get y j := by
  unfold Tab.put Tab.get
  split
  · simp [look_del_of_ne _ _ _ h]
  · simp [look_ins_of_ne _ _ _ _ h]

/-- The empty table reads as the default everywhere. -/
@[simp] theorem Tab.get_empty {α : Type} (x : α) (k : Nat) : (Tab.empty : Tab α).get x k = x := rfl

/-! ## Register fields -/

/-- A field reads as it was set, within its width. -/
@[simp] theorem Dev.get_set_self (d : Dev) (f : Fld) (v : Nat) : (d.set f v).get f = v % 2 ^ f.w := by
  simp [Dev.set, Dev.get]

/-- A field of another place reads as before. -/
theorem Dev.get_set_of_ne (d : Dev) (f g : Fld) (v : Nat) (h : g.key ≠ f.key) : (d.set f v).get g = d.get g :=
  Tab.get_put_of_ne _ _ _ _ _ _ h

/-- Setting a field changes nothing but register fields. -/
theorem Dev.set_onlyFields (d : Dev) (f : Fld) (v : Nat) : OnlyFields d (d.set f v) [f] :=
  ⟨rfl, fun g h => d.get_set_of_ne f g v (h f (by simp))⟩

@[simp] theorem Dev.setB_eq (d : Dev) (f : Fld) (b : Bool) : d.setB f b = d.set f (b2n b) := rfl
@[simp] theorem Dev.inc_eq (d : Dev) (f : Fld) : d.inc f = d.set f (d.get f + 1) := rfl
@[simp] theorem Dev.sets_nil (d : Dev) : d.sets [] = d := rfl
@[simp] theorem Dev.sets_cons (d : Dev) (f : Fld) (v : Nat) (l : List (Fld × Nat)) : d.sets ((f, v) :: l) = (d.set f v).sets l := rfl

/-! ## Records by index: what is put is read, other places stay, registers and outputs stay -/

@[simp] theorem Dev.ilkSlot_setIlkSlot_self (d : Dev) (i : Nat) (x : Slot) : (d.setIlkSlot i x).ilkSlot i = x := by simp [Dev.ilkSlot, Dev.setIlkSlot]
theorem Dev.ilkSlot_setIlkSlot_of_ne (d : Dev) (i j : Nat) (x : Slot) (h : j ≠ i) : (d.setIlkSlot i x).ilkSlot j = d.ilkSlot j :=
  Tab.get_put_of_ne _ _ _ _ _ _ h
@[simp] theorem Dev.get_setIlkSlot (d : Dev) (i : Nat) (x : Slot) (f : Fld) : (d.setIlkSlot i x).get f = d.get f := rfl
@[simp] theorem Dev.on_setIlkSlot (d : Dev) (i : Nat) (x : Slot) (f : Fld) : (d.setIlkSlot i x).on f = d.on f := rfl
@[simp] theorem Dev.setIlkSlot_regs (d : Dev) (i : Nat) (x : Slot) : (d.setIlkSlot i x).regs = d.regs := rfl
@[simp] theorem Dev.setIlkSlot_mt (d : Dev) (i : Nat) (x : Slot) : (d.setIlkSlot i x).mt = d.mt := rfl
@[simp] theorem Dev.setIlkSlot_tick (d : Dev) (i : Nat) (x : Slot) : (d.setIlkSlot i x).tick = d.tick := rfl
@[simp] theorem Dev.setIlkSlot_out (d : Dev) (i : Nat) (x : Slot) : (d.setIlkSlot i x).out = d.out := rfl
@[simp] theorem Dev.setIlkSlot_fresh (d : Dev) (i : Nat) (x : Slot) : (d.setIlkSlot i x).fresh = d.fresh := rfl
@[simp] theorem Dev.setIlkSlot_acc (d : Dev) (i : Nat) (x : Slot) : (d.setIlkSlot i x).acc = d.acc := rfl
@[simp] theorem Dev.setIlkSlot_fab (d : Dev) (i : Nat) (x : Slot) : (d.setIlkSlot i x).fab = d.fab := rfl
@[simp] theorem Dev.setIlkSlot_tk (d : Dev) (i : Nat) (x : Slot) : (d.setIlkSlot i x).tk = d.tk := rfl
@[simp] theorem Dev.setIlkSlot_cmd (d : Dev) (i : Nat) (x : Slot) : (d.setIlkSlot i x).cmd = d.cmd := rfl
@[simp] theorem Dev.setIlkSlot_tide (d : Dev) (i : Nat) (x : Slot) : (d.setIlkSlot i x).tide = d.tide := rfl
@[simp] theorem Dev.setIlkSlot_man (d : Dev) (i : Nat) (x : Slot) : (d.setIlkSlot i x).man = d.man := rfl
@[simp] theorem Dev.setIlkSlot_tps (d : Dev) (i : Nat) (x : Slot) : (d.setIlkSlot i x).tps = d.tps := rfl
@[simp] theorem Dev.setIlkSlot_flt (d : Dev) (i : Nat) (x : Slot) : (d.setIlkSlot i x).flt = d.flt := rfl
@[simp] theorem Dev.setIlkSlot_tim (d : Dev) (i : Nat) (x : Slot) : (d.setIlkSlot i x).tim = d.tim := rfl
@[simp] theorem Dev.setIlkSlot_cap (d : Dev) (i : Nat) (x : Slot) : (d.setIlkSlot i x).cap = d.cap := rfl
@[simp] theorem Dev.setIlkSlot_cal (d : Dev) (i : Nat) (x : Slot) : (d.setIlkSlot i x).cal = d.cal := rfl
@[simp] theorem Dev.setIlkSlot_thm (d : Dev) (i : Nat) (x : Slot) : (d.setIlkSlot i x).thm = d.thm := rfl
@[simp] theorem Dev.setIlkSlot_whl (d : Dev) (i : Nat) (x : Slot) : (d.setIlkSlot i x).whl = d.whl := rfl
@[simp] theorem Dev.setIlkSlot_fry (d : Dev) (i : Nat) (x : Slot) : (d.setIlkSlot i x).fry = d.fry := rfl
@[simp] theorem Dev.setIlkSlot_hld (d : Dev) (i : Nat) (x : Slot) : (d.setIlkSlot i x).hld = d.hld := rfl
@[simp] theorem Dev.setIlkSlot_svy (d : Dev) (i : Nat) (x : Slot) : (d.setIlkSlot i x).svy = d.svy := rfl
@[simp] theorem Dev.setIlkSlot_rcd (d : Dev) (i : Nat) (x : Slot) : (d.setIlkSlot i x).rcd = d.rcd := rfl
@[simp] theorem Dev.setIlkSlot_hst (d : Dev) (i : Nat) (x : Slot) : (d.setIlkSlot i x).hst = d.hst := rfl
@[simp] theorem Dev.setIlkSlot_mtx (d : Dev) (i : Nat) (x : Slot) : (d.setIlkSlot i x).mtx = d.mtx := rfl
@[simp] theorem Dev.setIlkSlot_rst (d : Dev) (i : Nat) (x : Slot) : (d.setIlkSlot i x).rst = d.rst := rfl
@[simp] theorem Dev.src_setSrc_self (d : Dev) (i : Nat) (x : Src) : (d.setSrc i x).src i = x := by simp [Dev.src, Dev.setSrc]
theorem Dev.src_setSrc_of_ne (d : Dev) (i j : Nat) (x : Src) (h : j ≠ i) : (d.setSrc i x).src j = d.src j :=
  Tab.get_put_of_ne _ _ _ _ _ _ h
@[simp] theorem Dev.get_setSrc (d : Dev) (i : Nat) (x : Src) (f : Fld) : (d.setSrc i x).get f = d.get f := rfl
@[simp] theorem Dev.on_setSrc (d : Dev) (i : Nat) (x : Src) (f : Fld) : (d.setSrc i x).on f = d.on f := rfl
@[simp] theorem Dev.setSrc_regs (d : Dev) (i : Nat) (x : Src) : (d.setSrc i x).regs = d.regs := rfl
@[simp] theorem Dev.setSrc_mt (d : Dev) (i : Nat) (x : Src) : (d.setSrc i x).mt = d.mt := rfl
@[simp] theorem Dev.setSrc_tick (d : Dev) (i : Nat) (x : Src) : (d.setSrc i x).tick = d.tick := rfl
@[simp] theorem Dev.setSrc_out (d : Dev) (i : Nat) (x : Src) : (d.setSrc i x).out = d.out := rfl
@[simp] theorem Dev.setSrc_fresh (d : Dev) (i : Nat) (x : Src) : (d.setSrc i x).fresh = d.fresh := rfl
@[simp] theorem Dev.setSrc_acc (d : Dev) (i : Nat) (x : Src) : (d.setSrc i x).acc = d.acc := rfl
@[simp] theorem Dev.setSrc_fab (d : Dev) (i : Nat) (x : Src) : (d.setSrc i x).fab = d.fab := rfl
@[simp] theorem Dev.setSrc_tk (d : Dev) (i : Nat) (x : Src) : (d.setSrc i x).tk = d.tk := rfl
@[simp] theorem Dev.setSrc_cmd (d : Dev) (i : Nat) (x : Src) : (d.setSrc i x).cmd = d.cmd := rfl
@[simp] theorem Dev.setSrc_tide (d : Dev) (i : Nat) (x : Src) : (d.setSrc i x).tide = d.tide := rfl
@[simp] theorem Dev.setSrc_man (d : Dev) (i : Nat) (x : Src) : (d.setSrc i x).man = d.man := rfl
@[simp] theorem Dev.setSrc_tps (d : Dev) (i : Nat) (x : Src) : (d.setSrc i x).tps = d.tps := rfl
@[simp] theorem Dev.setSrc_flt (d : Dev) (i : Nat) (x : Src) : (d.setSrc i x).flt = d.flt := rfl
@[simp] theorem Dev.setSrc_tim (d : Dev) (i : Nat) (x : Src) : (d.setSrc i x).tim = d.tim := rfl
@[simp] theorem Dev.setSrc_cap (d : Dev) (i : Nat) (x : Src) : (d.setSrc i x).cap = d.cap := rfl
@[simp] theorem Dev.setSrc_cal (d : Dev) (i : Nat) (x : Src) : (d.setSrc i x).cal = d.cal := rfl
@[simp] theorem Dev.setSrc_thm (d : Dev) (i : Nat) (x : Src) : (d.setSrc i x).thm = d.thm := rfl
@[simp] theorem Dev.setSrc_whl (d : Dev) (i : Nat) (x : Src) : (d.setSrc i x).whl = d.whl := rfl
@[simp] theorem Dev.setSrc_fry (d : Dev) (i : Nat) (x : Src) : (d.setSrc i x).fry = d.fry := rfl
@[simp] theorem Dev.setSrc_hld (d : Dev) (i : Nat) (x : Src) : (d.setSrc i x).hld = d.hld := rfl
@[simp] theorem Dev.setSrc_svy (d : Dev) (i : Nat) (x : Src) : (d.setSrc i x).svy = d.svy := rfl
@[simp] theorem Dev.setSrc_rcd (d : Dev) (i : Nat) (x : Src) : (d.setSrc i x).rcd = d.rcd := rfl
@[simp] theorem Dev.setSrc_hst (d : Dev) (i : Nat) (x : Src) : (d.setSrc i x).hst = d.hst := rfl
@[simp] theorem Dev.setSrc_mtx (d : Dev) (i : Nat) (x : Src) : (d.setSrc i x).mtx = d.mtx := rfl
@[simp] theorem Dev.setSrc_rst (d : Dev) (i : Nat) (x : Src) : (d.setSrc i x).rst = d.rst := rfl
@[simp] theorem Dev.fwd_setFwd_self (d : Dev) (i : Nat) (x : Fwd) : (d.setFwd i x).fwd i = x := by simp [Dev.fwd, Dev.setFwd]
theorem Dev.fwd_setFwd_of_ne (d : Dev) (i j : Nat) (x : Fwd) (h : j ≠ i) : (d.setFwd i x).fwd j = d.fwd j :=
  Tab.get_put_of_ne _ _ _ _ _ _ h
@[simp] theorem Dev.get_setFwd (d : Dev) (i : Nat) (x : Fwd) (f : Fld) : (d.setFwd i x).get f = d.get f := rfl
@[simp] theorem Dev.on_setFwd (d : Dev) (i : Nat) (x : Fwd) (f : Fld) : (d.setFwd i x).on f = d.on f := rfl
@[simp] theorem Dev.setFwd_regs (d : Dev) (i : Nat) (x : Fwd) : (d.setFwd i x).regs = d.regs := rfl
@[simp] theorem Dev.setFwd_mt (d : Dev) (i : Nat) (x : Fwd) : (d.setFwd i x).mt = d.mt := rfl
@[simp] theorem Dev.setFwd_tick (d : Dev) (i : Nat) (x : Fwd) : (d.setFwd i x).tick = d.tick := rfl
@[simp] theorem Dev.setFwd_out (d : Dev) (i : Nat) (x : Fwd) : (d.setFwd i x).out = d.out := rfl
@[simp] theorem Dev.setFwd_fresh (d : Dev) (i : Nat) (x : Fwd) : (d.setFwd i x).fresh = d.fresh := rfl
@[simp] theorem Dev.setFwd_acc (d : Dev) (i : Nat) (x : Fwd) : (d.setFwd i x).acc = d.acc := rfl
@[simp] theorem Dev.setFwd_fab (d : Dev) (i : Nat) (x : Fwd) : (d.setFwd i x).fab = d.fab := rfl
@[simp] theorem Dev.setFwd_tk (d : Dev) (i : Nat) (x : Fwd) : (d.setFwd i x).tk = d.tk := rfl
@[simp] theorem Dev.setFwd_cmd (d : Dev) (i : Nat) (x : Fwd) : (d.setFwd i x).cmd = d.cmd := rfl
@[simp] theorem Dev.setFwd_tide (d : Dev) (i : Nat) (x : Fwd) : (d.setFwd i x).tide = d.tide := rfl
@[simp] theorem Dev.setFwd_man (d : Dev) (i : Nat) (x : Fwd) : (d.setFwd i x).man = d.man := rfl
@[simp] theorem Dev.setFwd_tps (d : Dev) (i : Nat) (x : Fwd) : (d.setFwd i x).tps = d.tps := rfl
@[simp] theorem Dev.setFwd_flt (d : Dev) (i : Nat) (x : Fwd) : (d.setFwd i x).flt = d.flt := rfl
@[simp] theorem Dev.setFwd_tim (d : Dev) (i : Nat) (x : Fwd) : (d.setFwd i x).tim = d.tim := rfl
@[simp] theorem Dev.setFwd_cap (d : Dev) (i : Nat) (x : Fwd) : (d.setFwd i x).cap = d.cap := rfl
@[simp] theorem Dev.setFwd_cal (d : Dev) (i : Nat) (x : Fwd) : (d.setFwd i x).cal = d.cal := rfl
@[simp] theorem Dev.setFwd_thm (d : Dev) (i : Nat) (x : Fwd) : (d.setFwd i x).thm = d.thm := rfl
@[simp] theorem Dev.setFwd_whl (d : Dev) (i : Nat) (x : Fwd) : (d.setFwd i x).whl = d.whl := rfl
@[simp] theorem Dev.setFwd_fry (d : Dev) (i : Nat) (x : Fwd) : (d.setFwd i x).fry = d.fry := rfl
@[simp] theorem Dev.setFwd_hld (d : Dev) (i : Nat) (x : Fwd) : (d.setFwd i x).hld = d.hld := rfl
@[simp] theorem Dev.setFwd_svy (d : Dev) (i : Nat) (x : Fwd) : (d.setFwd i x).svy = d.svy := rfl
@[simp] theorem Dev.setFwd_rcd (d : Dev) (i : Nat) (x : Fwd) : (d.setFwd i x).rcd = d.rcd := rfl
@[simp] theorem Dev.setFwd_hst (d : Dev) (i : Nat) (x : Fwd) : (d.setFwd i x).hst = d.hst := rfl
@[simp] theorem Dev.setFwd_mtx (d : Dev) (i : Nat) (x : Fwd) : (d.setFwd i x).mtx = d.mtx := rfl
@[simp] theorem Dev.setFwd_rst (d : Dev) (i : Nat) (x : Fwd) : (d.setFwd i x).rst = d.rst := rfl
@[simp] theorem Dev.conv_setConv_self (d : Dev) (i : Nat) (x : Conv) : (d.setConv i x).conv i = x := by simp [Dev.conv, Dev.setConv]
theorem Dev.conv_setConv_of_ne (d : Dev) (i j : Nat) (x : Conv) (h : j ≠ i) : (d.setConv i x).conv j = d.conv j :=
  Tab.get_put_of_ne _ _ _ _ _ _ h
@[simp] theorem Dev.get_setConv (d : Dev) (i : Nat) (x : Conv) (f : Fld) : (d.setConv i x).get f = d.get f := rfl
@[simp] theorem Dev.on_setConv (d : Dev) (i : Nat) (x : Conv) (f : Fld) : (d.setConv i x).on f = d.on f := rfl
@[simp] theorem Dev.setConv_regs (d : Dev) (i : Nat) (x : Conv) : (d.setConv i x).regs = d.regs := rfl
@[simp] theorem Dev.setConv_mt (d : Dev) (i : Nat) (x : Conv) : (d.setConv i x).mt = d.mt := rfl
@[simp] theorem Dev.setConv_tick (d : Dev) (i : Nat) (x : Conv) : (d.setConv i x).tick = d.tick := rfl
@[simp] theorem Dev.setConv_out (d : Dev) (i : Nat) (x : Conv) : (d.setConv i x).out = d.out := rfl
@[simp] theorem Dev.setConv_fresh (d : Dev) (i : Nat) (x : Conv) : (d.setConv i x).fresh = d.fresh := rfl
@[simp] theorem Dev.setConv_acc (d : Dev) (i : Nat) (x : Conv) : (d.setConv i x).acc = d.acc := rfl
@[simp] theorem Dev.setConv_fab (d : Dev) (i : Nat) (x : Conv) : (d.setConv i x).fab = d.fab := rfl
@[simp] theorem Dev.setConv_tk (d : Dev) (i : Nat) (x : Conv) : (d.setConv i x).tk = d.tk := rfl
@[simp] theorem Dev.setConv_cmd (d : Dev) (i : Nat) (x : Conv) : (d.setConv i x).cmd = d.cmd := rfl
@[simp] theorem Dev.setConv_tide (d : Dev) (i : Nat) (x : Conv) : (d.setConv i x).tide = d.tide := rfl
@[simp] theorem Dev.setConv_man (d : Dev) (i : Nat) (x : Conv) : (d.setConv i x).man = d.man := rfl
@[simp] theorem Dev.setConv_tps (d : Dev) (i : Nat) (x : Conv) : (d.setConv i x).tps = d.tps := rfl
@[simp] theorem Dev.setConv_flt (d : Dev) (i : Nat) (x : Conv) : (d.setConv i x).flt = d.flt := rfl
@[simp] theorem Dev.setConv_tim (d : Dev) (i : Nat) (x : Conv) : (d.setConv i x).tim = d.tim := rfl
@[simp] theorem Dev.setConv_cap (d : Dev) (i : Nat) (x : Conv) : (d.setConv i x).cap = d.cap := rfl
@[simp] theorem Dev.setConv_cal (d : Dev) (i : Nat) (x : Conv) : (d.setConv i x).cal = d.cal := rfl
@[simp] theorem Dev.setConv_thm (d : Dev) (i : Nat) (x : Conv) : (d.setConv i x).thm = d.thm := rfl
@[simp] theorem Dev.setConv_whl (d : Dev) (i : Nat) (x : Conv) : (d.setConv i x).whl = d.whl := rfl
@[simp] theorem Dev.setConv_fry (d : Dev) (i : Nat) (x : Conv) : (d.setConv i x).fry = d.fry := rfl
@[simp] theorem Dev.setConv_hld (d : Dev) (i : Nat) (x : Conv) : (d.setConv i x).hld = d.hld := rfl
@[simp] theorem Dev.setConv_rcd (d : Dev) (i : Nat) (x : Conv) : (d.setConv i x).rcd = d.rcd := rfl
@[simp] theorem Dev.setConv_ilk (d : Dev) (i : Nat) (x : Conv) : (d.setConv i x).ilk = d.ilk := rfl
@[simp] theorem Dev.setConv_hst (d : Dev) (i : Nat) (x : Conv) : (d.setConv i x).hst = d.hst := rfl
@[simp] theorem Dev.setConv_mtx (d : Dev) (i : Nat) (x : Conv) : (d.setConv i x).mtx = d.mtx := rfl
@[simp] theorem Dev.setConv_rst (d : Dev) (i : Nat) (x : Conv) : (d.setConv i x).rst = d.rst := rfl
@[simp] theorem Dev.gw_setGw_self (d : Dev) (i : Nat) (x : Gangway) : (d.setGw i x).gw i = x := by simp [Dev.gw, Dev.setGw]
theorem Dev.gw_setGw_of_ne (d : Dev) (i j : Nat) (x : Gangway) (h : j ≠ i) : (d.setGw i x).gw j = d.gw j :=
  Tab.get_put_of_ne _ _ _ _ _ _ h
@[simp] theorem Dev.get_setGw (d : Dev) (i : Nat) (x : Gangway) (f : Fld) : (d.setGw i x).get f = d.get f := rfl
@[simp] theorem Dev.on_setGw (d : Dev) (i : Nat) (x : Gangway) (f : Fld) : (d.setGw i x).on f = d.on f := rfl
@[simp] theorem Dev.setGw_regs (d : Dev) (i : Nat) (x : Gangway) : (d.setGw i x).regs = d.regs := rfl
@[simp] theorem Dev.setGw_mt (d : Dev) (i : Nat) (x : Gangway) : (d.setGw i x).mt = d.mt := rfl
@[simp] theorem Dev.setGw_tick (d : Dev) (i : Nat) (x : Gangway) : (d.setGw i x).tick = d.tick := rfl
@[simp] theorem Dev.setGw_out (d : Dev) (i : Nat) (x : Gangway) : (d.setGw i x).out = d.out := rfl
@[simp] theorem Dev.setGw_fresh (d : Dev) (i : Nat) (x : Gangway) : (d.setGw i x).fresh = d.fresh := rfl
@[simp] theorem Dev.setGw_acc (d : Dev) (i : Nat) (x : Gangway) : (d.setGw i x).acc = d.acc := rfl
@[simp] theorem Dev.setGw_fab (d : Dev) (i : Nat) (x : Gangway) : (d.setGw i x).fab = d.fab := rfl
@[simp] theorem Dev.setGw_tk (d : Dev) (i : Nat) (x : Gangway) : (d.setGw i x).tk = d.tk := rfl
@[simp] theorem Dev.setGw_cmd (d : Dev) (i : Nat) (x : Gangway) : (d.setGw i x).cmd = d.cmd := rfl
@[simp] theorem Dev.setGw_tide (d : Dev) (i : Nat) (x : Gangway) : (d.setGw i x).tide = d.tide := rfl
@[simp] theorem Dev.setGw_man (d : Dev) (i : Nat) (x : Gangway) : (d.setGw i x).man = d.man := rfl
@[simp] theorem Dev.setGw_tps (d : Dev) (i : Nat) (x : Gangway) : (d.setGw i x).tps = d.tps := rfl
@[simp] theorem Dev.setGw_flt (d : Dev) (i : Nat) (x : Gangway) : (d.setGw i x).flt = d.flt := rfl
@[simp] theorem Dev.setGw_tim (d : Dev) (i : Nat) (x : Gangway) : (d.setGw i x).tim = d.tim := rfl
@[simp] theorem Dev.setGw_cap (d : Dev) (i : Nat) (x : Gangway) : (d.setGw i x).cap = d.cap := rfl
@[simp] theorem Dev.setGw_cal (d : Dev) (i : Nat) (x : Gangway) : (d.setGw i x).cal = d.cal := rfl
@[simp] theorem Dev.setGw_thm (d : Dev) (i : Nat) (x : Gangway) : (d.setGw i x).thm = d.thm := rfl
@[simp] theorem Dev.setGw_whl (d : Dev) (i : Nat) (x : Gangway) : (d.setGw i x).whl = d.whl := rfl
@[simp] theorem Dev.setGw_fry (d : Dev) (i : Nat) (x : Gangway) : (d.setGw i x).fry = d.fry := rfl
@[simp] theorem Dev.setGw_hld (d : Dev) (i : Nat) (x : Gangway) : (d.setGw i x).hld = d.hld := rfl
@[simp] theorem Dev.setGw_rcd (d : Dev) (i : Nat) (x : Gangway) : (d.setGw i x).rcd = d.rcd := rfl
@[simp] theorem Dev.setGw_ilk (d : Dev) (i : Nat) (x : Gangway) : (d.setGw i x).ilk = d.ilk := rfl
@[simp] theorem Dev.setGw_hst (d : Dev) (i : Nat) (x : Gangway) : (d.setGw i x).hst = d.hst := rfl
@[simp] theorem Dev.setGw_mtx (d : Dev) (i : Nat) (x : Gangway) : (d.setGw i x).mtx = d.mtx := rfl
@[simp] theorem Dev.setGw_rst (d : Dev) (i : Nat) (x : Gangway) : (d.setGw i x).rst = d.rst := rfl
@[simp] theorem Dev.rcdr_setRcdr_self (d : Dev) (i : Nat) (x : Rec) : (d.setRcdr i x).rcdr i = x := by simp [Dev.rcdr, Dev.setRcdr]
theorem Dev.rcdr_setRcdr_of_ne (d : Dev) (i j : Nat) (x : Rec) (h : j ≠ i) : (d.setRcdr i x).rcdr j = d.rcdr j :=
  Tab.get_put_of_ne _ _ _ _ _ _ h
@[simp] theorem Dev.get_setRcdr (d : Dev) (i : Nat) (x : Rec) (f : Fld) : (d.setRcdr i x).get f = d.get f := rfl
@[simp] theorem Dev.on_setRcdr (d : Dev) (i : Nat) (x : Rec) (f : Fld) : (d.setRcdr i x).on f = d.on f := rfl
@[simp] theorem Dev.setRcdr_regs (d : Dev) (i : Nat) (x : Rec) : (d.setRcdr i x).regs = d.regs := rfl
@[simp] theorem Dev.setRcdr_mt (d : Dev) (i : Nat) (x : Rec) : (d.setRcdr i x).mt = d.mt := rfl
@[simp] theorem Dev.setRcdr_tick (d : Dev) (i : Nat) (x : Rec) : (d.setRcdr i x).tick = d.tick := rfl
@[simp] theorem Dev.setRcdr_out (d : Dev) (i : Nat) (x : Rec) : (d.setRcdr i x).out = d.out := rfl
@[simp] theorem Dev.setRcdr_fresh (d : Dev) (i : Nat) (x : Rec) : (d.setRcdr i x).fresh = d.fresh := rfl
@[simp] theorem Dev.setRcdr_acc (d : Dev) (i : Nat) (x : Rec) : (d.setRcdr i x).acc = d.acc := rfl
@[simp] theorem Dev.setRcdr_fab (d : Dev) (i : Nat) (x : Rec) : (d.setRcdr i x).fab = d.fab := rfl
@[simp] theorem Dev.setRcdr_tk (d : Dev) (i : Nat) (x : Rec) : (d.setRcdr i x).tk = d.tk := rfl
@[simp] theorem Dev.setRcdr_cmd (d : Dev) (i : Nat) (x : Rec) : (d.setRcdr i x).cmd = d.cmd := rfl
@[simp] theorem Dev.setRcdr_tide (d : Dev) (i : Nat) (x : Rec) : (d.setRcdr i x).tide = d.tide := rfl
@[simp] theorem Dev.setRcdr_man (d : Dev) (i : Nat) (x : Rec) : (d.setRcdr i x).man = d.man := rfl
@[simp] theorem Dev.setRcdr_tps (d : Dev) (i : Nat) (x : Rec) : (d.setRcdr i x).tps = d.tps := rfl
@[simp] theorem Dev.setRcdr_flt (d : Dev) (i : Nat) (x : Rec) : (d.setRcdr i x).flt = d.flt := rfl
@[simp] theorem Dev.setRcdr_tim (d : Dev) (i : Nat) (x : Rec) : (d.setRcdr i x).tim = d.tim := rfl
@[simp] theorem Dev.setRcdr_cap (d : Dev) (i : Nat) (x : Rec) : (d.setRcdr i x).cap = d.cap := rfl
@[simp] theorem Dev.setRcdr_cal (d : Dev) (i : Nat) (x : Rec) : (d.setRcdr i x).cal = d.cal := rfl
@[simp] theorem Dev.setRcdr_thm (d : Dev) (i : Nat) (x : Rec) : (d.setRcdr i x).thm = d.thm := rfl
@[simp] theorem Dev.setRcdr_whl (d : Dev) (i : Nat) (x : Rec) : (d.setRcdr i x).whl = d.whl := rfl
@[simp] theorem Dev.setRcdr_fry (d : Dev) (i : Nat) (x : Rec) : (d.setRcdr i x).fry = d.fry := rfl
@[simp] theorem Dev.setRcdr_hld (d : Dev) (i : Nat) (x : Rec) : (d.setRcdr i x).hld = d.hld := rfl
@[simp] theorem Dev.setRcdr_svy (d : Dev) (i : Nat) (x : Rec) : (d.setRcdr i x).svy = d.svy := rfl
@[simp] theorem Dev.setRcdr_ilk (d : Dev) (i : Nat) (x : Rec) : (d.setRcdr i x).ilk = d.ilk := rfl
@[simp] theorem Dev.setRcdr_hst (d : Dev) (i : Nat) (x : Rec) : (d.setRcdr i x).hst = d.hst := rfl
@[simp] theorem Dev.setRcdr_mtx (d : Dev) (i : Nat) (x : Rec) : (d.setRcdr i x).mtx = d.mtx := rfl
@[simp] theorem Dev.setRcdr_rst (d : Dev) (i : Nat) (x : Rec) : (d.setRcdr i x).rst = d.rst := rfl
@[simp] theorem Dev.checker_setChecker_self (d : Dev) (i : Nat) (x : Chk) : (d.setChecker i x).checker i = x := by simp [Dev.checker, Dev.setChecker]
theorem Dev.checker_setChecker_of_ne (d : Dev) (i j : Nat) (x : Chk) (h : j ≠ i) : (d.setChecker i x).checker j = d.checker j :=
  Tab.get_put_of_ne _ _ _ _ _ _ h
@[simp] theorem Dev.get_setChecker (d : Dev) (i : Nat) (x : Chk) (f : Fld) : (d.setChecker i x).get f = d.get f := rfl
@[simp] theorem Dev.on_setChecker (d : Dev) (i : Nat) (x : Chk) (f : Fld) : (d.setChecker i x).on f = d.on f := rfl
@[simp] theorem Dev.setChecker_regs (d : Dev) (i : Nat) (x : Chk) : (d.setChecker i x).regs = d.regs := rfl
@[simp] theorem Dev.setChecker_mt (d : Dev) (i : Nat) (x : Chk) : (d.setChecker i x).mt = d.mt := rfl
@[simp] theorem Dev.setChecker_tick (d : Dev) (i : Nat) (x : Chk) : (d.setChecker i x).tick = d.tick := rfl
@[simp] theorem Dev.setChecker_out (d : Dev) (i : Nat) (x : Chk) : (d.setChecker i x).out = d.out := rfl
@[simp] theorem Dev.setChecker_fresh (d : Dev) (i : Nat) (x : Chk) : (d.setChecker i x).fresh = d.fresh := rfl
@[simp] theorem Dev.setChecker_acc (d : Dev) (i : Nat) (x : Chk) : (d.setChecker i x).acc = d.acc := rfl
@[simp] theorem Dev.setChecker_fab (d : Dev) (i : Nat) (x : Chk) : (d.setChecker i x).fab = d.fab := rfl
@[simp] theorem Dev.setChecker_tk (d : Dev) (i : Nat) (x : Chk) : (d.setChecker i x).tk = d.tk := rfl
@[simp] theorem Dev.setChecker_cmd (d : Dev) (i : Nat) (x : Chk) : (d.setChecker i x).cmd = d.cmd := rfl
@[simp] theorem Dev.setChecker_tide (d : Dev) (i : Nat) (x : Chk) : (d.setChecker i x).tide = d.tide := rfl
@[simp] theorem Dev.setChecker_man (d : Dev) (i : Nat) (x : Chk) : (d.setChecker i x).man = d.man := rfl
@[simp] theorem Dev.setChecker_tps (d : Dev) (i : Nat) (x : Chk) : (d.setChecker i x).tps = d.tps := rfl
@[simp] theorem Dev.setChecker_flt (d : Dev) (i : Nat) (x : Chk) : (d.setChecker i x).flt = d.flt := rfl
@[simp] theorem Dev.setChecker_tim (d : Dev) (i : Nat) (x : Chk) : (d.setChecker i x).tim = d.tim := rfl
@[simp] theorem Dev.setChecker_cap (d : Dev) (i : Nat) (x : Chk) : (d.setChecker i x).cap = d.cap := rfl
@[simp] theorem Dev.setChecker_cal (d : Dev) (i : Nat) (x : Chk) : (d.setChecker i x).cal = d.cal := rfl
@[simp] theorem Dev.setChecker_thm (d : Dev) (i : Nat) (x : Chk) : (d.setChecker i x).thm = d.thm := rfl
@[simp] theorem Dev.setChecker_whl (d : Dev) (i : Nat) (x : Chk) : (d.setChecker i x).whl = d.whl := rfl
@[simp] theorem Dev.setChecker_hld (d : Dev) (i : Nat) (x : Chk) : (d.setChecker i x).hld = d.hld := rfl
@[simp] theorem Dev.setChecker_svy (d : Dev) (i : Nat) (x : Chk) : (d.setChecker i x).svy = d.svy := rfl
@[simp] theorem Dev.setChecker_rcd (d : Dev) (i : Nat) (x : Chk) : (d.setChecker i x).rcd = d.rcd := rfl
@[simp] theorem Dev.setChecker_ilk (d : Dev) (i : Nat) (x : Chk) : (d.setChecker i x).ilk = d.ilk := rfl
@[simp] theorem Dev.setChecker_hst (d : Dev) (i : Nat) (x : Chk) : (d.setChecker i x).hst = d.hst := rfl
@[simp] theorem Dev.setChecker_mtx (d : Dev) (i : Nat) (x : Chk) : (d.setChecker i x).mtx = d.mtx := rfl
@[simp] theorem Dev.setChecker_rst (d : Dev) (i : Nat) (x : Chk) : (d.setChecker i x).rst = d.rst := rfl
@[simp] theorem Dev.fryP_setFryP_self (d : Dev) (i : Nat) (x : FryPort) : (d.setFryP i x).fryP i = x := by simp [Dev.fryP, Dev.setFryP]
theorem Dev.fryP_setFryP_of_ne (d : Dev) (i j : Nat) (x : FryPort) (h : j ≠ i) : (d.setFryP i x).fryP j = d.fryP j :=
  Tab.get_put_of_ne _ _ _ _ _ _ h
@[simp] theorem Dev.get_setFryP (d : Dev) (i : Nat) (x : FryPort) (f : Fld) : (d.setFryP i x).get f = d.get f := rfl
@[simp] theorem Dev.on_setFryP (d : Dev) (i : Nat) (x : FryPort) (f : Fld) : (d.setFryP i x).on f = d.on f := rfl
@[simp] theorem Dev.setFryP_regs (d : Dev) (i : Nat) (x : FryPort) : (d.setFryP i x).regs = d.regs := rfl
@[simp] theorem Dev.setFryP_mt (d : Dev) (i : Nat) (x : FryPort) : (d.setFryP i x).mt = d.mt := rfl
@[simp] theorem Dev.setFryP_tick (d : Dev) (i : Nat) (x : FryPort) : (d.setFryP i x).tick = d.tick := rfl
@[simp] theorem Dev.setFryP_out (d : Dev) (i : Nat) (x : FryPort) : (d.setFryP i x).out = d.out := rfl
@[simp] theorem Dev.setFryP_fresh (d : Dev) (i : Nat) (x : FryPort) : (d.setFryP i x).fresh = d.fresh := rfl
@[simp] theorem Dev.setFryP_acc (d : Dev) (i : Nat) (x : FryPort) : (d.setFryP i x).acc = d.acc := rfl
@[simp] theorem Dev.setFryP_fab (d : Dev) (i : Nat) (x : FryPort) : (d.setFryP i x).fab = d.fab := rfl
@[simp] theorem Dev.setFryP_tk (d : Dev) (i : Nat) (x : FryPort) : (d.setFryP i x).tk = d.tk := rfl
@[simp] theorem Dev.setFryP_cmd (d : Dev) (i : Nat) (x : FryPort) : (d.setFryP i x).cmd = d.cmd := rfl
@[simp] theorem Dev.setFryP_tide (d : Dev) (i : Nat) (x : FryPort) : (d.setFryP i x).tide = d.tide := rfl
@[simp] theorem Dev.setFryP_man (d : Dev) (i : Nat) (x : FryPort) : (d.setFryP i x).man = d.man := rfl
@[simp] theorem Dev.setFryP_tps (d : Dev) (i : Nat) (x : FryPort) : (d.setFryP i x).tps = d.tps := rfl
@[simp] theorem Dev.setFryP_flt (d : Dev) (i : Nat) (x : FryPort) : (d.setFryP i x).flt = d.flt := rfl
@[simp] theorem Dev.setFryP_tim (d : Dev) (i : Nat) (x : FryPort) : (d.setFryP i x).tim = d.tim := rfl
@[simp] theorem Dev.setFryP_cap (d : Dev) (i : Nat) (x : FryPort) : (d.setFryP i x).cap = d.cap := rfl
@[simp] theorem Dev.setFryP_cal (d : Dev) (i : Nat) (x : FryPort) : (d.setFryP i x).cal = d.cal := rfl
@[simp] theorem Dev.setFryP_thm (d : Dev) (i : Nat) (x : FryPort) : (d.setFryP i x).thm = d.thm := rfl
@[simp] theorem Dev.setFryP_whl (d : Dev) (i : Nat) (x : FryPort) : (d.setFryP i x).whl = d.whl := rfl
@[simp] theorem Dev.setFryP_hld (d : Dev) (i : Nat) (x : FryPort) : (d.setFryP i x).hld = d.hld := rfl
@[simp] theorem Dev.setFryP_svy (d : Dev) (i : Nat) (x : FryPort) : (d.setFryP i x).svy = d.svy := rfl
@[simp] theorem Dev.setFryP_rcd (d : Dev) (i : Nat) (x : FryPort) : (d.setFryP i x).rcd = d.rcd := rfl
@[simp] theorem Dev.setFryP_ilk (d : Dev) (i : Nat) (x : FryPort) : (d.setFryP i x).ilk = d.ilk := rfl
@[simp] theorem Dev.setFryP_hst (d : Dev) (i : Nat) (x : FryPort) : (d.setFryP i x).hst = d.hst := rfl
@[simp] theorem Dev.setFryP_mtx (d : Dev) (i : Nat) (x : FryPort) : (d.setFryP i x).mtx = d.mtx := rfl
@[simp] theorem Dev.setFryP_rst (d : Dev) (i : Nat) (x : FryPort) : (d.setFryP i x).rst = d.rst := rfl
@[simp] theorem Dev.loop_setLoop_self (d : Dev) (i : Nat) (x : Loop) : (d.setLoop i x).loop i = x := by simp [Dev.loop, Dev.setLoop]
theorem Dev.loop_setLoop_of_ne (d : Dev) (i j : Nat) (x : Loop) (h : j ≠ i) : (d.setLoop i x).loop j = d.loop j :=
  Tab.get_put_of_ne _ _ _ _ _ _ h
@[simp] theorem Dev.get_setLoop (d : Dev) (i : Nat) (x : Loop) (f : Fld) : (d.setLoop i x).get f = d.get f := rfl
@[simp] theorem Dev.on_setLoop (d : Dev) (i : Nat) (x : Loop) (f : Fld) : (d.setLoop i x).on f = d.on f := rfl
@[simp] theorem Dev.setLoop_regs (d : Dev) (i : Nat) (x : Loop) : (d.setLoop i x).regs = d.regs := rfl
@[simp] theorem Dev.setLoop_mt (d : Dev) (i : Nat) (x : Loop) : (d.setLoop i x).mt = d.mt := rfl
@[simp] theorem Dev.setLoop_tick (d : Dev) (i : Nat) (x : Loop) : (d.setLoop i x).tick = d.tick := rfl
@[simp] theorem Dev.setLoop_out (d : Dev) (i : Nat) (x : Loop) : (d.setLoop i x).out = d.out := rfl
@[simp] theorem Dev.setLoop_fresh (d : Dev) (i : Nat) (x : Loop) : (d.setLoop i x).fresh = d.fresh := rfl
@[simp] theorem Dev.setLoop_acc (d : Dev) (i : Nat) (x : Loop) : (d.setLoop i x).acc = d.acc := rfl
@[simp] theorem Dev.setLoop_fab (d : Dev) (i : Nat) (x : Loop) : (d.setLoop i x).fab = d.fab := rfl
@[simp] theorem Dev.setLoop_tk (d : Dev) (i : Nat) (x : Loop) : (d.setLoop i x).tk = d.tk := rfl
@[simp] theorem Dev.setLoop_cmd (d : Dev) (i : Nat) (x : Loop) : (d.setLoop i x).cmd = d.cmd := rfl
@[simp] theorem Dev.setLoop_tide (d : Dev) (i : Nat) (x : Loop) : (d.setLoop i x).tide = d.tide := rfl
@[simp] theorem Dev.setLoop_man (d : Dev) (i : Nat) (x : Loop) : (d.setLoop i x).man = d.man := rfl
@[simp] theorem Dev.setLoop_tps (d : Dev) (i : Nat) (x : Loop) : (d.setLoop i x).tps = d.tps := rfl
@[simp] theorem Dev.setLoop_flt (d : Dev) (i : Nat) (x : Loop) : (d.setLoop i x).flt = d.flt := rfl
@[simp] theorem Dev.setLoop_tim (d : Dev) (i : Nat) (x : Loop) : (d.setLoop i x).tim = d.tim := rfl
@[simp] theorem Dev.setLoop_cal (d : Dev) (i : Nat) (x : Loop) : (d.setLoop i x).cal = d.cal := rfl
@[simp] theorem Dev.setLoop_thm (d : Dev) (i : Nat) (x : Loop) : (d.setLoop i x).thm = d.thm := rfl
@[simp] theorem Dev.setLoop_whl (d : Dev) (i : Nat) (x : Loop) : (d.setLoop i x).whl = d.whl := rfl
@[simp] theorem Dev.setLoop_fry (d : Dev) (i : Nat) (x : Loop) : (d.setLoop i x).fry = d.fry := rfl
@[simp] theorem Dev.setLoop_hld (d : Dev) (i : Nat) (x : Loop) : (d.setLoop i x).hld = d.hld := rfl
@[simp] theorem Dev.setLoop_svy (d : Dev) (i : Nat) (x : Loop) : (d.setLoop i x).svy = d.svy := rfl
@[simp] theorem Dev.setLoop_rcd (d : Dev) (i : Nat) (x : Loop) : (d.setLoop i x).rcd = d.rcd := rfl
@[simp] theorem Dev.setLoop_ilk (d : Dev) (i : Nat) (x : Loop) : (d.setLoop i x).ilk = d.ilk := rfl
@[simp] theorem Dev.setLoop_hst (d : Dev) (i : Nat) (x : Loop) : (d.setLoop i x).hst = d.hst := rfl
@[simp] theorem Dev.setLoop_mtx (d : Dev) (i : Nat) (x : Loop) : (d.setLoop i x).mtx = d.mtx := rfl
@[simp] theorem Dev.setLoop_rst (d : Dev) (i : Nat) (x : Loop) : (d.setLoop i x).rst = d.rst := rfl
@[simp] theorem Dev.group_setGroup_self (d : Dev) (i : Nat) (x : Group) : (d.setGroup i x).group i = x := by simp [Dev.group, Dev.setGroup]
theorem Dev.group_setGroup_of_ne (d : Dev) (i j : Nat) (x : Group) (h : j ≠ i) : (d.setGroup i x).group j = d.group j :=
  Tab.get_put_of_ne _ _ _ _ _ _ h
@[simp] theorem Dev.get_setGroup (d : Dev) (i : Nat) (x : Group) (f : Fld) : (d.setGroup i x).get f = d.get f := rfl
@[simp] theorem Dev.on_setGroup (d : Dev) (i : Nat) (x : Group) (f : Fld) : (d.setGroup i x).on f = d.on f := rfl
@[simp] theorem Dev.setGroup_regs (d : Dev) (i : Nat) (x : Group) : (d.setGroup i x).regs = d.regs := rfl
@[simp] theorem Dev.setGroup_mt (d : Dev) (i : Nat) (x : Group) : (d.setGroup i x).mt = d.mt := rfl
@[simp] theorem Dev.setGroup_tick (d : Dev) (i : Nat) (x : Group) : (d.setGroup i x).tick = d.tick := rfl
@[simp] theorem Dev.setGroup_out (d : Dev) (i : Nat) (x : Group) : (d.setGroup i x).out = d.out := rfl
@[simp] theorem Dev.setGroup_fresh (d : Dev) (i : Nat) (x : Group) : (d.setGroup i x).fresh = d.fresh := rfl
@[simp] theorem Dev.setGroup_acc (d : Dev) (i : Nat) (x : Group) : (d.setGroup i x).acc = d.acc := rfl
@[simp] theorem Dev.setGroup_fab (d : Dev) (i : Nat) (x : Group) : (d.setGroup i x).fab = d.fab := rfl
@[simp] theorem Dev.setGroup_tk (d : Dev) (i : Nat) (x : Group) : (d.setGroup i x).tk = d.tk := rfl
@[simp] theorem Dev.setGroup_cmd (d : Dev) (i : Nat) (x : Group) : (d.setGroup i x).cmd = d.cmd := rfl
@[simp] theorem Dev.setGroup_tide (d : Dev) (i : Nat) (x : Group) : (d.setGroup i x).tide = d.tide := rfl
@[simp] theorem Dev.setGroup_man (d : Dev) (i : Nat) (x : Group) : (d.setGroup i x).man = d.man := rfl
@[simp] theorem Dev.setGroup_tps (d : Dev) (i : Nat) (x : Group) : (d.setGroup i x).tps = d.tps := rfl
@[simp] theorem Dev.setGroup_flt (d : Dev) (i : Nat) (x : Group) : (d.setGroup i x).flt = d.flt := rfl
@[simp] theorem Dev.setGroup_tim (d : Dev) (i : Nat) (x : Group) : (d.setGroup i x).tim = d.tim := rfl
@[simp] theorem Dev.setGroup_cal (d : Dev) (i : Nat) (x : Group) : (d.setGroup i x).cal = d.cal := rfl
@[simp] theorem Dev.setGroup_thm (d : Dev) (i : Nat) (x : Group) : (d.setGroup i x).thm = d.thm := rfl
@[simp] theorem Dev.setGroup_whl (d : Dev) (i : Nat) (x : Group) : (d.setGroup i x).whl = d.whl := rfl
@[simp] theorem Dev.setGroup_fry (d : Dev) (i : Nat) (x : Group) : (d.setGroup i x).fry = d.fry := rfl
@[simp] theorem Dev.setGroup_hld (d : Dev) (i : Nat) (x : Group) : (d.setGroup i x).hld = d.hld := rfl
@[simp] theorem Dev.setGroup_svy (d : Dev) (i : Nat) (x : Group) : (d.setGroup i x).svy = d.svy := rfl
@[simp] theorem Dev.setGroup_rcd (d : Dev) (i : Nat) (x : Group) : (d.setGroup i x).rcd = d.rcd := rfl
@[simp] theorem Dev.setGroup_ilk (d : Dev) (i : Nat) (x : Group) : (d.setGroup i x).ilk = d.ilk := rfl
@[simp] theorem Dev.setGroup_hst (d : Dev) (i : Nat) (x : Group) : (d.setGroup i x).hst = d.hst := rfl
@[simp] theorem Dev.setGroup_mtx (d : Dev) (i : Nat) (x : Group) : (d.setGroup i x).mtx = d.mtx := rfl
@[simp] theorem Dev.setGroup_rst (d : Dev) (i : Nat) (x : Group) : (d.setGroup i x).rst = d.rst := rfl
@[simp] theorem Dev.adc_setAdc_self (d : Dev) (i : Nat) (x : Adc) : (d.setAdc i x).adc i = x := by simp [Dev.adc, Dev.setAdc]
theorem Dev.adc_setAdc_of_ne (d : Dev) (i j : Nat) (x : Adc) (h : j ≠ i) : (d.setAdc i x).adc j = d.adc j :=
  Tab.get_put_of_ne _ _ _ _ _ _ h
@[simp] theorem Dev.get_setAdc (d : Dev) (i : Nat) (x : Adc) (f : Fld) : (d.setAdc i x).get f = d.get f := rfl
@[simp] theorem Dev.on_setAdc (d : Dev) (i : Nat) (x : Adc) (f : Fld) : (d.setAdc i x).on f = d.on f := rfl
@[simp] theorem Dev.setAdc_regs (d : Dev) (i : Nat) (x : Adc) : (d.setAdc i x).regs = d.regs := rfl
@[simp] theorem Dev.setAdc_mt (d : Dev) (i : Nat) (x : Adc) : (d.setAdc i x).mt = d.mt := rfl
@[simp] theorem Dev.setAdc_tick (d : Dev) (i : Nat) (x : Adc) : (d.setAdc i x).tick = d.tick := rfl
@[simp] theorem Dev.setAdc_out (d : Dev) (i : Nat) (x : Adc) : (d.setAdc i x).out = d.out := rfl
@[simp] theorem Dev.setAdc_fresh (d : Dev) (i : Nat) (x : Adc) : (d.setAdc i x).fresh = d.fresh := rfl
@[simp] theorem Dev.setAdc_acc (d : Dev) (i : Nat) (x : Adc) : (d.setAdc i x).acc = d.acc := rfl
@[simp] theorem Dev.setAdc_fab (d : Dev) (i : Nat) (x : Adc) : (d.setAdc i x).fab = d.fab := rfl
@[simp] theorem Dev.setAdc_tk (d : Dev) (i : Nat) (x : Adc) : (d.setAdc i x).tk = d.tk := rfl
@[simp] theorem Dev.setAdc_cmd (d : Dev) (i : Nat) (x : Adc) : (d.setAdc i x).cmd = d.cmd := rfl
@[simp] theorem Dev.setAdc_tide (d : Dev) (i : Nat) (x : Adc) : (d.setAdc i x).tide = d.tide := rfl
@[simp] theorem Dev.setAdc_man (d : Dev) (i : Nat) (x : Adc) : (d.setAdc i x).man = d.man := rfl
@[simp] theorem Dev.setAdc_tps (d : Dev) (i : Nat) (x : Adc) : (d.setAdc i x).tps = d.tps := rfl
@[simp] theorem Dev.setAdc_flt (d : Dev) (i : Nat) (x : Adc) : (d.setAdc i x).flt = d.flt := rfl
@[simp] theorem Dev.setAdc_tim (d : Dev) (i : Nat) (x : Adc) : (d.setAdc i x).tim = d.tim := rfl
@[simp] theorem Dev.setAdc_cap (d : Dev) (i : Nat) (x : Adc) : (d.setAdc i x).cap = d.cap := rfl
@[simp] theorem Dev.setAdc_thm (d : Dev) (i : Nat) (x : Adc) : (d.setAdc i x).thm = d.thm := rfl
@[simp] theorem Dev.setAdc_whl (d : Dev) (i : Nat) (x : Adc) : (d.setAdc i x).whl = d.whl := rfl
@[simp] theorem Dev.setAdc_fry (d : Dev) (i : Nat) (x : Adc) : (d.setAdc i x).fry = d.fry := rfl
@[simp] theorem Dev.setAdc_hld (d : Dev) (i : Nat) (x : Adc) : (d.setAdc i x).hld = d.hld := rfl
@[simp] theorem Dev.setAdc_svy (d : Dev) (i : Nat) (x : Adc) : (d.setAdc i x).svy = d.svy := rfl
@[simp] theorem Dev.setAdc_rcd (d : Dev) (i : Nat) (x : Adc) : (d.setAdc i x).rcd = d.rcd := rfl
@[simp] theorem Dev.setAdc_ilk (d : Dev) (i : Nat) (x : Adc) : (d.setAdc i x).ilk = d.ilk := rfl
@[simp] theorem Dev.setAdc_hst (d : Dev) (i : Nat) (x : Adc) : (d.setAdc i x).hst = d.hst := rfl
@[simp] theorem Dev.setAdc_mtx (d : Dev) (i : Nat) (x : Adc) : (d.setAdc i x).mtx = d.mtx := rfl
@[simp] theorem Dev.setAdc_rst (d : Dev) (i : Nat) (x : Adc) : (d.setAdc i x).rst = d.rst := rfl
@[simp] theorem Dev.probeCor_setProbeCor_self (d : Dev) (i : Nat) (x : ProbeCor) : (d.setProbeCor i x).probeCor i = x := by simp [Dev.probeCor, Dev.setProbeCor]
theorem Dev.probeCor_setProbeCor_of_ne (d : Dev) (i j : Nat) (x : ProbeCor) (h : j ≠ i) : (d.setProbeCor i x).probeCor j = d.probeCor j :=
  Tab.get_put_of_ne _ _ _ _ _ _ h
@[simp] theorem Dev.get_setProbeCor (d : Dev) (i : Nat) (x : ProbeCor) (f : Fld) : (d.setProbeCor i x).get f = d.get f := rfl
@[simp] theorem Dev.on_setProbeCor (d : Dev) (i : Nat) (x : ProbeCor) (f : Fld) : (d.setProbeCor i x).on f = d.on f := rfl
@[simp] theorem Dev.setProbeCor_regs (d : Dev) (i : Nat) (x : ProbeCor) : (d.setProbeCor i x).regs = d.regs := rfl
@[simp] theorem Dev.setProbeCor_mt (d : Dev) (i : Nat) (x : ProbeCor) : (d.setProbeCor i x).mt = d.mt := rfl
@[simp] theorem Dev.setProbeCor_tick (d : Dev) (i : Nat) (x : ProbeCor) : (d.setProbeCor i x).tick = d.tick := rfl
@[simp] theorem Dev.setProbeCor_out (d : Dev) (i : Nat) (x : ProbeCor) : (d.setProbeCor i x).out = d.out := rfl
@[simp] theorem Dev.setProbeCor_fresh (d : Dev) (i : Nat) (x : ProbeCor) : (d.setProbeCor i x).fresh = d.fresh := rfl
@[simp] theorem Dev.setProbeCor_acc (d : Dev) (i : Nat) (x : ProbeCor) : (d.setProbeCor i x).acc = d.acc := rfl
@[simp] theorem Dev.setProbeCor_fab (d : Dev) (i : Nat) (x : ProbeCor) : (d.setProbeCor i x).fab = d.fab := rfl
@[simp] theorem Dev.setProbeCor_tk (d : Dev) (i : Nat) (x : ProbeCor) : (d.setProbeCor i x).tk = d.tk := rfl
@[simp] theorem Dev.setProbeCor_cmd (d : Dev) (i : Nat) (x : ProbeCor) : (d.setProbeCor i x).cmd = d.cmd := rfl
@[simp] theorem Dev.setProbeCor_tide (d : Dev) (i : Nat) (x : ProbeCor) : (d.setProbeCor i x).tide = d.tide := rfl
@[simp] theorem Dev.setProbeCor_man (d : Dev) (i : Nat) (x : ProbeCor) : (d.setProbeCor i x).man = d.man := rfl
@[simp] theorem Dev.setProbeCor_tps (d : Dev) (i : Nat) (x : ProbeCor) : (d.setProbeCor i x).tps = d.tps := rfl
@[simp] theorem Dev.setProbeCor_flt (d : Dev) (i : Nat) (x : ProbeCor) : (d.setProbeCor i x).flt = d.flt := rfl
@[simp] theorem Dev.setProbeCor_tim (d : Dev) (i : Nat) (x : ProbeCor) : (d.setProbeCor i x).tim = d.tim := rfl
@[simp] theorem Dev.setProbeCor_cap (d : Dev) (i : Nat) (x : ProbeCor) : (d.setProbeCor i x).cap = d.cap := rfl
@[simp] theorem Dev.setProbeCor_thm (d : Dev) (i : Nat) (x : ProbeCor) : (d.setProbeCor i x).thm = d.thm := rfl
@[simp] theorem Dev.setProbeCor_whl (d : Dev) (i : Nat) (x : ProbeCor) : (d.setProbeCor i x).whl = d.whl := rfl
@[simp] theorem Dev.setProbeCor_fry (d : Dev) (i : Nat) (x : ProbeCor) : (d.setProbeCor i x).fry = d.fry := rfl
@[simp] theorem Dev.setProbeCor_hld (d : Dev) (i : Nat) (x : ProbeCor) : (d.setProbeCor i x).hld = d.hld := rfl
@[simp] theorem Dev.setProbeCor_svy (d : Dev) (i : Nat) (x : ProbeCor) : (d.setProbeCor i x).svy = d.svy := rfl
@[simp] theorem Dev.setProbeCor_rcd (d : Dev) (i : Nat) (x : ProbeCor) : (d.setProbeCor i x).rcd = d.rcd := rfl
@[simp] theorem Dev.setProbeCor_ilk (d : Dev) (i : Nat) (x : ProbeCor) : (d.setProbeCor i x).ilk = d.ilk := rfl
@[simp] theorem Dev.setProbeCor_hst (d : Dev) (i : Nat) (x : ProbeCor) : (d.setProbeCor i x).hst = d.hst := rfl
@[simp] theorem Dev.setProbeCor_mtx (d : Dev) (i : Nat) (x : ProbeCor) : (d.setProbeCor i x).mtx = d.mtx := rfl
@[simp] theorem Dev.setProbeCor_rst (d : Dev) (i : Nat) (x : ProbeCor) : (d.setProbeCor i x).rst = d.rst := rfl
@[simp] theorem Dev.ff_setFF_self (d : Dev) (i : Nat) (x : FF) : (d.setFF i x).ff i = x := by simp [Dev.ff, Dev.setFF]
theorem Dev.ff_setFF_of_ne (d : Dev) (i j : Nat) (x : FF) (h : j ≠ i) : (d.setFF i x).ff j = d.ff j :=
  Tab.get_put_of_ne _ _ _ _ _ _ h
@[simp] theorem Dev.get_setFF (d : Dev) (i : Nat) (x : FF) (f : Fld) : (d.setFF i x).get f = d.get f := rfl
@[simp] theorem Dev.on_setFF (d : Dev) (i : Nat) (x : FF) (f : Fld) : (d.setFF i x).on f = d.on f := rfl
@[simp] theorem Dev.setFF_regs (d : Dev) (i : Nat) (x : FF) : (d.setFF i x).regs = d.regs := rfl
@[simp] theorem Dev.setFF_mt (d : Dev) (i : Nat) (x : FF) : (d.setFF i x).mt = d.mt := rfl
@[simp] theorem Dev.setFF_tick (d : Dev) (i : Nat) (x : FF) : (d.setFF i x).tick = d.tick := rfl
@[simp] theorem Dev.setFF_out (d : Dev) (i : Nat) (x : FF) : (d.setFF i x).out = d.out := rfl
@[simp] theorem Dev.setFF_fresh (d : Dev) (i : Nat) (x : FF) : (d.setFF i x).fresh = d.fresh := rfl
@[simp] theorem Dev.setFF_acc (d : Dev) (i : Nat) (x : FF) : (d.setFF i x).acc = d.acc := rfl
@[simp] theorem Dev.setFF_fab (d : Dev) (i : Nat) (x : FF) : (d.setFF i x).fab = d.fab := rfl
@[simp] theorem Dev.setFF_tk (d : Dev) (i : Nat) (x : FF) : (d.setFF i x).tk = d.tk := rfl
@[simp] theorem Dev.setFF_cmd (d : Dev) (i : Nat) (x : FF) : (d.setFF i x).cmd = d.cmd := rfl
@[simp] theorem Dev.setFF_tide (d : Dev) (i : Nat) (x : FF) : (d.setFF i x).tide = d.tide := rfl
@[simp] theorem Dev.setFF_man (d : Dev) (i : Nat) (x : FF) : (d.setFF i x).man = d.man := rfl
@[simp] theorem Dev.setFF_tps (d : Dev) (i : Nat) (x : FF) : (d.setFF i x).tps = d.tps := rfl
@[simp] theorem Dev.setFF_flt (d : Dev) (i : Nat) (x : FF) : (d.setFF i x).flt = d.flt := rfl
@[simp] theorem Dev.setFF_tim (d : Dev) (i : Nat) (x : FF) : (d.setFF i x).tim = d.tim := rfl
@[simp] theorem Dev.setFF_cap (d : Dev) (i : Nat) (x : FF) : (d.setFF i x).cap = d.cap := rfl
@[simp] theorem Dev.setFF_thm (d : Dev) (i : Nat) (x : FF) : (d.setFF i x).thm = d.thm := rfl
@[simp] theorem Dev.setFF_whl (d : Dev) (i : Nat) (x : FF) : (d.setFF i x).whl = d.whl := rfl
@[simp] theorem Dev.setFF_fry (d : Dev) (i : Nat) (x : FF) : (d.setFF i x).fry = d.fry := rfl
@[simp] theorem Dev.setFF_hld (d : Dev) (i : Nat) (x : FF) : (d.setFF i x).hld = d.hld := rfl
@[simp] theorem Dev.setFF_svy (d : Dev) (i : Nat) (x : FF) : (d.setFF i x).svy = d.svy := rfl
@[simp] theorem Dev.setFF_rcd (d : Dev) (i : Nat) (x : FF) : (d.setFF i x).rcd = d.rcd := rfl
@[simp] theorem Dev.setFF_ilk (d : Dev) (i : Nat) (x : FF) : (d.setFF i x).ilk = d.ilk := rfl
@[simp] theorem Dev.setFF_hst (d : Dev) (i : Nat) (x : FF) : (d.setFF i x).hst = d.hst := rfl
@[simp] theorem Dev.setFF_mtx (d : Dev) (i : Nat) (x : FF) : (d.setFF i x).mtx = d.mtx := rfl
@[simp] theorem Dev.setFF_rst (d : Dev) (i : Nat) (x : FF) : (d.setFF i x).rst = d.rst := rfl
@[simp] theorem Dev.tref_setTref_self (d : Dev) (i : Nat) (x : Int) : (d.setTref i x).tref i = x := by simp [Dev.tref, Dev.setTref]
theorem Dev.tref_setTref_of_ne (d : Dev) (i j : Nat) (x : Int) (h : j ≠ i) : (d.setTref i x).tref j = d.tref j :=
  Tab.get_put_of_ne _ _ _ _ _ _ h
@[simp] theorem Dev.get_setTref (d : Dev) (i : Nat) (x : Int) (f : Fld) : (d.setTref i x).get f = d.get f := rfl
@[simp] theorem Dev.on_setTref (d : Dev) (i : Nat) (x : Int) (f : Fld) : (d.setTref i x).on f = d.on f := rfl
@[simp] theorem Dev.setTref_regs (d : Dev) (i : Nat) (x : Int) : (d.setTref i x).regs = d.regs := rfl
@[simp] theorem Dev.setTref_mt (d : Dev) (i : Nat) (x : Int) : (d.setTref i x).mt = d.mt := rfl
@[simp] theorem Dev.setTref_tick (d : Dev) (i : Nat) (x : Int) : (d.setTref i x).tick = d.tick := rfl
@[simp] theorem Dev.setTref_out (d : Dev) (i : Nat) (x : Int) : (d.setTref i x).out = d.out := rfl
@[simp] theorem Dev.setTref_fresh (d : Dev) (i : Nat) (x : Int) : (d.setTref i x).fresh = d.fresh := rfl
@[simp] theorem Dev.setTref_acc (d : Dev) (i : Nat) (x : Int) : (d.setTref i x).acc = d.acc := rfl
@[simp] theorem Dev.setTref_fab (d : Dev) (i : Nat) (x : Int) : (d.setTref i x).fab = d.fab := rfl
@[simp] theorem Dev.setTref_tk (d : Dev) (i : Nat) (x : Int) : (d.setTref i x).tk = d.tk := rfl
@[simp] theorem Dev.setTref_cmd (d : Dev) (i : Nat) (x : Int) : (d.setTref i x).cmd = d.cmd := rfl
@[simp] theorem Dev.setTref_tide (d : Dev) (i : Nat) (x : Int) : (d.setTref i x).tide = d.tide := rfl
@[simp] theorem Dev.setTref_man (d : Dev) (i : Nat) (x : Int) : (d.setTref i x).man = d.man := rfl
@[simp] theorem Dev.setTref_tps (d : Dev) (i : Nat) (x : Int) : (d.setTref i x).tps = d.tps := rfl
@[simp] theorem Dev.setTref_flt (d : Dev) (i : Nat) (x : Int) : (d.setTref i x).flt = d.flt := rfl
@[simp] theorem Dev.setTref_tim (d : Dev) (i : Nat) (x : Int) : (d.setTref i x).tim = d.tim := rfl
@[simp] theorem Dev.setTref_cap (d : Dev) (i : Nat) (x : Int) : (d.setTref i x).cap = d.cap := rfl
@[simp] theorem Dev.setTref_thm (d : Dev) (i : Nat) (x : Int) : (d.setTref i x).thm = d.thm := rfl
@[simp] theorem Dev.setTref_whl (d : Dev) (i : Nat) (x : Int) : (d.setTref i x).whl = d.whl := rfl
@[simp] theorem Dev.setTref_fry (d : Dev) (i : Nat) (x : Int) : (d.setTref i x).fry = d.fry := rfl
@[simp] theorem Dev.setTref_hld (d : Dev) (i : Nat) (x : Int) : (d.setTref i x).hld = d.hld := rfl
@[simp] theorem Dev.setTref_svy (d : Dev) (i : Nat) (x : Int) : (d.setTref i x).svy = d.svy := rfl
@[simp] theorem Dev.setTref_rcd (d : Dev) (i : Nat) (x : Int) : (d.setTref i x).rcd = d.rcd := rfl
@[simp] theorem Dev.setTref_ilk (d : Dev) (i : Nat) (x : Int) : (d.setTref i x).ilk = d.ilk := rfl
@[simp] theorem Dev.setTref_hst (d : Dev) (i : Nat) (x : Int) : (d.setTref i x).hst = d.hst := rfl
@[simp] theorem Dev.setTref_mtx (d : Dev) (i : Nat) (x : Int) : (d.setTref i x).mtx = d.mtx := rfl
@[simp] theorem Dev.setTref_rst (d : Dev) (i : Nat) (x : Int) : (d.setTref i x).rst = d.rst := rfl
@[simp] theorem Dev.trig_setTrig_self (d : Dev) (i : Nat) (x : Int) : (d.setTrig i x).trig i = x := by simp [Dev.trig, Dev.setTrig]
theorem Dev.trig_setTrig_of_ne (d : Dev) (i j : Nat) (x : Int) (h : j ≠ i) : (d.setTrig i x).trig j = d.trig j :=
  Tab.get_put_of_ne _ _ _ _ _ _ h
@[simp] theorem Dev.get_setTrig (d : Dev) (i : Nat) (x : Int) (f : Fld) : (d.setTrig i x).get f = d.get f := rfl
@[simp] theorem Dev.on_setTrig (d : Dev) (i : Nat) (x : Int) (f : Fld) : (d.setTrig i x).on f = d.on f := rfl
@[simp] theorem Dev.setTrig_regs (d : Dev) (i : Nat) (x : Int) : (d.setTrig i x).regs = d.regs := rfl
@[simp] theorem Dev.setTrig_mt (d : Dev) (i : Nat) (x : Int) : (d.setTrig i x).mt = d.mt := rfl
@[simp] theorem Dev.setTrig_tick (d : Dev) (i : Nat) (x : Int) : (d.setTrig i x).tick = d.tick := rfl
@[simp] theorem Dev.setTrig_out (d : Dev) (i : Nat) (x : Int) : (d.setTrig i x).out = d.out := rfl
@[simp] theorem Dev.setTrig_fresh (d : Dev) (i : Nat) (x : Int) : (d.setTrig i x).fresh = d.fresh := rfl
@[simp] theorem Dev.setTrig_acc (d : Dev) (i : Nat) (x : Int) : (d.setTrig i x).acc = d.acc := rfl
@[simp] theorem Dev.setTrig_fab (d : Dev) (i : Nat) (x : Int) : (d.setTrig i x).fab = d.fab := rfl
@[simp] theorem Dev.setTrig_tk (d : Dev) (i : Nat) (x : Int) : (d.setTrig i x).tk = d.tk := rfl
@[simp] theorem Dev.setTrig_cmd (d : Dev) (i : Nat) (x : Int) : (d.setTrig i x).cmd = d.cmd := rfl
@[simp] theorem Dev.setTrig_tide (d : Dev) (i : Nat) (x : Int) : (d.setTrig i x).tide = d.tide := rfl
@[simp] theorem Dev.setTrig_man (d : Dev) (i : Nat) (x : Int) : (d.setTrig i x).man = d.man := rfl
@[simp] theorem Dev.setTrig_tps (d : Dev) (i : Nat) (x : Int) : (d.setTrig i x).tps = d.tps := rfl
@[simp] theorem Dev.setTrig_flt (d : Dev) (i : Nat) (x : Int) : (d.setTrig i x).flt = d.flt := rfl
@[simp] theorem Dev.setTrig_tim (d : Dev) (i : Nat) (x : Int) : (d.setTrig i x).tim = d.tim := rfl
@[simp] theorem Dev.setTrig_cap (d : Dev) (i : Nat) (x : Int) : (d.setTrig i x).cap = d.cap := rfl
@[simp] theorem Dev.setTrig_thm (d : Dev) (i : Nat) (x : Int) : (d.setTrig i x).thm = d.thm := rfl
@[simp] theorem Dev.setTrig_whl (d : Dev) (i : Nat) (x : Int) : (d.setTrig i x).whl = d.whl := rfl
@[simp] theorem Dev.setTrig_fry (d : Dev) (i : Nat) (x : Int) : (d.setTrig i x).fry = d.fry := rfl
@[simp] theorem Dev.setTrig_hld (d : Dev) (i : Nat) (x : Int) : (d.setTrig i x).hld = d.hld := rfl
@[simp] theorem Dev.setTrig_svy (d : Dev) (i : Nat) (x : Int) : (d.setTrig i x).svy = d.svy := rfl
@[simp] theorem Dev.setTrig_rcd (d : Dev) (i : Nat) (x : Int) : (d.setTrig i x).rcd = d.rcd := rfl
@[simp] theorem Dev.setTrig_ilk (d : Dev) (i : Nat) (x : Int) : (d.setTrig i x).ilk = d.ilk := rfl
@[simp] theorem Dev.setTrig_hst (d : Dev) (i : Nat) (x : Int) : (d.setTrig i x).hst = d.hst := rfl
@[simp] theorem Dev.setTrig_mtx (d : Dev) (i : Nat) (x : Int) : (d.setTrig i x).mtx = d.mtx := rfl
@[simp] theorem Dev.setTrig_rst (d : Dev) (i : Nat) (x : Int) : (d.setTrig i x).rst = d.rst := rfl
@[simp] theorem Dev.reachRun_setReachRun_self (d : Dev) (i : Nat) (x : ReachRun) : (d.setReachRun i x).reachRun i = x := by simp [Dev.reachRun, Dev.setReachRun]
theorem Dev.reachRun_setReachRun_of_ne (d : Dev) (i j : Nat) (x : ReachRun) (h : j ≠ i) : (d.setReachRun i x).reachRun j = d.reachRun j :=
  Tab.get_put_of_ne _ _ _ _ _ _ h
@[simp] theorem Dev.get_setReachRun (d : Dev) (i : Nat) (x : ReachRun) (f : Fld) : (d.setReachRun i x).get f = d.get f := rfl
@[simp] theorem Dev.on_setReachRun (d : Dev) (i : Nat) (x : ReachRun) (f : Fld) : (d.setReachRun i x).on f = d.on f := rfl
@[simp] theorem Dev.setReachRun_regs (d : Dev) (i : Nat) (x : ReachRun) : (d.setReachRun i x).regs = d.regs := rfl
@[simp] theorem Dev.setReachRun_mt (d : Dev) (i : Nat) (x : ReachRun) : (d.setReachRun i x).mt = d.mt := rfl
@[simp] theorem Dev.setReachRun_tick (d : Dev) (i : Nat) (x : ReachRun) : (d.setReachRun i x).tick = d.tick := rfl
@[simp] theorem Dev.setReachRun_out (d : Dev) (i : Nat) (x : ReachRun) : (d.setReachRun i x).out = d.out := rfl
@[simp] theorem Dev.setReachRun_fresh (d : Dev) (i : Nat) (x : ReachRun) : (d.setReachRun i x).fresh = d.fresh := rfl
@[simp] theorem Dev.setReachRun_acc (d : Dev) (i : Nat) (x : ReachRun) : (d.setReachRun i x).acc = d.acc := rfl
@[simp] theorem Dev.setReachRun_fab (d : Dev) (i : Nat) (x : ReachRun) : (d.setReachRun i x).fab = d.fab := rfl
@[simp] theorem Dev.setReachRun_tk (d : Dev) (i : Nat) (x : ReachRun) : (d.setReachRun i x).tk = d.tk := rfl
@[simp] theorem Dev.setReachRun_cmd (d : Dev) (i : Nat) (x : ReachRun) : (d.setReachRun i x).cmd = d.cmd := rfl
@[simp] theorem Dev.setReachRun_tide (d : Dev) (i : Nat) (x : ReachRun) : (d.setReachRun i x).tide = d.tide := rfl
@[simp] theorem Dev.setReachRun_man (d : Dev) (i : Nat) (x : ReachRun) : (d.setReachRun i x).man = d.man := rfl
@[simp] theorem Dev.setReachRun_tps (d : Dev) (i : Nat) (x : ReachRun) : (d.setReachRun i x).tps = d.tps := rfl
@[simp] theorem Dev.setReachRun_flt (d : Dev) (i : Nat) (x : ReachRun) : (d.setReachRun i x).flt = d.flt := rfl
@[simp] theorem Dev.setReachRun_tim (d : Dev) (i : Nat) (x : ReachRun) : (d.setReachRun i x).tim = d.tim := rfl
@[simp] theorem Dev.setReachRun_cap (d : Dev) (i : Nat) (x : ReachRun) : (d.setReachRun i x).cap = d.cap := rfl
@[simp] theorem Dev.setReachRun_thm (d : Dev) (i : Nat) (x : ReachRun) : (d.setReachRun i x).thm = d.thm := rfl
@[simp] theorem Dev.setReachRun_whl (d : Dev) (i : Nat) (x : ReachRun) : (d.setReachRun i x).whl = d.whl := rfl
@[simp] theorem Dev.setReachRun_fry (d : Dev) (i : Nat) (x : ReachRun) : (d.setReachRun i x).fry = d.fry := rfl
@[simp] theorem Dev.setReachRun_hld (d : Dev) (i : Nat) (x : ReachRun) : (d.setReachRun i x).hld = d.hld := rfl
@[simp] theorem Dev.setReachRun_svy (d : Dev) (i : Nat) (x : ReachRun) : (d.setReachRun i x).svy = d.svy := rfl
@[simp] theorem Dev.setReachRun_rcd (d : Dev) (i : Nat) (x : ReachRun) : (d.setReachRun i x).rcd = d.rcd := rfl
@[simp] theorem Dev.setReachRun_ilk (d : Dev) (i : Nat) (x : ReachRun) : (d.setReachRun i x).ilk = d.ilk := rfl
@[simp] theorem Dev.setReachRun_hst (d : Dev) (i : Nat) (x : ReachRun) : (d.setReachRun i x).hst = d.hst := rfl
@[simp] theorem Dev.setReachRun_mtx (d : Dev) (i : Nat) (x : ReachRun) : (d.setReachRun i x).mtx = d.mtx := rfl
@[simp] theorem Dev.setReachRun_rst (d : Dev) (i : Nat) (x : ReachRun) : (d.setReachRun i x).rst = d.rst := rfl
@[simp] theorem Dev.wh_setWh_self (d : Dev) (i : Nat) (x : Whl) : (d.setWh i x).wh i = x := by simp [Dev.wh, Dev.setWh]
theorem Dev.wh_setWh_of_ne (d : Dev) (i j : Nat) (x : Whl) (h : j ≠ i) : (d.setWh i x).wh j = d.wh j :=
  Tab.get_put_of_ne _ _ _ _ _ _ h
@[simp] theorem Dev.get_setWh (d : Dev) (i : Nat) (x : Whl) (f : Fld) : (d.setWh i x).get f = d.get f := rfl
@[simp] theorem Dev.on_setWh (d : Dev) (i : Nat) (x : Whl) (f : Fld) : (d.setWh i x).on f = d.on f := rfl
@[simp] theorem Dev.setWh_regs (d : Dev) (i : Nat) (x : Whl) : (d.setWh i x).regs = d.regs := rfl
@[simp] theorem Dev.setWh_mt (d : Dev) (i : Nat) (x : Whl) : (d.setWh i x).mt = d.mt := rfl
@[simp] theorem Dev.setWh_tick (d : Dev) (i : Nat) (x : Whl) : (d.setWh i x).tick = d.tick := rfl
@[simp] theorem Dev.setWh_out (d : Dev) (i : Nat) (x : Whl) : (d.setWh i x).out = d.out := rfl
@[simp] theorem Dev.setWh_fresh (d : Dev) (i : Nat) (x : Whl) : (d.setWh i x).fresh = d.fresh := rfl
@[simp] theorem Dev.setWh_acc (d : Dev) (i : Nat) (x : Whl) : (d.setWh i x).acc = d.acc := rfl
@[simp] theorem Dev.setWh_fab (d : Dev) (i : Nat) (x : Whl) : (d.setWh i x).fab = d.fab := rfl
@[simp] theorem Dev.setWh_tk (d : Dev) (i : Nat) (x : Whl) : (d.setWh i x).tk = d.tk := rfl
@[simp] theorem Dev.setWh_cmd (d : Dev) (i : Nat) (x : Whl) : (d.setWh i x).cmd = d.cmd := rfl
@[simp] theorem Dev.setWh_tide (d : Dev) (i : Nat) (x : Whl) : (d.setWh i x).tide = d.tide := rfl
@[simp] theorem Dev.setWh_man (d : Dev) (i : Nat) (x : Whl) : (d.setWh i x).man = d.man := rfl
@[simp] theorem Dev.setWh_tps (d : Dev) (i : Nat) (x : Whl) : (d.setWh i x).tps = d.tps := rfl
@[simp] theorem Dev.setWh_flt (d : Dev) (i : Nat) (x : Whl) : (d.setWh i x).flt = d.flt := rfl
@[simp] theorem Dev.setWh_tim (d : Dev) (i : Nat) (x : Whl) : (d.setWh i x).tim = d.tim := rfl
@[simp] theorem Dev.setWh_cap (d : Dev) (i : Nat) (x : Whl) : (d.setWh i x).cap = d.cap := rfl
@[simp] theorem Dev.setWh_cal (d : Dev) (i : Nat) (x : Whl) : (d.setWh i x).cal = d.cal := rfl
@[simp] theorem Dev.setWh_thm (d : Dev) (i : Nat) (x : Whl) : (d.setWh i x).thm = d.thm := rfl
@[simp] theorem Dev.setWh_fry (d : Dev) (i : Nat) (x : Whl) : (d.setWh i x).fry = d.fry := rfl
@[simp] theorem Dev.setWh_hld (d : Dev) (i : Nat) (x : Whl) : (d.setWh i x).hld = d.hld := rfl
@[simp] theorem Dev.setWh_svy (d : Dev) (i : Nat) (x : Whl) : (d.setWh i x).svy = d.svy := rfl
@[simp] theorem Dev.setWh_rcd (d : Dev) (i : Nat) (x : Whl) : (d.setWh i x).rcd = d.rcd := rfl
@[simp] theorem Dev.setWh_ilk (d : Dev) (i : Nat) (x : Whl) : (d.setWh i x).ilk = d.ilk := rfl
@[simp] theorem Dev.setWh_hst (d : Dev) (i : Nat) (x : Whl) : (d.setWh i x).hst = d.hst := rfl
@[simp] theorem Dev.setWh_mtx (d : Dev) (i : Nat) (x : Whl) : (d.setWh i x).mtx = d.mtx := rfl
@[simp] theorem Dev.setWh_rst (d : Dev) (i : Nat) (x : Whl) : (d.setWh i x).rst = d.rst := rfl
@[simp] theorem Dev.stage_setStage_self (d : Dev) (i : Nat) (x : OutStage) : (d.setStage i x).stage i = x := by simp [Dev.stage, Dev.setStage]
theorem Dev.stage_setStage_of_ne (d : Dev) (i j : Nat) (x : OutStage) (h : j ≠ i) : (d.setStage i x).stage j = d.stage j :=
  Tab.get_put_of_ne _ _ _ _ _ _ h
@[simp] theorem Dev.get_setStage (d : Dev) (i : Nat) (x : OutStage) (f : Fld) : (d.setStage i x).get f = d.get f := rfl
@[simp] theorem Dev.on_setStage (d : Dev) (i : Nat) (x : OutStage) (f : Fld) : (d.setStage i x).on f = d.on f := rfl
@[simp] theorem Dev.setStage_regs (d : Dev) (i : Nat) (x : OutStage) : (d.setStage i x).regs = d.regs := rfl
@[simp] theorem Dev.setStage_mt (d : Dev) (i : Nat) (x : OutStage) : (d.setStage i x).mt = d.mt := rfl
@[simp] theorem Dev.setStage_tick (d : Dev) (i : Nat) (x : OutStage) : (d.setStage i x).tick = d.tick := rfl
@[simp] theorem Dev.setStage_out (d : Dev) (i : Nat) (x : OutStage) : (d.setStage i x).out = d.out := rfl
@[simp] theorem Dev.setStage_fresh (d : Dev) (i : Nat) (x : OutStage) : (d.setStage i x).fresh = d.fresh := rfl
@[simp] theorem Dev.setStage_acc (d : Dev) (i : Nat) (x : OutStage) : (d.setStage i x).acc = d.acc := rfl
@[simp] theorem Dev.setStage_fab (d : Dev) (i : Nat) (x : OutStage) : (d.setStage i x).fab = d.fab := rfl
@[simp] theorem Dev.setStage_tk (d : Dev) (i : Nat) (x : OutStage) : (d.setStage i x).tk = d.tk := rfl
@[simp] theorem Dev.setStage_cmd (d : Dev) (i : Nat) (x : OutStage) : (d.setStage i x).cmd = d.cmd := rfl
@[simp] theorem Dev.setStage_tide (d : Dev) (i : Nat) (x : OutStage) : (d.setStage i x).tide = d.tide := rfl
@[simp] theorem Dev.setStage_man (d : Dev) (i : Nat) (x : OutStage) : (d.setStage i x).man = d.man := rfl
@[simp] theorem Dev.setStage_tps (d : Dev) (i : Nat) (x : OutStage) : (d.setStage i x).tps = d.tps := rfl
@[simp] theorem Dev.setStage_flt (d : Dev) (i : Nat) (x : OutStage) : (d.setStage i x).flt = d.flt := rfl
@[simp] theorem Dev.setStage_tim (d : Dev) (i : Nat) (x : OutStage) : (d.setStage i x).tim = d.tim := rfl
@[simp] theorem Dev.setStage_cap (d : Dev) (i : Nat) (x : OutStage) : (d.setStage i x).cap = d.cap := rfl
@[simp] theorem Dev.setStage_cal (d : Dev) (i : Nat) (x : OutStage) : (d.setStage i x).cal = d.cal := rfl
@[simp] theorem Dev.setStage_thm (d : Dev) (i : Nat) (x : OutStage) : (d.setStage i x).thm = d.thm := rfl
@[simp] theorem Dev.setStage_fry (d : Dev) (i : Nat) (x : OutStage) : (d.setStage i x).fry = d.fry := rfl
@[simp] theorem Dev.setStage_hld (d : Dev) (i : Nat) (x : OutStage) : (d.setStage i x).hld = d.hld := rfl
@[simp] theorem Dev.setStage_svy (d : Dev) (i : Nat) (x : OutStage) : (d.setStage i x).svy = d.svy := rfl
@[simp] theorem Dev.setStage_rcd (d : Dev) (i : Nat) (x : OutStage) : (d.setStage i x).rcd = d.rcd := rfl
@[simp] theorem Dev.setStage_ilk (d : Dev) (i : Nat) (x : OutStage) : (d.setStage i x).ilk = d.ilk := rfl
@[simp] theorem Dev.setStage_hst (d : Dev) (i : Nat) (x : OutStage) : (d.setStage i x).hst = d.hst := rfl
@[simp] theorem Dev.setStage_mtx (d : Dev) (i : Nat) (x : OutStage) : (d.setStage i x).mtx = d.mtx := rfl
@[simp] theorem Dev.setStage_rst (d : Dev) (i : Nat) (x : OutStage) : (d.setStage i x).rst = d.rst := rfl
@[simp] theorem Dev.cell_setCell_self (d : Dev) (i : Nat) (x : Cell) : (d.setCell i x).cell i = x := by simp [Dev.cell, Dev.setCell]
theorem Dev.cell_setCell_of_ne (d : Dev) (i j : Nat) (x : Cell) (h : j ≠ i) : (d.setCell i x).cell j = d.cell j :=
  Tab.get_put_of_ne _ _ _ _ _ _ h
@[simp] theorem Dev.get_setCell (d : Dev) (i : Nat) (x : Cell) (f : Fld) : (d.setCell i x).get f = d.get f := rfl
@[simp] theorem Dev.on_setCell (d : Dev) (i : Nat) (x : Cell) (f : Fld) : (d.setCell i x).on f = d.on f := rfl
@[simp] theorem Dev.setCell_regs (d : Dev) (i : Nat) (x : Cell) : (d.setCell i x).regs = d.regs := rfl
@[simp] theorem Dev.setCell_mt (d : Dev) (i : Nat) (x : Cell) : (d.setCell i x).mt = d.mt := rfl
@[simp] theorem Dev.setCell_tick (d : Dev) (i : Nat) (x : Cell) : (d.setCell i x).tick = d.tick := rfl
@[simp] theorem Dev.setCell_out (d : Dev) (i : Nat) (x : Cell) : (d.setCell i x).out = d.out := rfl
@[simp] theorem Dev.setCell_fresh (d : Dev) (i : Nat) (x : Cell) : (d.setCell i x).fresh = d.fresh := rfl
@[simp] theorem Dev.setCell_acc (d : Dev) (i : Nat) (x : Cell) : (d.setCell i x).acc = d.acc := rfl
@[simp] theorem Dev.setCell_tk (d : Dev) (i : Nat) (x : Cell) : (d.setCell i x).tk = d.tk := rfl
@[simp] theorem Dev.setCell_cmd (d : Dev) (i : Nat) (x : Cell) : (d.setCell i x).cmd = d.cmd := rfl
@[simp] theorem Dev.setCell_tide (d : Dev) (i : Nat) (x : Cell) : (d.setCell i x).tide = d.tide := rfl
@[simp] theorem Dev.setCell_man (d : Dev) (i : Nat) (x : Cell) : (d.setCell i x).man = d.man := rfl
@[simp] theorem Dev.setCell_tps (d : Dev) (i : Nat) (x : Cell) : (d.setCell i x).tps = d.tps := rfl
@[simp] theorem Dev.setCell_flt (d : Dev) (i : Nat) (x : Cell) : (d.setCell i x).flt = d.flt := rfl
@[simp] theorem Dev.setCell_tim (d : Dev) (i : Nat) (x : Cell) : (d.setCell i x).tim = d.tim := rfl
@[simp] theorem Dev.setCell_cap (d : Dev) (i : Nat) (x : Cell) : (d.setCell i x).cap = d.cap := rfl
@[simp] theorem Dev.setCell_cal (d : Dev) (i : Nat) (x : Cell) : (d.setCell i x).cal = d.cal := rfl
@[simp] theorem Dev.setCell_thm (d : Dev) (i : Nat) (x : Cell) : (d.setCell i x).thm = d.thm := rfl
@[simp] theorem Dev.setCell_whl (d : Dev) (i : Nat) (x : Cell) : (d.setCell i x).whl = d.whl := rfl
@[simp] theorem Dev.setCell_fry (d : Dev) (i : Nat) (x : Cell) : (d.setCell i x).fry = d.fry := rfl
@[simp] theorem Dev.setCell_hld (d : Dev) (i : Nat) (x : Cell) : (d.setCell i x).hld = d.hld := rfl
@[simp] theorem Dev.setCell_svy (d : Dev) (i : Nat) (x : Cell) : (d.setCell i x).svy = d.svy := rfl
@[simp] theorem Dev.setCell_rcd (d : Dev) (i : Nat) (x : Cell) : (d.setCell i x).rcd = d.rcd := rfl
@[simp] theorem Dev.setCell_ilk (d : Dev) (i : Nat) (x : Cell) : (d.setCell i x).ilk = d.ilk := rfl
@[simp] theorem Dev.setCell_hst (d : Dev) (i : Nat) (x : Cell) : (d.setCell i x).hst = d.hst := rfl
@[simp] theorem Dev.setCell_mtx (d : Dev) (i : Nat) (x : Cell) : (d.setCell i x).mtx = d.mtx := rfl
@[simp] theorem Dev.setCell_rst (d : Dev) (i : Nat) (x : Cell) : (d.setCell i x).rst = d.rst := rfl
@[simp] theorem Dev.blk_setBlk_self (d : Dev) (i : Nat) (x : Blk) : (d.setBlk i x).blk i = x := by simp [Dev.blk, Dev.setBlk]
theorem Dev.blk_setBlk_of_ne (d : Dev) (i j : Nat) (x : Blk) (h : j ≠ i) : (d.setBlk i x).blk j = d.blk j :=
  Tab.get_put_of_ne _ _ _ _ _ _ h
@[simp] theorem Dev.get_setBlk (d : Dev) (i : Nat) (x : Blk) (f : Fld) : (d.setBlk i x).get f = d.get f := rfl
@[simp] theorem Dev.on_setBlk (d : Dev) (i : Nat) (x : Blk) (f : Fld) : (d.setBlk i x).on f = d.on f := rfl
@[simp] theorem Dev.setBlk_regs (d : Dev) (i : Nat) (x : Blk) : (d.setBlk i x).regs = d.regs := rfl
@[simp] theorem Dev.setBlk_mt (d : Dev) (i : Nat) (x : Blk) : (d.setBlk i x).mt = d.mt := rfl
@[simp] theorem Dev.setBlk_tick (d : Dev) (i : Nat) (x : Blk) : (d.setBlk i x).tick = d.tick := rfl
@[simp] theorem Dev.setBlk_out (d : Dev) (i : Nat) (x : Blk) : (d.setBlk i x).out = d.out := rfl
@[simp] theorem Dev.setBlk_fresh (d : Dev) (i : Nat) (x : Blk) : (d.setBlk i x).fresh = d.fresh := rfl
@[simp] theorem Dev.setBlk_acc (d : Dev) (i : Nat) (x : Blk) : (d.setBlk i x).acc = d.acc := rfl
@[simp] theorem Dev.setBlk_tk (d : Dev) (i : Nat) (x : Blk) : (d.setBlk i x).tk = d.tk := rfl
@[simp] theorem Dev.setBlk_cmd (d : Dev) (i : Nat) (x : Blk) : (d.setBlk i x).cmd = d.cmd := rfl
@[simp] theorem Dev.setBlk_tide (d : Dev) (i : Nat) (x : Blk) : (d.setBlk i x).tide = d.tide := rfl
@[simp] theorem Dev.setBlk_man (d : Dev) (i : Nat) (x : Blk) : (d.setBlk i x).man = d.man := rfl
@[simp] theorem Dev.setBlk_tps (d : Dev) (i : Nat) (x : Blk) : (d.setBlk i x).tps = d.tps := rfl
@[simp] theorem Dev.setBlk_flt (d : Dev) (i : Nat) (x : Blk) : (d.setBlk i x).flt = d.flt := rfl
@[simp] theorem Dev.setBlk_tim (d : Dev) (i : Nat) (x : Blk) : (d.setBlk i x).tim = d.tim := rfl
@[simp] theorem Dev.setBlk_cap (d : Dev) (i : Nat) (x : Blk) : (d.setBlk i x).cap = d.cap := rfl
@[simp] theorem Dev.setBlk_cal (d : Dev) (i : Nat) (x : Blk) : (d.setBlk i x).cal = d.cal := rfl
@[simp] theorem Dev.setBlk_thm (d : Dev) (i : Nat) (x : Blk) : (d.setBlk i x).thm = d.thm := rfl
@[simp] theorem Dev.setBlk_whl (d : Dev) (i : Nat) (x : Blk) : (d.setBlk i x).whl = d.whl := rfl
@[simp] theorem Dev.setBlk_fry (d : Dev) (i : Nat) (x : Blk) : (d.setBlk i x).fry = d.fry := rfl
@[simp] theorem Dev.setBlk_hld (d : Dev) (i : Nat) (x : Blk) : (d.setBlk i x).hld = d.hld := rfl
@[simp] theorem Dev.setBlk_svy (d : Dev) (i : Nat) (x : Blk) : (d.setBlk i x).svy = d.svy := rfl
@[simp] theorem Dev.setBlk_rcd (d : Dev) (i : Nat) (x : Blk) : (d.setBlk i x).rcd = d.rcd := rfl
@[simp] theorem Dev.setBlk_ilk (d : Dev) (i : Nat) (x : Blk) : (d.setBlk i x).ilk = d.ilk := rfl
@[simp] theorem Dev.setBlk_hst (d : Dev) (i : Nat) (x : Blk) : (d.setBlk i x).hst = d.hst := rfl
@[simp] theorem Dev.setBlk_mtx (d : Dev) (i : Nat) (x : Blk) : (d.setBlk i x).mtx = d.mtx := rfl
@[simp] theorem Dev.setBlk_rst (d : Dev) (i : Nat) (x : Blk) : (d.setBlk i x).rst = d.rst := rfl
@[simp] theorem Dev.rch_setRch_self (d : Dev) (i : Nat) (x : Rch) : (d.setRch i x).rch i = x := by simp [Dev.rch, Dev.setRch]
theorem Dev.rch_setRch_of_ne (d : Dev) (i j : Nat) (x : Rch) (h : j ≠ i) : (d.setRch i x).rch j = d.rch j :=
  Tab.get_put_of_ne _ _ _ _ _ _ h
@[simp] theorem Dev.get_setRch (d : Dev) (i : Nat) (x : Rch) (f : Fld) : (d.setRch i x).get f = d.get f := rfl
@[simp] theorem Dev.on_setRch (d : Dev) (i : Nat) (x : Rch) (f : Fld) : (d.setRch i x).on f = d.on f := rfl
@[simp] theorem Dev.setRch_regs (d : Dev) (i : Nat) (x : Rch) : (d.setRch i x).regs = d.regs := rfl
@[simp] theorem Dev.setRch_mt (d : Dev) (i : Nat) (x : Rch) : (d.setRch i x).mt = d.mt := rfl
@[simp] theorem Dev.setRch_tick (d : Dev) (i : Nat) (x : Rch) : (d.setRch i x).tick = d.tick := rfl
@[simp] theorem Dev.setRch_out (d : Dev) (i : Nat) (x : Rch) : (d.setRch i x).out = d.out := rfl
@[simp] theorem Dev.setRch_fresh (d : Dev) (i : Nat) (x : Rch) : (d.setRch i x).fresh = d.fresh := rfl
@[simp] theorem Dev.setRch_acc (d : Dev) (i : Nat) (x : Rch) : (d.setRch i x).acc = d.acc := rfl
@[simp] theorem Dev.setRch_tk (d : Dev) (i : Nat) (x : Rch) : (d.setRch i x).tk = d.tk := rfl
@[simp] theorem Dev.setRch_cmd (d : Dev) (i : Nat) (x : Rch) : (d.setRch i x).cmd = d.cmd := rfl
@[simp] theorem Dev.setRch_tide (d : Dev) (i : Nat) (x : Rch) : (d.setRch i x).tide = d.tide := rfl
@[simp] theorem Dev.setRch_man (d : Dev) (i : Nat) (x : Rch) : (d.setRch i x).man = d.man := rfl
@[simp] theorem Dev.setRch_tps (d : Dev) (i : Nat) (x : Rch) : (d.setRch i x).tps = d.tps := rfl
@[simp] theorem Dev.setRch_flt (d : Dev) (i : Nat) (x : Rch) : (d.setRch i x).flt = d.flt := rfl
@[simp] theorem Dev.setRch_tim (d : Dev) (i : Nat) (x : Rch) : (d.setRch i x).tim = d.tim := rfl
@[simp] theorem Dev.setRch_cap (d : Dev) (i : Nat) (x : Rch) : (d.setRch i x).cap = d.cap := rfl
@[simp] theorem Dev.setRch_cal (d : Dev) (i : Nat) (x : Rch) : (d.setRch i x).cal = d.cal := rfl
@[simp] theorem Dev.setRch_thm (d : Dev) (i : Nat) (x : Rch) : (d.setRch i x).thm = d.thm := rfl
@[simp] theorem Dev.setRch_whl (d : Dev) (i : Nat) (x : Rch) : (d.setRch i x).whl = d.whl := rfl
@[simp] theorem Dev.setRch_fry (d : Dev) (i : Nat) (x : Rch) : (d.setRch i x).fry = d.fry := rfl
@[simp] theorem Dev.setRch_hld (d : Dev) (i : Nat) (x : Rch) : (d.setRch i x).hld = d.hld := rfl
@[simp] theorem Dev.setRch_svy (d : Dev) (i : Nat) (x : Rch) : (d.setRch i x).svy = d.svy := rfl
@[simp] theorem Dev.setRch_rcd (d : Dev) (i : Nat) (x : Rch) : (d.setRch i x).rcd = d.rcd := rfl
@[simp] theorem Dev.setRch_ilk (d : Dev) (i : Nat) (x : Rch) : (d.setRch i x).ilk = d.ilk := rfl
@[simp] theorem Dev.setRch_hst (d : Dev) (i : Nat) (x : Rch) : (d.setRch i x).hst = d.hst := rfl
@[simp] theorem Dev.setRch_mtx (d : Dev) (i : Nat) (x : Rch) : (d.setRch i x).mtx = d.mtx := rfl
@[simp] theorem Dev.setRch_rst (d : Dev) (i : Nat) (x : Rch) : (d.setRch i x).rst = d.rst := rfl
@[simp] theorem Dev.inP_setInP_self (d : Dev) (i : Nat) (x : Prt) : (d.setInP i x).inP i = x := by simp [Dev.inP, Dev.setInP]
theorem Dev.inP_setInP_of_ne (d : Dev) (i j : Nat) (x : Prt) (h : j ≠ i) : (d.setInP i x).inP j = d.inP j :=
  Tab.get_put_of_ne _ _ _ _ _ _ h
@[simp] theorem Dev.get_setInP (d : Dev) (i : Nat) (x : Prt) (f : Fld) : (d.setInP i x).get f = d.get f := rfl
@[simp] theorem Dev.on_setInP (d : Dev) (i : Nat) (x : Prt) (f : Fld) : (d.setInP i x).on f = d.on f := rfl
@[simp] theorem Dev.setInP_regs (d : Dev) (i : Nat) (x : Prt) : (d.setInP i x).regs = d.regs := rfl
@[simp] theorem Dev.setInP_mt (d : Dev) (i : Nat) (x : Prt) : (d.setInP i x).mt = d.mt := rfl
@[simp] theorem Dev.setInP_tick (d : Dev) (i : Nat) (x : Prt) : (d.setInP i x).tick = d.tick := rfl
@[simp] theorem Dev.setInP_out (d : Dev) (i : Nat) (x : Prt) : (d.setInP i x).out = d.out := rfl
@[simp] theorem Dev.setInP_fresh (d : Dev) (i : Nat) (x : Prt) : (d.setInP i x).fresh = d.fresh := rfl
@[simp] theorem Dev.setInP_acc (d : Dev) (i : Nat) (x : Prt) : (d.setInP i x).acc = d.acc := rfl
@[simp] theorem Dev.setInP_tk (d : Dev) (i : Nat) (x : Prt) : (d.setInP i x).tk = d.tk := rfl
@[simp] theorem Dev.setInP_cmd (d : Dev) (i : Nat) (x : Prt) : (d.setInP i x).cmd = d.cmd := rfl
@[simp] theorem Dev.setInP_tide (d : Dev) (i : Nat) (x : Prt) : (d.setInP i x).tide = d.tide := rfl
@[simp] theorem Dev.setInP_man (d : Dev) (i : Nat) (x : Prt) : (d.setInP i x).man = d.man := rfl
@[simp] theorem Dev.setInP_tps (d : Dev) (i : Nat) (x : Prt) : (d.setInP i x).tps = d.tps := rfl
@[simp] theorem Dev.setInP_flt (d : Dev) (i : Nat) (x : Prt) : (d.setInP i x).flt = d.flt := rfl
@[simp] theorem Dev.setInP_tim (d : Dev) (i : Nat) (x : Prt) : (d.setInP i x).tim = d.tim := rfl
@[simp] theorem Dev.setInP_cap (d : Dev) (i : Nat) (x : Prt) : (d.setInP i x).cap = d.cap := rfl
@[simp] theorem Dev.setInP_cal (d : Dev) (i : Nat) (x : Prt) : (d.setInP i x).cal = d.cal := rfl
@[simp] theorem Dev.setInP_thm (d : Dev) (i : Nat) (x : Prt) : (d.setInP i x).thm = d.thm := rfl
@[simp] theorem Dev.setInP_whl (d : Dev) (i : Nat) (x : Prt) : (d.setInP i x).whl = d.whl := rfl
@[simp] theorem Dev.setInP_fry (d : Dev) (i : Nat) (x : Prt) : (d.setInP i x).fry = d.fry := rfl
@[simp] theorem Dev.setInP_hld (d : Dev) (i : Nat) (x : Prt) : (d.setInP i x).hld = d.hld := rfl
@[simp] theorem Dev.setInP_svy (d : Dev) (i : Nat) (x : Prt) : (d.setInP i x).svy = d.svy := rfl
@[simp] theorem Dev.setInP_rcd (d : Dev) (i : Nat) (x : Prt) : (d.setInP i x).rcd = d.rcd := rfl
@[simp] theorem Dev.setInP_ilk (d : Dev) (i : Nat) (x : Prt) : (d.setInP i x).ilk = d.ilk := rfl
@[simp] theorem Dev.setInP_hst (d : Dev) (i : Nat) (x : Prt) : (d.setInP i x).hst = d.hst := rfl
@[simp] theorem Dev.setInP_mtx (d : Dev) (i : Nat) (x : Prt) : (d.setInP i x).mtx = d.mtx := rfl
@[simp] theorem Dev.setInP_rst (d : Dev) (i : Nat) (x : Prt) : (d.setInP i x).rst = d.rst := rfl
@[simp] theorem Dev.outP_setOutP_self (d : Dev) (i : Nat) (x : Prt) : (d.setOutP i x).outP i = x := by simp [Dev.outP, Dev.setOutP]
theorem Dev.outP_setOutP_of_ne (d : Dev) (i j : Nat) (x : Prt) (h : j ≠ i) : (d.setOutP i x).outP j = d.outP j :=
  Tab.get_put_of_ne _ _ _ _ _ _ h
@[simp] theorem Dev.get_setOutP (d : Dev) (i : Nat) (x : Prt) (f : Fld) : (d.setOutP i x).get f = d.get f := rfl
@[simp] theorem Dev.on_setOutP (d : Dev) (i : Nat) (x : Prt) (f : Fld) : (d.setOutP i x).on f = d.on f := rfl
@[simp] theorem Dev.setOutP_regs (d : Dev) (i : Nat) (x : Prt) : (d.setOutP i x).regs = d.regs := rfl
@[simp] theorem Dev.setOutP_mt (d : Dev) (i : Nat) (x : Prt) : (d.setOutP i x).mt = d.mt := rfl
@[simp] theorem Dev.setOutP_tick (d : Dev) (i : Nat) (x : Prt) : (d.setOutP i x).tick = d.tick := rfl
@[simp] theorem Dev.setOutP_out (d : Dev) (i : Nat) (x : Prt) : (d.setOutP i x).out = d.out := rfl
@[simp] theorem Dev.setOutP_fresh (d : Dev) (i : Nat) (x : Prt) : (d.setOutP i x).fresh = d.fresh := rfl
@[simp] theorem Dev.setOutP_acc (d : Dev) (i : Nat) (x : Prt) : (d.setOutP i x).acc = d.acc := rfl
@[simp] theorem Dev.setOutP_tk (d : Dev) (i : Nat) (x : Prt) : (d.setOutP i x).tk = d.tk := rfl
@[simp] theorem Dev.setOutP_cmd (d : Dev) (i : Nat) (x : Prt) : (d.setOutP i x).cmd = d.cmd := rfl
@[simp] theorem Dev.setOutP_tide (d : Dev) (i : Nat) (x : Prt) : (d.setOutP i x).tide = d.tide := rfl
@[simp] theorem Dev.setOutP_man (d : Dev) (i : Nat) (x : Prt) : (d.setOutP i x).man = d.man := rfl
@[simp] theorem Dev.setOutP_tps (d : Dev) (i : Nat) (x : Prt) : (d.setOutP i x).tps = d.tps := rfl
@[simp] theorem Dev.setOutP_flt (d : Dev) (i : Nat) (x : Prt) : (d.setOutP i x).flt = d.flt := rfl
@[simp] theorem Dev.setOutP_tim (d : Dev) (i : Nat) (x : Prt) : (d.setOutP i x).tim = d.tim := rfl
@[simp] theorem Dev.setOutP_cap (d : Dev) (i : Nat) (x : Prt) : (d.setOutP i x).cap = d.cap := rfl
@[simp] theorem Dev.setOutP_cal (d : Dev) (i : Nat) (x : Prt) : (d.setOutP i x).cal = d.cal := rfl
@[simp] theorem Dev.setOutP_thm (d : Dev) (i : Nat) (x : Prt) : (d.setOutP i x).thm = d.thm := rfl
@[simp] theorem Dev.setOutP_whl (d : Dev) (i : Nat) (x : Prt) : (d.setOutP i x).whl = d.whl := rfl
@[simp] theorem Dev.setOutP_fry (d : Dev) (i : Nat) (x : Prt) : (d.setOutP i x).fry = d.fry := rfl
@[simp] theorem Dev.setOutP_hld (d : Dev) (i : Nat) (x : Prt) : (d.setOutP i x).hld = d.hld := rfl
@[simp] theorem Dev.setOutP_svy (d : Dev) (i : Nat) (x : Prt) : (d.setOutP i x).svy = d.svy := rfl
@[simp] theorem Dev.setOutP_rcd (d : Dev) (i : Nat) (x : Prt) : (d.setOutP i x).rcd = d.rcd := rfl
@[simp] theorem Dev.setOutP_ilk (d : Dev) (i : Nat) (x : Prt) : (d.setOutP i x).ilk = d.ilk := rfl
@[simp] theorem Dev.setOutP_hst (d : Dev) (i : Nat) (x : Prt) : (d.setOutP i x).hst = d.hst := rfl
@[simp] theorem Dev.setOutP_mtx (d : Dev) (i : Nat) (x : Prt) : (d.setOutP i x).mtx = d.mtx := rfl
@[simp] theorem Dev.setOutP_rst (d : Dev) (i : Nat) (x : Prt) : (d.setOutP i x).rst = d.rst := rfl
@[simp] theorem Dev.link_setLink_self (d : Dev) (i : Nat) (x : Link) : (d.setLink i x).link i = x := by simp [Dev.link, Dev.setLink]
theorem Dev.link_setLink_of_ne (d : Dev) (i j : Nat) (x : Link) (h : j ≠ i) : (d.setLink i x).link j = d.link j :=
  Tab.get_put_of_ne _ _ _ _ _ _ h
@[simp] theorem Dev.get_setLink (d : Dev) (i : Nat) (x : Link) (f : Fld) : (d.setLink i x).get f = d.get f := rfl
@[simp] theorem Dev.on_setLink (d : Dev) (i : Nat) (x : Link) (f : Fld) : (d.setLink i x).on f = d.on f := rfl
@[simp] theorem Dev.setLink_regs (d : Dev) (i : Nat) (x : Link) : (d.setLink i x).regs = d.regs := rfl
@[simp] theorem Dev.setLink_mt (d : Dev) (i : Nat) (x : Link) : (d.setLink i x).mt = d.mt := rfl
@[simp] theorem Dev.setLink_tick (d : Dev) (i : Nat) (x : Link) : (d.setLink i x).tick = d.tick := rfl
@[simp] theorem Dev.setLink_out (d : Dev) (i : Nat) (x : Link) : (d.setLink i x).out = d.out := rfl
@[simp] theorem Dev.setLink_fresh (d : Dev) (i : Nat) (x : Link) : (d.setLink i x).fresh = d.fresh := rfl
@[simp] theorem Dev.setLink_acc (d : Dev) (i : Nat) (x : Link) : (d.setLink i x).acc = d.acc := rfl
@[simp] theorem Dev.setLink_tk (d : Dev) (i : Nat) (x : Link) : (d.setLink i x).tk = d.tk := rfl
@[simp] theorem Dev.setLink_cmd (d : Dev) (i : Nat) (x : Link) : (d.setLink i x).cmd = d.cmd := rfl
@[simp] theorem Dev.setLink_tide (d : Dev) (i : Nat) (x : Link) : (d.setLink i x).tide = d.tide := rfl
@[simp] theorem Dev.setLink_man (d : Dev) (i : Nat) (x : Link) : (d.setLink i x).man = d.man := rfl
@[simp] theorem Dev.setLink_tps (d : Dev) (i : Nat) (x : Link) : (d.setLink i x).tps = d.tps := rfl
@[simp] theorem Dev.setLink_flt (d : Dev) (i : Nat) (x : Link) : (d.setLink i x).flt = d.flt := rfl
@[simp] theorem Dev.setLink_tim (d : Dev) (i : Nat) (x : Link) : (d.setLink i x).tim = d.tim := rfl
@[simp] theorem Dev.setLink_cap (d : Dev) (i : Nat) (x : Link) : (d.setLink i x).cap = d.cap := rfl
@[simp] theorem Dev.setLink_cal (d : Dev) (i : Nat) (x : Link) : (d.setLink i x).cal = d.cal := rfl
@[simp] theorem Dev.setLink_thm (d : Dev) (i : Nat) (x : Link) : (d.setLink i x).thm = d.thm := rfl
@[simp] theorem Dev.setLink_whl (d : Dev) (i : Nat) (x : Link) : (d.setLink i x).whl = d.whl := rfl
@[simp] theorem Dev.setLink_fry (d : Dev) (i : Nat) (x : Link) : (d.setLink i x).fry = d.fry := rfl
@[simp] theorem Dev.setLink_hld (d : Dev) (i : Nat) (x : Link) : (d.setLink i x).hld = d.hld := rfl
@[simp] theorem Dev.setLink_svy (d : Dev) (i : Nat) (x : Link) : (d.setLink i x).svy = d.svy := rfl
@[simp] theorem Dev.setLink_rcd (d : Dev) (i : Nat) (x : Link) : (d.setLink i x).rcd = d.rcd := rfl
@[simp] theorem Dev.setLink_ilk (d : Dev) (i : Nat) (x : Link) : (d.setLink i x).ilk = d.ilk := rfl
@[simp] theorem Dev.setLink_hst (d : Dev) (i : Nat) (x : Link) : (d.setLink i x).hst = d.hst := rfl
@[simp] theorem Dev.setLink_mtx (d : Dev) (i : Nat) (x : Link) : (d.setLink i x).mtx = d.mtx := rfl
@[simp] theorem Dev.setLink_rst (d : Dev) (i : Nat) (x : Link) : (d.setLink i x).rst = d.rst := rfl
@[simp] theorem Dev.tkt_putTkt_self (d : Dev) (i : Nat) (x : Ticket) : (d.putTkt i x).tkt i = x := by simp [Dev.tkt, Dev.putTkt]
theorem Dev.tkt_putTkt_of_ne (d : Dev) (i j : Nat) (x : Ticket) (h : j ≠ i) : (d.putTkt i x).tkt j = d.tkt j :=
  Tab.get_put_of_ne _ _ _ _ _ _ h
@[simp] theorem Dev.get_putTkt (d : Dev) (i : Nat) (x : Ticket) (f : Fld) : (d.putTkt i x).get f = d.get f := rfl
@[simp] theorem Dev.on_putTkt (d : Dev) (i : Nat) (x : Ticket) (f : Fld) : (d.putTkt i x).on f = d.on f := rfl
@[simp] theorem Dev.putTkt_regs (d : Dev) (i : Nat) (x : Ticket) : (d.putTkt i x).regs = d.regs := rfl
@[simp] theorem Dev.putTkt_mt (d : Dev) (i : Nat) (x : Ticket) : (d.putTkt i x).mt = d.mt := rfl
@[simp] theorem Dev.putTkt_tick (d : Dev) (i : Nat) (x : Ticket) : (d.putTkt i x).tick = d.tick := rfl
@[simp] theorem Dev.putTkt_out (d : Dev) (i : Nat) (x : Ticket) : (d.putTkt i x).out = d.out := rfl
@[simp] theorem Dev.putTkt_fresh (d : Dev) (i : Nat) (x : Ticket) : (d.putTkt i x).fresh = d.fresh := rfl
@[simp] theorem Dev.putTkt_acc (d : Dev) (i : Nat) (x : Ticket) : (d.putTkt i x).acc = d.acc := rfl
@[simp] theorem Dev.putTkt_fab (d : Dev) (i : Nat) (x : Ticket) : (d.putTkt i x).fab = d.fab := rfl
@[simp] theorem Dev.putTkt_cmd (d : Dev) (i : Nat) (x : Ticket) : (d.putTkt i x).cmd = d.cmd := rfl
@[simp] theorem Dev.putTkt_tide (d : Dev) (i : Nat) (x : Ticket) : (d.putTkt i x).tide = d.tide := rfl
@[simp] theorem Dev.putTkt_man (d : Dev) (i : Nat) (x : Ticket) : (d.putTkt i x).man = d.man := rfl
@[simp] theorem Dev.putTkt_tps (d : Dev) (i : Nat) (x : Ticket) : (d.putTkt i x).tps = d.tps := rfl
@[simp] theorem Dev.putTkt_flt (d : Dev) (i : Nat) (x : Ticket) : (d.putTkt i x).flt = d.flt := rfl
@[simp] theorem Dev.putTkt_tim (d : Dev) (i : Nat) (x : Ticket) : (d.putTkt i x).tim = d.tim := rfl
@[simp] theorem Dev.putTkt_cap (d : Dev) (i : Nat) (x : Ticket) : (d.putTkt i x).cap = d.cap := rfl
@[simp] theorem Dev.putTkt_cal (d : Dev) (i : Nat) (x : Ticket) : (d.putTkt i x).cal = d.cal := rfl
@[simp] theorem Dev.putTkt_thm (d : Dev) (i : Nat) (x : Ticket) : (d.putTkt i x).thm = d.thm := rfl
@[simp] theorem Dev.putTkt_whl (d : Dev) (i : Nat) (x : Ticket) : (d.putTkt i x).whl = d.whl := rfl
@[simp] theorem Dev.putTkt_fry (d : Dev) (i : Nat) (x : Ticket) : (d.putTkt i x).fry = d.fry := rfl
@[simp] theorem Dev.putTkt_hld (d : Dev) (i : Nat) (x : Ticket) : (d.putTkt i x).hld = d.hld := rfl
@[simp] theorem Dev.putTkt_svy (d : Dev) (i : Nat) (x : Ticket) : (d.putTkt i x).svy = d.svy := rfl
@[simp] theorem Dev.putTkt_rcd (d : Dev) (i : Nat) (x : Ticket) : (d.putTkt i x).rcd = d.rcd := rfl
@[simp] theorem Dev.putTkt_ilk (d : Dev) (i : Nat) (x : Ticket) : (d.putTkt i x).ilk = d.ilk := rfl
@[simp] theorem Dev.putTkt_hst (d : Dev) (i : Nat) (x : Ticket) : (d.putTkt i x).hst = d.hst := rfl
@[simp] theorem Dev.putTkt_mtx (d : Dev) (i : Nat) (x : Ticket) : (d.putTkt i x).mtx = d.mtx := rfl
@[simp] theorem Dev.putTkt_rst (d : Dev) (i : Nat) (x : Ticket) : (d.putTkt i x).rst = d.rst := rfl
@[simp] theorem Dev.op_setOp_self (d : Dev) (i : Nat) (x : Option Op) : (d.setOp i x).op i = x := by simp [Dev.op, Dev.setOp]
theorem Dev.op_setOp_of_ne (d : Dev) (i j : Nat) (x : Option Op) (h : j ≠ i) : (d.setOp i x).op j = d.op j :=
  Tab.get_put_of_ne _ _ _ _ _ _ h
@[simp] theorem Dev.get_setOp (d : Dev) (i : Nat) (x : Option Op) (f : Fld) : (d.setOp i x).get f = d.get f := rfl
@[simp] theorem Dev.on_setOp (d : Dev) (i : Nat) (x : Option Op) (f : Fld) : (d.setOp i x).on f = d.on f := rfl
@[simp] theorem Dev.setOp_regs (d : Dev) (i : Nat) (x : Option Op) : (d.setOp i x).regs = d.regs := rfl
@[simp] theorem Dev.setOp_mt (d : Dev) (i : Nat) (x : Option Op) : (d.setOp i x).mt = d.mt := rfl
@[simp] theorem Dev.setOp_tick (d : Dev) (i : Nat) (x : Option Op) : (d.setOp i x).tick = d.tick := rfl
@[simp] theorem Dev.setOp_out (d : Dev) (i : Nat) (x : Option Op) : (d.setOp i x).out = d.out := rfl
@[simp] theorem Dev.setOp_fresh (d : Dev) (i : Nat) (x : Option Op) : (d.setOp i x).fresh = d.fresh := rfl
@[simp] theorem Dev.setOp_acc (d : Dev) (i : Nat) (x : Option Op) : (d.setOp i x).acc = d.acc := rfl
@[simp] theorem Dev.setOp_fab (d : Dev) (i : Nat) (x : Option Op) : (d.setOp i x).fab = d.fab := rfl
@[simp] theorem Dev.setOp_tk (d : Dev) (i : Nat) (x : Option Op) : (d.setOp i x).tk = d.tk := rfl
@[simp] theorem Dev.setOp_tide (d : Dev) (i : Nat) (x : Option Op) : (d.setOp i x).tide = d.tide := rfl
@[simp] theorem Dev.setOp_man (d : Dev) (i : Nat) (x : Option Op) : (d.setOp i x).man = d.man := rfl
@[simp] theorem Dev.setOp_tps (d : Dev) (i : Nat) (x : Option Op) : (d.setOp i x).tps = d.tps := rfl
@[simp] theorem Dev.setOp_flt (d : Dev) (i : Nat) (x : Option Op) : (d.setOp i x).flt = d.flt := rfl
@[simp] theorem Dev.setOp_tim (d : Dev) (i : Nat) (x : Option Op) : (d.setOp i x).tim = d.tim := rfl
@[simp] theorem Dev.setOp_cap (d : Dev) (i : Nat) (x : Option Op) : (d.setOp i x).cap = d.cap := rfl
@[simp] theorem Dev.setOp_cal (d : Dev) (i : Nat) (x : Option Op) : (d.setOp i x).cal = d.cal := rfl
@[simp] theorem Dev.setOp_thm (d : Dev) (i : Nat) (x : Option Op) : (d.setOp i x).thm = d.thm := rfl
@[simp] theorem Dev.setOp_whl (d : Dev) (i : Nat) (x : Option Op) : (d.setOp i x).whl = d.whl := rfl
@[simp] theorem Dev.setOp_fry (d : Dev) (i : Nat) (x : Option Op) : (d.setOp i x).fry = d.fry := rfl
@[simp] theorem Dev.setOp_hld (d : Dev) (i : Nat) (x : Option Op) : (d.setOp i x).hld = d.hld := rfl
@[simp] theorem Dev.setOp_svy (d : Dev) (i : Nat) (x : Option Op) : (d.setOp i x).svy = d.svy := rfl
@[simp] theorem Dev.setOp_rcd (d : Dev) (i : Nat) (x : Option Op) : (d.setOp i x).rcd = d.rcd := rfl
@[simp] theorem Dev.setOp_ilk (d : Dev) (i : Nat) (x : Option Op) : (d.setOp i x).ilk = d.ilk := rfl
@[simp] theorem Dev.setOp_hst (d : Dev) (i : Nat) (x : Option Op) : (d.setOp i x).hst = d.hst := rfl
@[simp] theorem Dev.setOp_mtx (d : Dev) (i : Nat) (x : Option Op) : (d.setOp i x).mtx = d.mtx := rfl
@[simp] theorem Dev.setOp_rst (d : Dev) (i : Nat) (x : Option Op) : (d.setOp i x).rst = d.rst := rfl
@[simp] theorem Dev.xing_setXing_self (d : Dev) (i : Nat) (x : Option Xing) : (d.setXing i x).xing i = x := by simp [Dev.xing, Dev.setXing]
theorem Dev.xing_setXing_of_ne (d : Dev) (i j : Nat) (x : Option Xing) (h : j ≠ i) : (d.setXing i x).xing j = d.xing j :=
  Tab.get_put_of_ne _ _ _ _ _ _ h
@[simp] theorem Dev.get_setXing (d : Dev) (i : Nat) (x : Option Xing) (f : Fld) : (d.setXing i x).get f = d.get f := rfl
@[simp] theorem Dev.on_setXing (d : Dev) (i : Nat) (x : Option Xing) (f : Fld) : (d.setXing i x).on f = d.on f := rfl
@[simp] theorem Dev.setXing_regs (d : Dev) (i : Nat) (x : Option Xing) : (d.setXing i x).regs = d.regs := rfl
@[simp] theorem Dev.setXing_mt (d : Dev) (i : Nat) (x : Option Xing) : (d.setXing i x).mt = d.mt := rfl
@[simp] theorem Dev.setXing_tick (d : Dev) (i : Nat) (x : Option Xing) : (d.setXing i x).tick = d.tick := rfl
@[simp] theorem Dev.setXing_out (d : Dev) (i : Nat) (x : Option Xing) : (d.setXing i x).out = d.out := rfl
@[simp] theorem Dev.setXing_fresh (d : Dev) (i : Nat) (x : Option Xing) : (d.setXing i x).fresh = d.fresh := rfl
@[simp] theorem Dev.setXing_acc (d : Dev) (i : Nat) (x : Option Xing) : (d.setXing i x).acc = d.acc := rfl
@[simp] theorem Dev.setXing_fab (d : Dev) (i : Nat) (x : Option Xing) : (d.setXing i x).fab = d.fab := rfl
@[simp] theorem Dev.setXing_tk (d : Dev) (i : Nat) (x : Option Xing) : (d.setXing i x).tk = d.tk := rfl
@[simp] theorem Dev.setXing_tide (d : Dev) (i : Nat) (x : Option Xing) : (d.setXing i x).tide = d.tide := rfl
@[simp] theorem Dev.setXing_man (d : Dev) (i : Nat) (x : Option Xing) : (d.setXing i x).man = d.man := rfl
@[simp] theorem Dev.setXing_tps (d : Dev) (i : Nat) (x : Option Xing) : (d.setXing i x).tps = d.tps := rfl
@[simp] theorem Dev.setXing_flt (d : Dev) (i : Nat) (x : Option Xing) : (d.setXing i x).flt = d.flt := rfl
@[simp] theorem Dev.setXing_tim (d : Dev) (i : Nat) (x : Option Xing) : (d.setXing i x).tim = d.tim := rfl
@[simp] theorem Dev.setXing_cap (d : Dev) (i : Nat) (x : Option Xing) : (d.setXing i x).cap = d.cap := rfl
@[simp] theorem Dev.setXing_cal (d : Dev) (i : Nat) (x : Option Xing) : (d.setXing i x).cal = d.cal := rfl
@[simp] theorem Dev.setXing_thm (d : Dev) (i : Nat) (x : Option Xing) : (d.setXing i x).thm = d.thm := rfl
@[simp] theorem Dev.setXing_whl (d : Dev) (i : Nat) (x : Option Xing) : (d.setXing i x).whl = d.whl := rfl
@[simp] theorem Dev.setXing_fry (d : Dev) (i : Nat) (x : Option Xing) : (d.setXing i x).fry = d.fry := rfl
@[simp] theorem Dev.setXing_hld (d : Dev) (i : Nat) (x : Option Xing) : (d.setXing i x).hld = d.hld := rfl
@[simp] theorem Dev.setXing_svy (d : Dev) (i : Nat) (x : Option Xing) : (d.setXing i x).svy = d.svy := rfl
@[simp] theorem Dev.setXing_rcd (d : Dev) (i : Nat) (x : Option Xing) : (d.setXing i x).rcd = d.rcd := rfl
@[simp] theorem Dev.setXing_ilk (d : Dev) (i : Nat) (x : Option Xing) : (d.setXing i x).ilk = d.ilk := rfl
@[simp] theorem Dev.setXing_hst (d : Dev) (i : Nat) (x : Option Xing) : (d.setXing i x).hst = d.hst := rfl
@[simp] theorem Dev.setXing_mtx (d : Dev) (i : Nat) (x : Option Xing) : (d.setXing i x).mtx = d.mtx := rfl
@[simp] theorem Dev.setXing_rst (d : Dev) (i : Nat) (x : Option Xing) : (d.setXing i x).rst = d.rst := rfl
@[simp] theorem Dev.heads_setHeads_self (d : Dev) (i : Nat) (x : List Work) : (d.setHeads i x).heads i = x := by simp [Dev.heads, Dev.setHeads]
theorem Dev.heads_setHeads_of_ne (d : Dev) (i j : Nat) (x : List Work) (h : j ≠ i) : (d.setHeads i x).heads j = d.heads j :=
  Tab.get_put_of_ne _ _ _ _ _ _ h
@[simp] theorem Dev.get_setHeads (d : Dev) (i : Nat) (x : List Work) (f : Fld) : (d.setHeads i x).get f = d.get f := rfl
@[simp] theorem Dev.on_setHeads (d : Dev) (i : Nat) (x : List Work) (f : Fld) : (d.setHeads i x).on f = d.on f := rfl
@[simp] theorem Dev.setHeads_regs (d : Dev) (i : Nat) (x : List Work) : (d.setHeads i x).regs = d.regs := rfl
@[simp] theorem Dev.setHeads_mt (d : Dev) (i : Nat) (x : List Work) : (d.setHeads i x).mt = d.mt := rfl
@[simp] theorem Dev.setHeads_tick (d : Dev) (i : Nat) (x : List Work) : (d.setHeads i x).tick = d.tick := rfl
@[simp] theorem Dev.setHeads_out (d : Dev) (i : Nat) (x : List Work) : (d.setHeads i x).out = d.out := rfl
@[simp] theorem Dev.setHeads_fresh (d : Dev) (i : Nat) (x : List Work) : (d.setHeads i x).fresh = d.fresh := rfl
@[simp] theorem Dev.setHeads_acc (d : Dev) (i : Nat) (x : List Work) : (d.setHeads i x).acc = d.acc := rfl
@[simp] theorem Dev.setHeads_fab (d : Dev) (i : Nat) (x : List Work) : (d.setHeads i x).fab = d.fab := rfl
@[simp] theorem Dev.setHeads_tk (d : Dev) (i : Nat) (x : List Work) : (d.setHeads i x).tk = d.tk := rfl
@[simp] theorem Dev.setHeads_tide (d : Dev) (i : Nat) (x : List Work) : (d.setHeads i x).tide = d.tide := rfl
@[simp] theorem Dev.setHeads_man (d : Dev) (i : Nat) (x : List Work) : (d.setHeads i x).man = d.man := rfl
@[simp] theorem Dev.setHeads_tps (d : Dev) (i : Nat) (x : List Work) : (d.setHeads i x).tps = d.tps := rfl
@[simp] theorem Dev.setHeads_flt (d : Dev) (i : Nat) (x : List Work) : (d.setHeads i x).flt = d.flt := rfl
@[simp] theorem Dev.setHeads_tim (d : Dev) (i : Nat) (x : List Work) : (d.setHeads i x).tim = d.tim := rfl
@[simp] theorem Dev.setHeads_cap (d : Dev) (i : Nat) (x : List Work) : (d.setHeads i x).cap = d.cap := rfl
@[simp] theorem Dev.setHeads_cal (d : Dev) (i : Nat) (x : List Work) : (d.setHeads i x).cal = d.cal := rfl
@[simp] theorem Dev.setHeads_thm (d : Dev) (i : Nat) (x : List Work) : (d.setHeads i x).thm = d.thm := rfl
@[simp] theorem Dev.setHeads_whl (d : Dev) (i : Nat) (x : List Work) : (d.setHeads i x).whl = d.whl := rfl
@[simp] theorem Dev.setHeads_fry (d : Dev) (i : Nat) (x : List Work) : (d.setHeads i x).fry = d.fry := rfl
@[simp] theorem Dev.setHeads_hld (d : Dev) (i : Nat) (x : List Work) : (d.setHeads i x).hld = d.hld := rfl
@[simp] theorem Dev.setHeads_svy (d : Dev) (i : Nat) (x : List Work) : (d.setHeads i x).svy = d.svy := rfl
@[simp] theorem Dev.setHeads_rcd (d : Dev) (i : Nat) (x : List Work) : (d.setHeads i x).rcd = d.rcd := rfl
@[simp] theorem Dev.setHeads_ilk (d : Dev) (i : Nat) (x : List Work) : (d.setHeads i x).ilk = d.ilk := rfl
@[simp] theorem Dev.setHeads_hst (d : Dev) (i : Nat) (x : List Work) : (d.setHeads i x).hst = d.hst := rfl
@[simp] theorem Dev.setHeads_mtx (d : Dev) (i : Nat) (x : List Work) : (d.setHeads i x).mtx = d.mtx := rfl
@[simp] theorem Dev.setHeads_rst (d : Dev) (i : Nat) (x : List Work) : (d.setHeads i x).rst = d.rst := rfl
@[simp] theorem Dev.ready_setReady_self (d : Dev) (i : Nat) (x : List Work) : (d.setReady i x).ready i = x := by simp [Dev.ready, Dev.setReady]
theorem Dev.ready_setReady_of_ne (d : Dev) (i j : Nat) (x : List Work) (h : j ≠ i) : (d.setReady i x).ready j = d.ready j :=
  Tab.get_put_of_ne _ _ _ _ _ _ h
@[simp] theorem Dev.get_setReady (d : Dev) (i : Nat) (x : List Work) (f : Fld) : (d.setReady i x).get f = d.get f := rfl
@[simp] theorem Dev.on_setReady (d : Dev) (i : Nat) (x : List Work) (f : Fld) : (d.setReady i x).on f = d.on f := rfl
@[simp] theorem Dev.setReady_regs (d : Dev) (i : Nat) (x : List Work) : (d.setReady i x).regs = d.regs := rfl
@[simp] theorem Dev.setReady_mt (d : Dev) (i : Nat) (x : List Work) : (d.setReady i x).mt = d.mt := rfl
@[simp] theorem Dev.setReady_tick (d : Dev) (i : Nat) (x : List Work) : (d.setReady i x).tick = d.tick := rfl
@[simp] theorem Dev.setReady_out (d : Dev) (i : Nat) (x : List Work) : (d.setReady i x).out = d.out := rfl
@[simp] theorem Dev.setReady_fresh (d : Dev) (i : Nat) (x : List Work) : (d.setReady i x).fresh = d.fresh := rfl
@[simp] theorem Dev.setReady_acc (d : Dev) (i : Nat) (x : List Work) : (d.setReady i x).acc = d.acc := rfl
@[simp] theorem Dev.setReady_fab (d : Dev) (i : Nat) (x : List Work) : (d.setReady i x).fab = d.fab := rfl
@[simp] theorem Dev.setReady_tk (d : Dev) (i : Nat) (x : List Work) : (d.setReady i x).tk = d.tk := rfl
@[simp] theorem Dev.setReady_tide (d : Dev) (i : Nat) (x : List Work) : (d.setReady i x).tide = d.tide := rfl
@[simp] theorem Dev.setReady_man (d : Dev) (i : Nat) (x : List Work) : (d.setReady i x).man = d.man := rfl
@[simp] theorem Dev.setReady_tps (d : Dev) (i : Nat) (x : List Work) : (d.setReady i x).tps = d.tps := rfl
@[simp] theorem Dev.setReady_flt (d : Dev) (i : Nat) (x : List Work) : (d.setReady i x).flt = d.flt := rfl
@[simp] theorem Dev.setReady_tim (d : Dev) (i : Nat) (x : List Work) : (d.setReady i x).tim = d.tim := rfl
@[simp] theorem Dev.setReady_cap (d : Dev) (i : Nat) (x : List Work) : (d.setReady i x).cap = d.cap := rfl
@[simp] theorem Dev.setReady_cal (d : Dev) (i : Nat) (x : List Work) : (d.setReady i x).cal = d.cal := rfl
@[simp] theorem Dev.setReady_thm (d : Dev) (i : Nat) (x : List Work) : (d.setReady i x).thm = d.thm := rfl
@[simp] theorem Dev.setReady_whl (d : Dev) (i : Nat) (x : List Work) : (d.setReady i x).whl = d.whl := rfl
@[simp] theorem Dev.setReady_fry (d : Dev) (i : Nat) (x : List Work) : (d.setReady i x).fry = d.fry := rfl
@[simp] theorem Dev.setReady_hld (d : Dev) (i : Nat) (x : List Work) : (d.setReady i x).hld = d.hld := rfl
@[simp] theorem Dev.setReady_svy (d : Dev) (i : Nat) (x : List Work) : (d.setReady i x).svy = d.svy := rfl
@[simp] theorem Dev.setReady_rcd (d : Dev) (i : Nat) (x : List Work) : (d.setReady i x).rcd = d.rcd := rfl
@[simp] theorem Dev.setReady_ilk (d : Dev) (i : Nat) (x : List Work) : (d.setReady i x).ilk = d.ilk := rfl
@[simp] theorem Dev.setReady_hst (d : Dev) (i : Nat) (x : List Work) : (d.setReady i x).hst = d.hst := rfl
@[simp] theorem Dev.setReady_mtx (d : Dev) (i : Nat) (x : List Work) : (d.setReady i x).mtx = d.mtx := rfl
@[simp] theorem Dev.setReady_rst (d : Dev) (i : Nat) (x : List Work) : (d.setReady i x).rst = d.rst := rfl
@[simp] theorem Dev.ring_setRing_self (d : Dev) (i : Nat) (x : Ring) : (d.setRing i x).ring i = x := by simp [Dev.ring, Dev.setRing]
theorem Dev.ring_setRing_of_ne (d : Dev) (i j : Nat) (x : Ring) (h : j ≠ i) : (d.setRing i x).ring j = d.ring j :=
  Tab.get_put_of_ne _ _ _ _ _ _ h
@[simp] theorem Dev.get_setRing (d : Dev) (i : Nat) (x : Ring) (f : Fld) : (d.setRing i x).get f = d.get f := rfl
@[simp] theorem Dev.on_setRing (d : Dev) (i : Nat) (x : Ring) (f : Fld) : (d.setRing i x).on f = d.on f := rfl
@[simp] theorem Dev.setRing_regs (d : Dev) (i : Nat) (x : Ring) : (d.setRing i x).regs = d.regs := rfl
@[simp] theorem Dev.setRing_mt (d : Dev) (i : Nat) (x : Ring) : (d.setRing i x).mt = d.mt := rfl
@[simp] theorem Dev.setRing_tick (d : Dev) (i : Nat) (x : Ring) : (d.setRing i x).tick = d.tick := rfl
@[simp] theorem Dev.setRing_out (d : Dev) (i : Nat) (x : Ring) : (d.setRing i x).out = d.out := rfl
@[simp] theorem Dev.setRing_fresh (d : Dev) (i : Nat) (x : Ring) : (d.setRing i x).fresh = d.fresh := rfl
@[simp] theorem Dev.setRing_acc (d : Dev) (i : Nat) (x : Ring) : (d.setRing i x).acc = d.acc := rfl
@[simp] theorem Dev.setRing_fab (d : Dev) (i : Nat) (x : Ring) : (d.setRing i x).fab = d.fab := rfl
@[simp] theorem Dev.setRing_tk (d : Dev) (i : Nat) (x : Ring) : (d.setRing i x).tk = d.tk := rfl
@[simp] theorem Dev.setRing_tide (d : Dev) (i : Nat) (x : Ring) : (d.setRing i x).tide = d.tide := rfl
@[simp] theorem Dev.setRing_man (d : Dev) (i : Nat) (x : Ring) : (d.setRing i x).man = d.man := rfl
@[simp] theorem Dev.setRing_tps (d : Dev) (i : Nat) (x : Ring) : (d.setRing i x).tps = d.tps := rfl
@[simp] theorem Dev.setRing_flt (d : Dev) (i : Nat) (x : Ring) : (d.setRing i x).flt = d.flt := rfl
@[simp] theorem Dev.setRing_tim (d : Dev) (i : Nat) (x : Ring) : (d.setRing i x).tim = d.tim := rfl
@[simp] theorem Dev.setRing_cap (d : Dev) (i : Nat) (x : Ring) : (d.setRing i x).cap = d.cap := rfl
@[simp] theorem Dev.setRing_cal (d : Dev) (i : Nat) (x : Ring) : (d.setRing i x).cal = d.cal := rfl
@[simp] theorem Dev.setRing_thm (d : Dev) (i : Nat) (x : Ring) : (d.setRing i x).thm = d.thm := rfl
@[simp] theorem Dev.setRing_whl (d : Dev) (i : Nat) (x : Ring) : (d.setRing i x).whl = d.whl := rfl
@[simp] theorem Dev.setRing_fry (d : Dev) (i : Nat) (x : Ring) : (d.setRing i x).fry = d.fry := rfl
@[simp] theorem Dev.setRing_hld (d : Dev) (i : Nat) (x : Ring) : (d.setRing i x).hld = d.hld := rfl
@[simp] theorem Dev.setRing_svy (d : Dev) (i : Nat) (x : Ring) : (d.setRing i x).svy = d.svy := rfl
@[simp] theorem Dev.setRing_rcd (d : Dev) (i : Nat) (x : Ring) : (d.setRing i x).rcd = d.rcd := rfl
@[simp] theorem Dev.setRing_ilk (d : Dev) (i : Nat) (x : Ring) : (d.setRing i x).ilk = d.ilk := rfl
@[simp] theorem Dev.setRing_hst (d : Dev) (i : Nat) (x : Ring) : (d.setRing i x).hst = d.hst := rfl
@[simp] theorem Dev.setRing_mtx (d : Dev) (i : Nat) (x : Ring) : (d.setRing i x).mtx = d.mtx := rfl
@[simp] theorem Dev.setRing_rst (d : Dev) (i : Nat) (x : Ring) : (d.setRing i x).rst = d.rst := rfl
@[simp] theorem Dev.table_setTable_self (d : Dev) (i : Nat) (x : Option Table) : (d.setTable i x).table i = x := by simp [Dev.table, Dev.setTable]
theorem Dev.table_setTable_of_ne (d : Dev) (i j : Nat) (x : Option Table) (h : j ≠ i) : (d.setTable i x).table j = d.table j :=
  Tab.get_put_of_ne _ _ _ _ _ _ h
@[simp] theorem Dev.get_setTable (d : Dev) (i : Nat) (x : Option Table) (f : Fld) : (d.setTable i x).get f = d.get f := rfl
@[simp] theorem Dev.on_setTable (d : Dev) (i : Nat) (x : Option Table) (f : Fld) : (d.setTable i x).on f = d.on f := rfl
@[simp] theorem Dev.setTable_regs (d : Dev) (i : Nat) (x : Option Table) : (d.setTable i x).regs = d.regs := rfl
@[simp] theorem Dev.setTable_mt (d : Dev) (i : Nat) (x : Option Table) : (d.setTable i x).mt = d.mt := rfl
@[simp] theorem Dev.setTable_tick (d : Dev) (i : Nat) (x : Option Table) : (d.setTable i x).tick = d.tick := rfl
@[simp] theorem Dev.setTable_out (d : Dev) (i : Nat) (x : Option Table) : (d.setTable i x).out = d.out := rfl
@[simp] theorem Dev.setTable_fresh (d : Dev) (i : Nat) (x : Option Table) : (d.setTable i x).fresh = d.fresh := rfl
@[simp] theorem Dev.setTable_acc (d : Dev) (i : Nat) (x : Option Table) : (d.setTable i x).acc = d.acc := rfl
@[simp] theorem Dev.setTable_fab (d : Dev) (i : Nat) (x : Option Table) : (d.setTable i x).fab = d.fab := rfl
@[simp] theorem Dev.setTable_tk (d : Dev) (i : Nat) (x : Option Table) : (d.setTable i x).tk = d.tk := rfl
@[simp] theorem Dev.setTable_cmd (d : Dev) (i : Nat) (x : Option Table) : (d.setTable i x).cmd = d.cmd := rfl
@[simp] theorem Dev.setTable_man (d : Dev) (i : Nat) (x : Option Table) : (d.setTable i x).man = d.man := rfl
@[simp] theorem Dev.setTable_tps (d : Dev) (i : Nat) (x : Option Table) : (d.setTable i x).tps = d.tps := rfl
@[simp] theorem Dev.setTable_flt (d : Dev) (i : Nat) (x : Option Table) : (d.setTable i x).flt = d.flt := rfl
@[simp] theorem Dev.setTable_tim (d : Dev) (i : Nat) (x : Option Table) : (d.setTable i x).tim = d.tim := rfl
@[simp] theorem Dev.setTable_cap (d : Dev) (i : Nat) (x : Option Table) : (d.setTable i x).cap = d.cap := rfl
@[simp] theorem Dev.setTable_cal (d : Dev) (i : Nat) (x : Option Table) : (d.setTable i x).cal = d.cal := rfl
@[simp] theorem Dev.setTable_thm (d : Dev) (i : Nat) (x : Option Table) : (d.setTable i x).thm = d.thm := rfl
@[simp] theorem Dev.setTable_whl (d : Dev) (i : Nat) (x : Option Table) : (d.setTable i x).whl = d.whl := rfl
@[simp] theorem Dev.setTable_fry (d : Dev) (i : Nat) (x : Option Table) : (d.setTable i x).fry = d.fry := rfl
@[simp] theorem Dev.setTable_hld (d : Dev) (i : Nat) (x : Option Table) : (d.setTable i x).hld = d.hld := rfl
@[simp] theorem Dev.setTable_svy (d : Dev) (i : Nat) (x : Option Table) : (d.setTable i x).svy = d.svy := rfl
@[simp] theorem Dev.setTable_rcd (d : Dev) (i : Nat) (x : Option Table) : (d.setTable i x).rcd = d.rcd := rfl
@[simp] theorem Dev.setTable_ilk (d : Dev) (i : Nat) (x : Option Table) : (d.setTable i x).ilk = d.ilk := rfl
@[simp] theorem Dev.setTable_hst (d : Dev) (i : Nat) (x : Option Table) : (d.setTable i x).hst = d.hst := rfl
@[simp] theorem Dev.setTable_mtx (d : Dev) (i : Nat) (x : Option Table) : (d.setTable i x).mtx = d.mtx := rfl
@[simp] theorem Dev.setTable_rst (d : Dev) (i : Nat) (x : Option Table) : (d.setTable i x).rst = d.rst := rfl
@[simp] theorem Dev.run_setRun_self (d : Dev) (i : Nat) (x : Option Run) : (d.setRun i x).run i = x := by simp [Dev.run, Dev.setRun]
theorem Dev.run_setRun_of_ne (d : Dev) (i j : Nat) (x : Option Run) (h : j ≠ i) : (d.setRun i x).run j = d.run j :=
  Tab.get_put_of_ne _ _ _ _ _ _ h
@[simp] theorem Dev.get_setRun (d : Dev) (i : Nat) (x : Option Run) (f : Fld) : (d.setRun i x).get f = d.get f := rfl
@[simp] theorem Dev.on_setRun (d : Dev) (i : Nat) (x : Option Run) (f : Fld) : (d.setRun i x).on f = d.on f := rfl
@[simp] theorem Dev.setRun_regs (d : Dev) (i : Nat) (x : Option Run) : (d.setRun i x).regs = d.regs := rfl
@[simp] theorem Dev.setRun_mt (d : Dev) (i : Nat) (x : Option Run) : (d.setRun i x).mt = d.mt := rfl
@[simp] theorem Dev.setRun_tick (d : Dev) (i : Nat) (x : Option Run) : (d.setRun i x).tick = d.tick := rfl
@[simp] theorem Dev.setRun_out (d : Dev) (i : Nat) (x : Option Run) : (d.setRun i x).out = d.out := rfl
@[simp] theorem Dev.setRun_fresh (d : Dev) (i : Nat) (x : Option Run) : (d.setRun i x).fresh = d.fresh := rfl
@[simp] theorem Dev.setRun_acc (d : Dev) (i : Nat) (x : Option Run) : (d.setRun i x).acc = d.acc := rfl
@[simp] theorem Dev.setRun_fab (d : Dev) (i : Nat) (x : Option Run) : (d.setRun i x).fab = d.fab := rfl
@[simp] theorem Dev.setRun_tk (d : Dev) (i : Nat) (x : Option Run) : (d.setRun i x).tk = d.tk := rfl
@[simp] theorem Dev.setRun_cmd (d : Dev) (i : Nat) (x : Option Run) : (d.setRun i x).cmd = d.cmd := rfl
@[simp] theorem Dev.setRun_man (d : Dev) (i : Nat) (x : Option Run) : (d.setRun i x).man = d.man := rfl
@[simp] theorem Dev.setRun_tps (d : Dev) (i : Nat) (x : Option Run) : (d.setRun i x).tps = d.tps := rfl
@[simp] theorem Dev.setRun_flt (d : Dev) (i : Nat) (x : Option Run) : (d.setRun i x).flt = d.flt := rfl
@[simp] theorem Dev.setRun_tim (d : Dev) (i : Nat) (x : Option Run) : (d.setRun i x).tim = d.tim := rfl
@[simp] theorem Dev.setRun_cap (d : Dev) (i : Nat) (x : Option Run) : (d.setRun i x).cap = d.cap := rfl
@[simp] theorem Dev.setRun_cal (d : Dev) (i : Nat) (x : Option Run) : (d.setRun i x).cal = d.cal := rfl
@[simp] theorem Dev.setRun_thm (d : Dev) (i : Nat) (x : Option Run) : (d.setRun i x).thm = d.thm := rfl
@[simp] theorem Dev.setRun_whl (d : Dev) (i : Nat) (x : Option Run) : (d.setRun i x).whl = d.whl := rfl
@[simp] theorem Dev.setRun_fry (d : Dev) (i : Nat) (x : Option Run) : (d.setRun i x).fry = d.fry := rfl
@[simp] theorem Dev.setRun_hld (d : Dev) (i : Nat) (x : Option Run) : (d.setRun i x).hld = d.hld := rfl
@[simp] theorem Dev.setRun_svy (d : Dev) (i : Nat) (x : Option Run) : (d.setRun i x).svy = d.svy := rfl
@[simp] theorem Dev.setRun_rcd (d : Dev) (i : Nat) (x : Option Run) : (d.setRun i x).rcd = d.rcd := rfl
@[simp] theorem Dev.setRun_ilk (d : Dev) (i : Nat) (x : Option Run) : (d.setRun i x).ilk = d.ilk := rfl
@[simp] theorem Dev.setRun_hst (d : Dev) (i : Nat) (x : Option Run) : (d.setRun i x).hst = d.hst := rfl
@[simp] theorem Dev.setRun_mtx (d : Dev) (i : Nat) (x : Option Run) : (d.setRun i x).mtx = d.mtx := rfl
@[simp] theorem Dev.setRun_rst (d : Dev) (i : Nat) (x : Option Run) : (d.setRun i x).rst = d.rst := rfl
@[simp] theorem Dev.sysX_setSysX_self (d : Dev) (i : Nat) (x : Option Sys) : (d.setSysX i x).sysX i = x := by simp [Dev.sysX, Dev.setSysX]
theorem Dev.sysX_setSysX_of_ne (d : Dev) (i j : Nat) (x : Option Sys) (h : j ≠ i) : (d.setSysX i x).sysX j = d.sysX j :=
  Tab.get_put_of_ne _ _ _ _ _ _ h
@[simp] theorem Dev.get_setSysX (d : Dev) (i : Nat) (x : Option Sys) (f : Fld) : (d.setSysX i x).get f = d.get f := rfl
@[simp] theorem Dev.on_setSysX (d : Dev) (i : Nat) (x : Option Sys) (f : Fld) : (d.setSysX i x).on f = d.on f := rfl
@[simp] theorem Dev.setSysX_regs (d : Dev) (i : Nat) (x : Option Sys) : (d.setSysX i x).regs = d.regs := rfl
@[simp] theorem Dev.setSysX_mt (d : Dev) (i : Nat) (x : Option Sys) : (d.setSysX i x).mt = d.mt := rfl
@[simp] theorem Dev.setSysX_tick (d : Dev) (i : Nat) (x : Option Sys) : (d.setSysX i x).tick = d.tick := rfl
@[simp] theorem Dev.setSysX_out (d : Dev) (i : Nat) (x : Option Sys) : (d.setSysX i x).out = d.out := rfl
@[simp] theorem Dev.setSysX_fresh (d : Dev) (i : Nat) (x : Option Sys) : (d.setSysX i x).fresh = d.fresh := rfl
@[simp] theorem Dev.setSysX_acc (d : Dev) (i : Nat) (x : Option Sys) : (d.setSysX i x).acc = d.acc := rfl
@[simp] theorem Dev.setSysX_fab (d : Dev) (i : Nat) (x : Option Sys) : (d.setSysX i x).fab = d.fab := rfl
@[simp] theorem Dev.setSysX_tk (d : Dev) (i : Nat) (x : Option Sys) : (d.setSysX i x).tk = d.tk := rfl
@[simp] theorem Dev.setSysX_cmd (d : Dev) (i : Nat) (x : Option Sys) : (d.setSysX i x).cmd = d.cmd := rfl
@[simp] theorem Dev.setSysX_man (d : Dev) (i : Nat) (x : Option Sys) : (d.setSysX i x).man = d.man := rfl
@[simp] theorem Dev.setSysX_tps (d : Dev) (i : Nat) (x : Option Sys) : (d.setSysX i x).tps = d.tps := rfl
@[simp] theorem Dev.setSysX_flt (d : Dev) (i : Nat) (x : Option Sys) : (d.setSysX i x).flt = d.flt := rfl
@[simp] theorem Dev.setSysX_tim (d : Dev) (i : Nat) (x : Option Sys) : (d.setSysX i x).tim = d.tim := rfl
@[simp] theorem Dev.setSysX_cap (d : Dev) (i : Nat) (x : Option Sys) : (d.setSysX i x).cap = d.cap := rfl
@[simp] theorem Dev.setSysX_cal (d : Dev) (i : Nat) (x : Option Sys) : (d.setSysX i x).cal = d.cal := rfl
@[simp] theorem Dev.setSysX_thm (d : Dev) (i : Nat) (x : Option Sys) : (d.setSysX i x).thm = d.thm := rfl
@[simp] theorem Dev.setSysX_whl (d : Dev) (i : Nat) (x : Option Sys) : (d.setSysX i x).whl = d.whl := rfl
@[simp] theorem Dev.setSysX_fry (d : Dev) (i : Nat) (x : Option Sys) : (d.setSysX i x).fry = d.fry := rfl
@[simp] theorem Dev.setSysX_hld (d : Dev) (i : Nat) (x : Option Sys) : (d.setSysX i x).hld = d.hld := rfl
@[simp] theorem Dev.setSysX_svy (d : Dev) (i : Nat) (x : Option Sys) : (d.setSysX i x).svy = d.svy := rfl
@[simp] theorem Dev.setSysX_rcd (d : Dev) (i : Nat) (x : Option Sys) : (d.setSysX i x).rcd = d.rcd := rfl
@[simp] theorem Dev.setSysX_ilk (d : Dev) (i : Nat) (x : Option Sys) : (d.setSysX i x).ilk = d.ilk := rfl
@[simp] theorem Dev.setSysX_hst (d : Dev) (i : Nat) (x : Option Sys) : (d.setSysX i x).hst = d.hst := rfl
@[simp] theorem Dev.setSysX_mtx (d : Dev) (i : Nat) (x : Option Sys) : (d.setSysX i x).mtx = d.mtx := rfl
@[simp] theorem Dev.setSysX_rst (d : Dev) (i : Nat) (x : Option Sys) : (d.setSysX i x).rst = d.rst := rfl
@[simp] theorem Dev.occ_setOcc_self (d : Dev) (i : Nat) (x : Occ) : (d.setOcc i x).occ i = x := by simp [Dev.occ, Dev.setOcc]
theorem Dev.occ_setOcc_of_ne (d : Dev) (i j : Nat) (x : Occ) (h : j ≠ i) : (d.setOcc i x).occ j = d.occ j :=
  Tab.get_put_of_ne _ _ _ _ _ _ h
@[simp] theorem Dev.get_setOcc (d : Dev) (i : Nat) (x : Occ) (f : Fld) : (d.setOcc i x).get f = d.get f := rfl
@[simp] theorem Dev.on_setOcc (d : Dev) (i : Nat) (x : Occ) (f : Fld) : (d.setOcc i x).on f = d.on f := rfl
@[simp] theorem Dev.setOcc_regs (d : Dev) (i : Nat) (x : Occ) : (d.setOcc i x).regs = d.regs := rfl
@[simp] theorem Dev.setOcc_mt (d : Dev) (i : Nat) (x : Occ) : (d.setOcc i x).mt = d.mt := rfl
@[simp] theorem Dev.setOcc_tick (d : Dev) (i : Nat) (x : Occ) : (d.setOcc i x).tick = d.tick := rfl
@[simp] theorem Dev.setOcc_out (d : Dev) (i : Nat) (x : Occ) : (d.setOcc i x).out = d.out := rfl
@[simp] theorem Dev.setOcc_fresh (d : Dev) (i : Nat) (x : Occ) : (d.setOcc i x).fresh = d.fresh := rfl
@[simp] theorem Dev.setOcc_acc (d : Dev) (i : Nat) (x : Occ) : (d.setOcc i x).acc = d.acc := rfl
@[simp] theorem Dev.setOcc_fab (d : Dev) (i : Nat) (x : Occ) : (d.setOcc i x).fab = d.fab := rfl
@[simp] theorem Dev.setOcc_tk (d : Dev) (i : Nat) (x : Occ) : (d.setOcc i x).tk = d.tk := rfl
@[simp] theorem Dev.setOcc_cmd (d : Dev) (i : Nat) (x : Occ) : (d.setOcc i x).cmd = d.cmd := rfl
@[simp] theorem Dev.setOcc_tide (d : Dev) (i : Nat) (x : Occ) : (d.setOcc i x).tide = d.tide := rfl
@[simp] theorem Dev.setOcc_man (d : Dev) (i : Nat) (x : Occ) : (d.setOcc i x).man = d.man := rfl
@[simp] theorem Dev.setOcc_tps (d : Dev) (i : Nat) (x : Occ) : (d.setOcc i x).tps = d.tps := rfl
@[simp] theorem Dev.setOcc_tim (d : Dev) (i : Nat) (x : Occ) : (d.setOcc i x).tim = d.tim := rfl
@[simp] theorem Dev.setOcc_cap (d : Dev) (i : Nat) (x : Occ) : (d.setOcc i x).cap = d.cap := rfl
@[simp] theorem Dev.setOcc_cal (d : Dev) (i : Nat) (x : Occ) : (d.setOcc i x).cal = d.cal := rfl
@[simp] theorem Dev.setOcc_thm (d : Dev) (i : Nat) (x : Occ) : (d.setOcc i x).thm = d.thm := rfl
@[simp] theorem Dev.setOcc_whl (d : Dev) (i : Nat) (x : Occ) : (d.setOcc i x).whl = d.whl := rfl
@[simp] theorem Dev.setOcc_fry (d : Dev) (i : Nat) (x : Occ) : (d.setOcc i x).fry = d.fry := rfl
@[simp] theorem Dev.setOcc_hld (d : Dev) (i : Nat) (x : Occ) : (d.setOcc i x).hld = d.hld := rfl
@[simp] theorem Dev.setOcc_svy (d : Dev) (i : Nat) (x : Occ) : (d.setOcc i x).svy = d.svy := rfl
@[simp] theorem Dev.setOcc_rcd (d : Dev) (i : Nat) (x : Occ) : (d.setOcc i x).rcd = d.rcd := rfl
@[simp] theorem Dev.setOcc_ilk (d : Dev) (i : Nat) (x : Occ) : (d.setOcc i x).ilk = d.ilk := rfl
@[simp] theorem Dev.setOcc_hst (d : Dev) (i : Nat) (x : Occ) : (d.setOcc i x).hst = d.hst := rfl
@[simp] theorem Dev.setOcc_mtx (d : Dev) (i : Nat) (x : Occ) : (d.setOcc i x).mtx = d.mtx := rfl
@[simp] theorem Dev.setOcc_rst (d : Dev) (i : Nat) (x : Occ) : (d.setOcc i x).rst = d.rst := rfl

/-! ## What setting a field, putting something out, the clock and a free value leave alone -/

@[simp] theorem Dev.set_mt (d : Dev) (f : Fld) (v : Nat) : (d.set f v).mt = d.mt := rfl
@[simp] theorem Dev.set_tick (d : Dev) (f : Fld) (v : Nat) : (d.set f v).tick = d.tick := rfl
@[simp] theorem Dev.set_out (d : Dev) (f : Fld) (v : Nat) : (d.set f v).out = d.out := rfl
@[simp] theorem Dev.set_fresh (d : Dev) (f : Fld) (v : Nat) : (d.set f v).fresh = d.fresh := rfl
@[simp] theorem Dev.set_acc (d : Dev) (f : Fld) (v : Nat) : (d.set f v).acc = d.acc := rfl
@[simp] theorem Dev.set_fab (d : Dev) (f : Fld) (v : Nat) : (d.set f v).fab = d.fab := rfl
@[simp] theorem Dev.set_tk (d : Dev) (f : Fld) (v : Nat) : (d.set f v).tk = d.tk := rfl
@[simp] theorem Dev.set_cmd (d : Dev) (f : Fld) (v : Nat) : (d.set f v).cmd = d.cmd := rfl
@[simp] theorem Dev.set_tide (d : Dev) (f : Fld) (v : Nat) : (d.set f v).tide = d.tide := rfl
@[simp] theorem Dev.set_man (d : Dev) (f : Fld) (v : Nat) : (d.set f v).man = d.man := rfl
@[simp] theorem Dev.set_tps (d : Dev) (f : Fld) (v : Nat) : (d.set f v).tps = d.tps := rfl
@[simp] theorem Dev.set_flt (d : Dev) (f : Fld) (v : Nat) : (d.set f v).flt = d.flt := rfl
@[simp] theorem Dev.set_tim (d : Dev) (f : Fld) (v : Nat) : (d.set f v).tim = d.tim := rfl
@[simp] theorem Dev.set_cap (d : Dev) (f : Fld) (v : Nat) : (d.set f v).cap = d.cap := rfl
@[simp] theorem Dev.set_cal (d : Dev) (f : Fld) (v : Nat) : (d.set f v).cal = d.cal := rfl
@[simp] theorem Dev.set_thm (d : Dev) (f : Fld) (v : Nat) : (d.set f v).thm = d.thm := rfl
@[simp] theorem Dev.set_whl (d : Dev) (f : Fld) (v : Nat) : (d.set f v).whl = d.whl := rfl
@[simp] theorem Dev.set_fry (d : Dev) (f : Fld) (v : Nat) : (d.set f v).fry = d.fry := rfl
@[simp] theorem Dev.set_hld (d : Dev) (f : Fld) (v : Nat) : (d.set f v).hld = d.hld := rfl
@[simp] theorem Dev.set_svy (d : Dev) (f : Fld) (v : Nat) : (d.set f v).svy = d.svy := rfl
@[simp] theorem Dev.set_rcd (d : Dev) (f : Fld) (v : Nat) : (d.set f v).rcd = d.rcd := rfl
@[simp] theorem Dev.set_ilk (d : Dev) (f : Fld) (v : Nat) : (d.set f v).ilk = d.ilk := rfl
@[simp] theorem Dev.set_hst (d : Dev) (f : Fld) (v : Nat) : (d.set f v).hst = d.hst := rfl
@[simp] theorem Dev.set_mtx (d : Dev) (f : Fld) (v : Nat) : (d.set f v).mtx = d.mtx := rfl
@[simp] theorem Dev.set_rst (d : Dev) (f : Fld) (v : Nat) : (d.set f v).rst = d.rst := rfl
@[simp] theorem Dev.emit_regs (d : Dev) (o : Out) : (d.emit o).regs = d.regs := rfl
@[simp] theorem Dev.emit_mt (d : Dev) (o : Out) : (d.emit o).mt = d.mt := rfl
@[simp] theorem Dev.emit_tick (d : Dev) (o : Out) : (d.emit o).tick = d.tick := rfl
@[simp] theorem Dev.emit_fresh (d : Dev) (o : Out) : (d.emit o).fresh = d.fresh := rfl
@[simp] theorem Dev.emit_acc (d : Dev) (o : Out) : (d.emit o).acc = d.acc := rfl
@[simp] theorem Dev.emit_fab (d : Dev) (o : Out) : (d.emit o).fab = d.fab := rfl
@[simp] theorem Dev.emit_tk (d : Dev) (o : Out) : (d.emit o).tk = d.tk := rfl
@[simp] theorem Dev.emit_cmd (d : Dev) (o : Out) : (d.emit o).cmd = d.cmd := rfl
@[simp] theorem Dev.emit_tide (d : Dev) (o : Out) : (d.emit o).tide = d.tide := rfl
@[simp] theorem Dev.emit_man (d : Dev) (o : Out) : (d.emit o).man = d.man := rfl
@[simp] theorem Dev.emit_tps (d : Dev) (o : Out) : (d.emit o).tps = d.tps := rfl
@[simp] theorem Dev.emit_flt (d : Dev) (o : Out) : (d.emit o).flt = d.flt := rfl
@[simp] theorem Dev.emit_tim (d : Dev) (o : Out) : (d.emit o).tim = d.tim := rfl
@[simp] theorem Dev.emit_cap (d : Dev) (o : Out) : (d.emit o).cap = d.cap := rfl
@[simp] theorem Dev.emit_cal (d : Dev) (o : Out) : (d.emit o).cal = d.cal := rfl
@[simp] theorem Dev.emit_thm (d : Dev) (o : Out) : (d.emit o).thm = d.thm := rfl
@[simp] theorem Dev.emit_whl (d : Dev) (o : Out) : (d.emit o).whl = d.whl := rfl
@[simp] theorem Dev.emit_fry (d : Dev) (o : Out) : (d.emit o).fry = d.fry := rfl
@[simp] theorem Dev.emit_hld (d : Dev) (o : Out) : (d.emit o).hld = d.hld := rfl
@[simp] theorem Dev.emit_svy (d : Dev) (o : Out) : (d.emit o).svy = d.svy := rfl
@[simp] theorem Dev.emit_rcd (d : Dev) (o : Out) : (d.emit o).rcd = d.rcd := rfl
@[simp] theorem Dev.emit_ilk (d : Dev) (o : Out) : (d.emit o).ilk = d.ilk := rfl
@[simp] theorem Dev.emit_hst (d : Dev) (o : Out) : (d.emit o).hst = d.hst := rfl
@[simp] theorem Dev.emit_mtx (d : Dev) (o : Out) : (d.emit o).mtx = d.mtx := rfl
@[simp] theorem Dev.emit_rst (d : Dev) (o : Out) : (d.emit o).rst = d.rst := rfl
@[simp] theorem Dev.emit_out (d : Dev) (o : Out) : (d.emit o).out = d.out ++ [o] := rfl
@[simp] theorem Dev.get_emit (d : Dev) (o : Out) (f : Fld) : (d.emit o).get f = d.get f := rfl
@[simp] theorem Dev.ticks_regs (d : Dev) (n : Nat) : (d.ticks n).regs = d.regs := rfl
@[simp] theorem Dev.ticks_out (d : Dev) (n : Nat) : (d.ticks n).out = d.out := rfl
@[simp] theorem Dev.ticks_fresh (d : Dev) (n : Nat) : (d.ticks n).fresh = d.fresh := rfl
@[simp] theorem Dev.ticks_acc (d : Dev) (n : Nat) : (d.ticks n).acc = d.acc := rfl
@[simp] theorem Dev.ticks_fab (d : Dev) (n : Nat) : (d.ticks n).fab = d.fab := rfl
@[simp] theorem Dev.ticks_tk (d : Dev) (n : Nat) : (d.ticks n).tk = d.tk := rfl
@[simp] theorem Dev.ticks_cmd (d : Dev) (n : Nat) : (d.ticks n).cmd = d.cmd := rfl
@[simp] theorem Dev.ticks_tide (d : Dev) (n : Nat) : (d.ticks n).tide = d.tide := rfl
@[simp] theorem Dev.ticks_man (d : Dev) (n : Nat) : (d.ticks n).man = d.man := rfl
@[simp] theorem Dev.ticks_tps (d : Dev) (n : Nat) : (d.ticks n).tps = d.tps := rfl
@[simp] theorem Dev.ticks_flt (d : Dev) (n : Nat) : (d.ticks n).flt = d.flt := rfl
@[simp] theorem Dev.ticks_tim (d : Dev) (n : Nat) : (d.ticks n).tim = d.tim := rfl
@[simp] theorem Dev.ticks_cap (d : Dev) (n : Nat) : (d.ticks n).cap = d.cap := rfl
@[simp] theorem Dev.ticks_cal (d : Dev) (n : Nat) : (d.ticks n).cal = d.cal := rfl
@[simp] theorem Dev.ticks_thm (d : Dev) (n : Nat) : (d.ticks n).thm = d.thm := rfl
@[simp] theorem Dev.ticks_whl (d : Dev) (n : Nat) : (d.ticks n).whl = d.whl := rfl
@[simp] theorem Dev.ticks_fry (d : Dev) (n : Nat) : (d.ticks n).fry = d.fry := rfl
@[simp] theorem Dev.ticks_hld (d : Dev) (n : Nat) : (d.ticks n).hld = d.hld := rfl
@[simp] theorem Dev.ticks_svy (d : Dev) (n : Nat) : (d.ticks n).svy = d.svy := rfl
@[simp] theorem Dev.ticks_rcd (d : Dev) (n : Nat) : (d.ticks n).rcd = d.rcd := rfl
@[simp] theorem Dev.ticks_ilk (d : Dev) (n : Nat) : (d.ticks n).ilk = d.ilk := rfl
@[simp] theorem Dev.ticks_hst (d : Dev) (n : Nat) : (d.ticks n).hst = d.hst := rfl
@[simp] theorem Dev.ticks_mtx (d : Dev) (n : Nat) : (d.ticks n).mtx = d.mtx := rfl
@[simp] theorem Dev.ticks_rst (d : Dev) (n : Nat) : (d.ticks n).rst = d.rst := rfl
@[simp] theorem Dev.ticks_mt (d : Dev) (n : Nat) : (d.ticks n).mt = d.mt + n * d.get TIM_INCR := rfl
@[simp] theorem Dev.ticks_tick (d : Dev) (n : Nat) : (d.ticks n).tick = d.tick + n := rfl
@[simp] theorem Dev.get_ticks (d : Dev) (n : Nat) (f : Fld) : (d.ticks n).get f = d.get f := rfl
@[simp] theorem Dev.ilkSlot_set (d : Dev) (f : Fld) (v i : Nat) : (d.set f v).ilkSlot i = d.ilkSlot i := rfl
@[simp] theorem Dev.ilkSlot_emit (d : Dev) (o : Out) (i : Nat) : (d.emit o).ilkSlot i = d.ilkSlot i := rfl
@[simp] theorem Dev.ilkSlot_ticks (d : Dev) (n i : Nat) : (d.ticks n).ilkSlot i = d.ilkSlot i := rfl
@[simp] theorem Dev.src_set (d : Dev) (f : Fld) (v i : Nat) : (d.set f v).src i = d.src i := rfl
@[simp] theorem Dev.src_emit (d : Dev) (o : Out) (i : Nat) : (d.emit o).src i = d.src i := rfl
@[simp] theorem Dev.src_ticks (d : Dev) (n i : Nat) : (d.ticks n).src i = d.src i := rfl
@[simp] theorem Dev.fwd_set (d : Dev) (f : Fld) (v i : Nat) : (d.set f v).fwd i = d.fwd i := rfl
@[simp] theorem Dev.fwd_emit (d : Dev) (o : Out) (i : Nat) : (d.emit o).fwd i = d.fwd i := rfl
@[simp] theorem Dev.fwd_ticks (d : Dev) (n i : Nat) : (d.ticks n).fwd i = d.fwd i := rfl
@[simp] theorem Dev.conv_set (d : Dev) (f : Fld) (v i : Nat) : (d.set f v).conv i = d.conv i := rfl
@[simp] theorem Dev.conv_emit (d : Dev) (o : Out) (i : Nat) : (d.emit o).conv i = d.conv i := rfl
@[simp] theorem Dev.conv_ticks (d : Dev) (n i : Nat) : (d.ticks n).conv i = d.conv i := rfl
@[simp] theorem Dev.gw_set (d : Dev) (f : Fld) (v i : Nat) : (d.set f v).gw i = d.gw i := rfl
@[simp] theorem Dev.gw_emit (d : Dev) (o : Out) (i : Nat) : (d.emit o).gw i = d.gw i := rfl
@[simp] theorem Dev.gw_ticks (d : Dev) (n i : Nat) : (d.ticks n).gw i = d.gw i := rfl
@[simp] theorem Dev.rcdr_set (d : Dev) (f : Fld) (v i : Nat) : (d.set f v).rcdr i = d.rcdr i := rfl
@[simp] theorem Dev.rcdr_emit (d : Dev) (o : Out) (i : Nat) : (d.emit o).rcdr i = d.rcdr i := rfl
@[simp] theorem Dev.rcdr_ticks (d : Dev) (n i : Nat) : (d.ticks n).rcdr i = d.rcdr i := rfl
@[simp] theorem Dev.checker_set (d : Dev) (f : Fld) (v i : Nat) : (d.set f v).checker i = d.checker i := rfl
@[simp] theorem Dev.checker_emit (d : Dev) (o : Out) (i : Nat) : (d.emit o).checker i = d.checker i := rfl
@[simp] theorem Dev.checker_ticks (d : Dev) (n i : Nat) : (d.ticks n).checker i = d.checker i := rfl
@[simp] theorem Dev.fryP_set (d : Dev) (f : Fld) (v i : Nat) : (d.set f v).fryP i = d.fryP i := rfl
@[simp] theorem Dev.fryP_emit (d : Dev) (o : Out) (i : Nat) : (d.emit o).fryP i = d.fryP i := rfl
@[simp] theorem Dev.fryP_ticks (d : Dev) (n i : Nat) : (d.ticks n).fryP i = d.fryP i := rfl
@[simp] theorem Dev.loop_set (d : Dev) (f : Fld) (v i : Nat) : (d.set f v).loop i = d.loop i := rfl
@[simp] theorem Dev.loop_emit (d : Dev) (o : Out) (i : Nat) : (d.emit o).loop i = d.loop i := rfl
@[simp] theorem Dev.loop_ticks (d : Dev) (n i : Nat) : (d.ticks n).loop i = d.loop i := rfl
@[simp] theorem Dev.group_set (d : Dev) (f : Fld) (v i : Nat) : (d.set f v).group i = d.group i := rfl
@[simp] theorem Dev.group_emit (d : Dev) (o : Out) (i : Nat) : (d.emit o).group i = d.group i := rfl
@[simp] theorem Dev.group_ticks (d : Dev) (n i : Nat) : (d.ticks n).group i = d.group i := rfl
@[simp] theorem Dev.adc_set (d : Dev) (f : Fld) (v i : Nat) : (d.set f v).adc i = d.adc i := rfl
@[simp] theorem Dev.adc_emit (d : Dev) (o : Out) (i : Nat) : (d.emit o).adc i = d.adc i := rfl
@[simp] theorem Dev.adc_ticks (d : Dev) (n i : Nat) : (d.ticks n).adc i = d.adc i := rfl
@[simp] theorem Dev.probeCor_set (d : Dev) (f : Fld) (v i : Nat) : (d.set f v).probeCor i = d.probeCor i := rfl
@[simp] theorem Dev.probeCor_emit (d : Dev) (o : Out) (i : Nat) : (d.emit o).probeCor i = d.probeCor i := rfl
@[simp] theorem Dev.probeCor_ticks (d : Dev) (n i : Nat) : (d.ticks n).probeCor i = d.probeCor i := rfl
@[simp] theorem Dev.ff_set (d : Dev) (f : Fld) (v i : Nat) : (d.set f v).ff i = d.ff i := rfl
@[simp] theorem Dev.ff_emit (d : Dev) (o : Out) (i : Nat) : (d.emit o).ff i = d.ff i := rfl
@[simp] theorem Dev.ff_ticks (d : Dev) (n i : Nat) : (d.ticks n).ff i = d.ff i := rfl
@[simp] theorem Dev.tref_set (d : Dev) (f : Fld) (v i : Nat) : (d.set f v).tref i = d.tref i := rfl
@[simp] theorem Dev.tref_emit (d : Dev) (o : Out) (i : Nat) : (d.emit o).tref i = d.tref i := rfl
@[simp] theorem Dev.tref_ticks (d : Dev) (n i : Nat) : (d.ticks n).tref i = d.tref i := rfl
@[simp] theorem Dev.trig_set (d : Dev) (f : Fld) (v i : Nat) : (d.set f v).trig i = d.trig i := rfl
@[simp] theorem Dev.trig_emit (d : Dev) (o : Out) (i : Nat) : (d.emit o).trig i = d.trig i := rfl
@[simp] theorem Dev.trig_ticks (d : Dev) (n i : Nat) : (d.ticks n).trig i = d.trig i := rfl
@[simp] theorem Dev.reachRun_set (d : Dev) (f : Fld) (v i : Nat) : (d.set f v).reachRun i = d.reachRun i := rfl
@[simp] theorem Dev.reachRun_emit (d : Dev) (o : Out) (i : Nat) : (d.emit o).reachRun i = d.reachRun i := rfl
@[simp] theorem Dev.reachRun_ticks (d : Dev) (n i : Nat) : (d.ticks n).reachRun i = d.reachRun i := rfl
@[simp] theorem Dev.wh_set (d : Dev) (f : Fld) (v i : Nat) : (d.set f v).wh i = d.wh i := rfl
@[simp] theorem Dev.wh_emit (d : Dev) (o : Out) (i : Nat) : (d.emit o).wh i = d.wh i := rfl
@[simp] theorem Dev.wh_ticks (d : Dev) (n i : Nat) : (d.ticks n).wh i = d.wh i := rfl
@[simp] theorem Dev.stage_set (d : Dev) (f : Fld) (v i : Nat) : (d.set f v).stage i = d.stage i := rfl
@[simp] theorem Dev.stage_emit (d : Dev) (o : Out) (i : Nat) : (d.emit o).stage i = d.stage i := rfl
@[simp] theorem Dev.stage_ticks (d : Dev) (n i : Nat) : (d.ticks n).stage i = d.stage i := rfl
@[simp] theorem Dev.cell_set (d : Dev) (f : Fld) (v i : Nat) : (d.set f v).cell i = d.cell i := rfl
@[simp] theorem Dev.cell_emit (d : Dev) (o : Out) (i : Nat) : (d.emit o).cell i = d.cell i := rfl
@[simp] theorem Dev.cell_ticks (d : Dev) (n i : Nat) : (d.ticks n).cell i = d.cell i := rfl
@[simp] theorem Dev.blk_set (d : Dev) (f : Fld) (v i : Nat) : (d.set f v).blk i = d.blk i := rfl
@[simp] theorem Dev.blk_emit (d : Dev) (o : Out) (i : Nat) : (d.emit o).blk i = d.blk i := rfl
@[simp] theorem Dev.blk_ticks (d : Dev) (n i : Nat) : (d.ticks n).blk i = d.blk i := rfl
@[simp] theorem Dev.rch_set (d : Dev) (f : Fld) (v i : Nat) : (d.set f v).rch i = d.rch i := rfl
@[simp] theorem Dev.rch_emit (d : Dev) (o : Out) (i : Nat) : (d.emit o).rch i = d.rch i := rfl
@[simp] theorem Dev.rch_ticks (d : Dev) (n i : Nat) : (d.ticks n).rch i = d.rch i := rfl
@[simp] theorem Dev.inP_set (d : Dev) (f : Fld) (v i : Nat) : (d.set f v).inP i = d.inP i := rfl
@[simp] theorem Dev.inP_emit (d : Dev) (o : Out) (i : Nat) : (d.emit o).inP i = d.inP i := rfl
@[simp] theorem Dev.inP_ticks (d : Dev) (n i : Nat) : (d.ticks n).inP i = d.inP i := rfl
@[simp] theorem Dev.outP_set (d : Dev) (f : Fld) (v i : Nat) : (d.set f v).outP i = d.outP i := rfl
@[simp] theorem Dev.outP_emit (d : Dev) (o : Out) (i : Nat) : (d.emit o).outP i = d.outP i := rfl
@[simp] theorem Dev.outP_ticks (d : Dev) (n i : Nat) : (d.ticks n).outP i = d.outP i := rfl
@[simp] theorem Dev.link_set (d : Dev) (f : Fld) (v i : Nat) : (d.set f v).link i = d.link i := rfl
@[simp] theorem Dev.link_emit (d : Dev) (o : Out) (i : Nat) : (d.emit o).link i = d.link i := rfl
@[simp] theorem Dev.link_ticks (d : Dev) (n i : Nat) : (d.ticks n).link i = d.link i := rfl
@[simp] theorem Dev.tkt_set (d : Dev) (f : Fld) (v i : Nat) : (d.set f v).tkt i = d.tkt i := rfl
@[simp] theorem Dev.tkt_emit (d : Dev) (o : Out) (i : Nat) : (d.emit o).tkt i = d.tkt i := rfl
@[simp] theorem Dev.tkt_ticks (d : Dev) (n i : Nat) : (d.ticks n).tkt i = d.tkt i := rfl
@[simp] theorem Dev.op_set (d : Dev) (f : Fld) (v i : Nat) : (d.set f v).op i = d.op i := rfl
@[simp] theorem Dev.op_emit (d : Dev) (o : Out) (i : Nat) : (d.emit o).op i = d.op i := rfl
@[simp] theorem Dev.op_ticks (d : Dev) (n i : Nat) : (d.ticks n).op i = d.op i := rfl
@[simp] theorem Dev.xing_set (d : Dev) (f : Fld) (v i : Nat) : (d.set f v).xing i = d.xing i := rfl
@[simp] theorem Dev.xing_emit (d : Dev) (o : Out) (i : Nat) : (d.emit o).xing i = d.xing i := rfl
@[simp] theorem Dev.xing_ticks (d : Dev) (n i : Nat) : (d.ticks n).xing i = d.xing i := rfl
@[simp] theorem Dev.heads_set (d : Dev) (f : Fld) (v i : Nat) : (d.set f v).heads i = d.heads i := rfl
@[simp] theorem Dev.heads_emit (d : Dev) (o : Out) (i : Nat) : (d.emit o).heads i = d.heads i := rfl
@[simp] theorem Dev.heads_ticks (d : Dev) (n i : Nat) : (d.ticks n).heads i = d.heads i := rfl
@[simp] theorem Dev.ready_set (d : Dev) (f : Fld) (v i : Nat) : (d.set f v).ready i = d.ready i := rfl
@[simp] theorem Dev.ready_emit (d : Dev) (o : Out) (i : Nat) : (d.emit o).ready i = d.ready i := rfl
@[simp] theorem Dev.ready_ticks (d : Dev) (n i : Nat) : (d.ticks n).ready i = d.ready i := rfl
@[simp] theorem Dev.ring_set (d : Dev) (f : Fld) (v i : Nat) : (d.set f v).ring i = d.ring i := rfl
@[simp] theorem Dev.ring_emit (d : Dev) (o : Out) (i : Nat) : (d.emit o).ring i = d.ring i := rfl
@[simp] theorem Dev.ring_ticks (d : Dev) (n i : Nat) : (d.ticks n).ring i = d.ring i := rfl
@[simp] theorem Dev.table_set (d : Dev) (f : Fld) (v i : Nat) : (d.set f v).table i = d.table i := rfl
@[simp] theorem Dev.table_emit (d : Dev) (o : Out) (i : Nat) : (d.emit o).table i = d.table i := rfl
@[simp] theorem Dev.table_ticks (d : Dev) (n i : Nat) : (d.ticks n).table i = d.table i := rfl
@[simp] theorem Dev.run_set (d : Dev) (f : Fld) (v i : Nat) : (d.set f v).run i = d.run i := rfl
@[simp] theorem Dev.run_emit (d : Dev) (o : Out) (i : Nat) : (d.emit o).run i = d.run i := rfl
@[simp] theorem Dev.run_ticks (d : Dev) (n i : Nat) : (d.ticks n).run i = d.run i := rfl
@[simp] theorem Dev.sysX_set (d : Dev) (f : Fld) (v i : Nat) : (d.set f v).sysX i = d.sysX i := rfl
@[simp] theorem Dev.sysX_emit (d : Dev) (o : Out) (i : Nat) : (d.emit o).sysX i = d.sysX i := rfl
@[simp] theorem Dev.sysX_ticks (d : Dev) (n i : Nat) : (d.ticks n).sysX i = d.sysX i := rfl
@[simp] theorem Dev.occ_set (d : Dev) (f : Fld) (v i : Nat) : (d.set f v).occ i = d.occ i := rfl
@[simp] theorem Dev.occ_emit (d : Dev) (o : Out) (i : Nat) : (d.emit o).occ i = d.occ i := rfl
@[simp] theorem Dev.occ_ticks (d : Dev) (n i : Nat) : (d.ticks n).occ i = d.occ i := rfl

end Sys2Proof.Machine
end

