-- ==== Sys2Proof/Laws/Answers.lean ====
section
/-! SUPPORT. What a command answers: each shared operation that makes a next state, said once. -/

namespace Sys2Proof.Machine

variable (s t : State) (f : Dev → Dev) (g : Dev → Memory → Dev × Memory)

/-- A next state made whatever reset is held: the device is changed, all else stays. -/
theorem State.updRst_answers (h : s.updRst f = .next t) : t = { s with dev := f s.dev } := (Host.Outcome.next.inj h).symm

theorem State.updRstMem_answers (h : s.updRstMem g = .next t) : t = { s with dev := (g s.dev s.mem).1, mem := (g s.dev s.mem).2 } :=
  (Host.Outcome.next.inj h).symm

/-- Under a held reset nothing changes; else the device does, and all else stays. -/
theorem State.upd_answers (h : s.upd f = .next t) : (s.held = true ∧ t = s) ∨ (s.held = false ∧ t = { s with dev := f s.dev }) := by
  unfold State.upd at h
  cases hh : s.held <;> rw [hh] at h
  · exact .inr ⟨rfl, s.updRst_answers t f h⟩
  · exact .inl ⟨rfl, (Host.Outcome.next.inj h).symm⟩

theorem State.updMem_answers (h : s.updMem g = .next t) :
    (s.held = true ∧ t = s) ∨ (s.held = false ∧ t = { s with dev := (g s.dev s.mem).1, mem := (g s.dev s.mem).2 }) := by
  unfold State.updMem at h
  cases hh : s.held <;> rw [hh] at h
  · exact .inr ⟨rfl, s.updRstMem_answers t g h⟩
  · exact .inl ⟨rfl, (Host.Outcome.next.inj h).symm⟩

/-- A register access that is not answered changes nothing. -/
theorem State.access_answers (h : s.access f = .next t) : t = s ∨ (s.answers ∧ t = { s with dev := f s.dev }) := by
  unfold State.access at h
  cases hb : s.dev.on RST_STATUS_BOOT_DONE <;> rw [hb] at h
  · exact .inl (Host.Outcome.next.inj h).symm
  · rcases s.upd_answers t f h with ⟨_, h⟩ | ⟨hh, h⟩
    · exact .inl h
    · exact .inr ⟨⟨hh, hb⟩, h⟩

theorem State.accessMem_answers (h : s.accessMem g = .next t) :
    t = s ∨ (s.answers ∧ t = { s with dev := (g s.dev s.mem).1, mem := (g s.dev s.mem).2 }) := by
  unfold State.accessMem at h
  cases hb : s.dev.on RST_STATUS_BOOT_DONE <;> rw [hb] at h
  · exact .inl (Host.Outcome.next.inj h).symm
  · rcases s.updMem_answers t g h with ⟨_, h⟩ | ⟨hh, h⟩
    · exact .inl h
    · exact .inr ⟨⟨hh, hb⟩, h⟩

theorem State.accessBy_answers (r : Requester) (off : Nat) (h : s.accessBy r off f = .next t) :
    t = s ∨ (s.held = false ∧ t = { s with dev := f s.dev }) := by
  unfold State.accessBy at h
  split at h
  · exact (s.upd_answers t f h).imp (·.2) id
  · exact (s.access_answers t f h).imp id (fun h => ⟨h.1.1, h.2⟩)

/-! ## Where they have their effect -/

theorem State.upd_live (h : s.live) : s.upd f = .next { s with dev := f s.dev } := by
  have h : s.held = false := h
  unfold State.upd; rw [h]; rfl

theorem State.updMem_live (h : s.live) : s.updMem g = .next { s with dev := (g s.dev s.mem).1, mem := (g s.dev s.mem).2 } := by
  have h : s.held = false := h
  unfold State.updMem; rw [h]; rfl

theorem State.access_of_answers (h : s.answers) : s.access f = .next { s with dev := f s.dev } := by
  unfold State.access; rw [h.2]; exact s.upd_live f h.1

theorem State.accessMem_of_answers (h : s.answers) : s.accessMem g = .next { s with dev := (g s.dev s.mem).1, mem := (g s.dev s.mem).2 } := by
  unfold State.accessMem; rw [h.2]; exact s.updMem_live g h.1

theorem State.accessBy_of_answers (r : Requester) (off : Nat) (h : s.answers) : s.accessBy r off f = .next { s with dev := f s.dev } := by
  unfold State.accessBy
  split
  · exact s.upd_live f h.1
  · exact s.access_of_answers f h

/-- The debug master's early answers are to TST registers alone. -/
theorem debugTst_below (r : Requester) (off : Nat) (h : off < 0xE1000) : debugTst r off = false := by
  unfold debugTst
  simp only [Bool.and_eq_false_iff, decide_eq_false_iff_not]
  exact .inl (.inr (by omega))

theorem Dev.ownWrite_reached (d : Dev) (r : Requester) (off : Nat) (hn : canName r off = true) (hr : d.respAt off = 0) :
    d.ownWrite r off f = f (d.unlatch r) := by
  simp only [Dev.ownWrite, hn, hr, Bool.not_true, Bool.false_eq_true, if_false, ne_eq, not_true_eq_false]

/-- A write that reaches its register has its row's effect, the requester's latches gone. -/
theorem State.own_reached (r : Requester) (off : Nat) (ho : off < 0xE1000) (h : Reached s r off) :
    s.own r off f = .next { s with dev := f (s.dev.unlatch r) } := by
  obtain ⟨hh, hb, hn, hr⟩ := h
  rw [debugTst_below r off ho] at hb
  have hb : s.dev.on RST_STATUS_BOOT_DONE = true := hb.resolve_right (by simp)
  rw [State.own, s.access_of_answers _ ⟨hh, hb⟩, s.dev.ownWrite_reached f r off hn hr]

theorem State.ownMem_reached (r : Requester) (off : Nat) (ho : off < 0xE1000) (h : Reached s r off) :
    s.ownMem r off g = .next { s with dev := (g (s.dev.unlatch r) s.mem).1, mem := (g (s.dev.unlatch r) s.mem).2 } := by
  obtain ⟨hh, hb, hn, hr⟩ := h
  rw [debugTst_below r off ho] at hb
  have hb : s.dev.on RST_STATUS_BOOT_DONE = true := hb.resolve_right (by simp)
  rw [State.ownMem, s.accessMem_of_answers _ ⟨hh, hb⟩]
  simp only [Dev.ownWriteMem, hn, hr, Bool.not_true, Bool.false_eq_true, if_false, ne_eq, not_true_eq_false]

/-- The same of a register that the debug master reaches early. -/
theorem State.accessBy_reached (r : Requester) (off : Nat) (h : Reached s r off) :
    s.accessBy r off (fun d => d.ownWrite r off f) = .next { s with dev := f (s.dev.unlatch r) } := by
  obtain ⟨hh, hb, hn, hr⟩ := h
  unfold State.accessBy
  split
  · rw [s.upd_live _ hh, s.dev.ownWrite_reached f r off hn hr]
  · rename_i ht
    rw [s.access_of_answers _ ⟨hh, hb.resolve_right ht⟩, s.dev.ownWrite_reached f r off hn hr]

/-! ## Under a held reset -/

theorem State.upd_held (h : s.held = true) : s.upd f = .next s := by unfold State.upd; rw [h]; rfl

theorem State.updMem_held (h : s.held = true) : s.updMem g = .next s := by unfold State.updMem; rw [h]; rfl

/-- No access is refused, and none leaves the queue changed. -/
theorem State.accessBy_next (r : Requester) (off : Nat) : ∃ t, s.accessBy r off f = .next t ∧ t.pending = s.pending ∧ t.mem = s.mem := by
  unfold State.accessBy State.access State.upd
  split <;> (try split) <;> (try split) <;> exact ⟨_, rfl, rfl, rfl⟩

end Sys2Proof.Machine
end

