-- ==== Sys2Proof/Laws/Files.lean ====
section
/-! SUPPORT. A file written field by field is the file read: its fields, its sections, their records, its codes. -/

namespace Sys2Proof.Machine

/-! ## Fields -/

@[simp] theorem leBytes_length (n v : Nat) : (leBytes n v).length = n := by
  induction n generalizing v with
  | zero => rfl
  | succ n ih => simp [leBytes, ih]

theorem le_fold (l : List Byte) : l.reverse.foldl (fun a b => a * 256 + b.toNat) 0 = l.foldr (fun b a => a * 256 + b.toNat) 0 := by
  rw [List.foldl_reverse]

theorem leBytes_fold (n v : Nat) : (leBytes n v).foldr (fun b a => a * 256 + b.toNat) 0 = v % 256 ^ n := by
  induction n generalizing v with
  | zero => simp [leBytes, Nat.mod_one]
  | succ n ih =>
    rw [leBytes, List.foldr_cons, ih, BitVec.toNat_ofNat]
    show v / 256 % 256 ^ n * 256 + v % 256 = v % 256 ^ (n + 1)
    rw [Nat.pow_succ, Nat.mul_comm (256 ^ n) 256, Nat.mod_mul, Nat.mul_comm 256]
    exact Nat.add_comm _ _

/-- A number written is the number read. -/
theorem leAt_leBytes (n v : Nat) (l : List Byte) : leAt (leBytes n v ++ l) 0 n = v % 256 ^ n := by
  unfold leAt
  rw [List.drop_zero, List.take_append_of_le_length (by simp), List.take_of_length_le (by simp), le_fold, leBytes_fold]

/-- What stands before a field does not matter to it. -/
theorem leAt_skip (a l : List Byte) (o n : Nat) (h : a.length ≤ o) : leAt (a ++ l) o n = leAt l (o - a.length) n := by
  unfold leAt
  rw [List.drop_append, List.drop_eq_nil_of_le h, List.nil_append]

theorem zeroAt_skip (a l : List Byte) (o n : Nat) (h : a.length ≤ o) : zeroAt (a ++ l) o n = zeroAt l (o - a.length) n := by
  unfold zeroAt
  rw [List.drop_append, List.drop_eq_nil_of_le h, List.nil_append]

/-- Zeros written are zeros read. -/
theorem zeroAt_zeros (n : Nat) (l : List Byte) : zeroAt (List.replicate n 0 ++ l) 0 n = true := by
  unfold zeroAt
  rw [List.drop_zero, List.take_append_of_le_length (by simp), List.take_of_length_le (by simp)]
  simp

theorem leBytes_zero (n : Nat) : leBytes n 0 = List.replicate n 0 := by
  induction n with
  | zero => rfl
  | succ n ih => simp [leBytes, ih, List.replicate_succ]

/-! ## The codes -/

theorem crcByte_lt (c b : Nat) (hc : c < 2 ^ 32) (hb : b < 2 ^ 32) : crcByte c b < 2 ^ 32 := by
  have step : ∀ (l : List Nat) (x : Nat), x < 2 ^ 32 →
      l.foldl (fun c _ => if c % 2 = 1 then Nat.xor (c / 2) 0x82F63B78 else c / 2) x < 2 ^ 32 := by
    intro l
    induction l with
    | nil => exact fun _ h => h
    | cons _ l ih =>
      intro x h
      rw [List.foldl_cons]
      apply ih
      split
      · exact Nat.xor_lt_two_pow (by omega) (by decide)
      · omega
  exact step _ _ (Nat.xor_lt_two_pow hc hb)

theorem crcOf_lt (l : List Byte) : crcOf l < 2 ^ 32 := by
  have run : ∀ (l : List Byte) (x : Nat), x < 2 ^ 32 → l.foldl (fun c b => crcByte c b.toNat) x < 2 ^ 32 := by
    intro l
    induction l with
    | nil => exact fun _ h => h
    | cons b l ih =>
      intro x h
      exact ih _ (crcByte_lt x b.toNat h (Nat.lt_trans b.isLt (by decide)))
  exact Nat.xor_lt_two_pow (run l _ (by decide)) (by decide)

theorem sha256_length_le (l : List Byte) : (sha256 l).length ≤ 32 := by
  have blk : ∀ h b, (shaBlock h b).length ≤ h.length := by
    intro h b
    simp only [shaBlock, List.length_map, List.length_zip]
    omega
  have run : ∀ n h l, (shaBlocks n h l).length ≤ h.length := by
    intro n
    induction n with
    | zero => exact fun _ _ => Nat.le_refl _
    | succ n ih => exact fun h l => Nat.le_trans (ih _ _) (blk _ _)
  have four : ∀ l : List Nat, (l.flatMap beBytes).length = 4 * l.length := by
    intro l
    induction l with
    | nil => rfl
    | cons a l ih => rw [List.flatMap_cons, List.length_append, ih, show (beBytes a).length = 4 by simp [beBytes]]; simp; omega
  unfold sha256
  simp only
  rw [four]
  have := run ((shaPad l).length / 64) shaInit (shaPad l)
  rw [show shaInit.length = 8 from rfl] at this
  omega

/-- Bytes with their digest after them are sealed. -/
theorem sealed_sha (l : List Byte) (n : Nat) (h : n = l.length + 32) : sealed (l ++ sha256 l) n = true := by
  unfold sealed
  rw [h, Nat.add_sub_cancel, List.drop_left' rfl, List.take_left' rfl, List.take_of_length_le (sha256_length_le l)]
  simp

/-! ## Sections and records -/

@[simp] theorem putSection_length (t : Nat) (b : List Byte) : (putSection t b).length = 16 + b.length := by
  simp [putSection]
  omega

/-- A section written is the section read. -/
theorem sectionsAt_put (n t : Nat) (b l : List Byte) (ht : t < 2 ^ 16) (hb : b.length < 2 ^ 32) :
    sectionsAt (n + 1) (putSection t b ++ l) = ⟨t, b, true, true⟩ :: sectionsAt n l := by
  have f : putSection t b ++ l
      = leBytes 4 t ++ (leBytes 4 b.length ++ (leBytes 4 (crcOf b) ++ (List.replicate 4 0 ++ (b ++ l)))) := by
    simp [putSection, leBytes_zero]
  have f2 : leBytes 4 t = leBytes 2 t ++ List.replicate 2 0 := by
    have : t / 256 / 256 = 0 := by omega
    simp [leBytes, this, List.replicate]
  have hlen : leAt (putSection t b ++ l) 4 4 = b.length := by
    rw [f, leAt_skip _ _ _ _ (by simp)]
    simp only [leBytes_length, Nat.sub_self, leAt_leBytes]
    exact Nat.mod_eq_of_lt hb
  have hcrc : leAt (putSection t b ++ l) 8 4 = crcOf b := by
    rw [f, leAt_skip _ _ _ _ (by simp), leAt_skip _ _ _ _ (by simp)]
    simp only [leBytes_length, Nat.reduceSub, leAt_leBytes]
    exact Nat.mod_eq_of_lt (crcOf_lt b)
  have hbody : ((putSection t b ++ l).drop 16).take b.length = b := by
    rw [List.drop_append, putSection, List.drop_left' (by simp)]
    simp
  have htyp : leAt (putSection t b ++ l) 0 2 = t := by
    rw [f, f2, List.append_assoc, leAt_leBytes]
    exact Nat.mod_eq_of_lt ht
  have hz : zeroAt (putSection t b ++ l) 2 2 = true := by
    rw [f, f2, List.append_assoc, zeroAt_skip _ _ _ _ (by simp)]
    simp only [leBytes_length]
    exact zeroAt_zeros 2 _
  have hz2 : zeroAt (putSection t b ++ l) 12 4 = true := by
    rw [f, zeroAt_skip _ _ _ _ (by simp), zeroAt_skip _ _ _ _ (by simp), zeroAt_skip _ _ _ _ (by simp)]
    simp only [leBytes_length]
    exact zeroAt_zeros 4 _
  rw [sectionsAt]
  simp only [hlen, hcrc, hbody, htyp, hz, hz2, beq_self_eq_true, Bool.and_self]
  rw [List.drop_append, List.drop_eq_nil_of_le (by simp), putSection_length, Nat.sub_self]
  simp

/-- Equal records written are the records read. -/
theorem recordsOf_same (k size : Nat) (r : List Byte) (h : r.length = size) : recordsOf size k (List.replicate k r).flatten = List.replicate k r := by
  induction k with
  | zero => rfl
  | succ k ih =>
    rw [List.replicate_succ, List.flatten_cons, recordsOf, List.take_left' h, List.drop_left' h, ih]

end Sys2Proof.Machine
end

