-- ==== Sys2Proof/Laws/Memory.lean ====
section
/-! SUPPORT. The bytes of the hold: every operation keeps their one canonical form, what is written is read, other places stay. -/

namespace Sys2Proof.Machine

/-! ## Rising keys -/

theorem rising_mono {α : Type} (l : List (Nat × α)) (b c : Nat) (h : c ≤ b) (hl : rising b l = true) : rising c l = true := by
  cases l with
  | nil => rfl
  | cons x l => simp only [rising, Bool.and_eq_true, decide_eq_true_eq] at hl ⊢; exact ⟨by omega, hl.2⟩

theorem rising_ins {α : Type} (l : List (Nat × α)) (b k : Nat) (v : α) (hk : b ≤ k) (hl : rising b l = true) : rising b (ins l k v) = true := by
  induction l generalizing b with
  | nil => simp [ins, rising, hk]
  | cons x l ih =>
    obtain ⟨j, a⟩ := x
    simp only [rising, Bool.and_eq_true, decide_eq_true_eq] at hl
    by_cases h1 : k < j
    · simp only [ins, h1, if_true, rising, Bool.and_eq_true, decide_eq_true_eq]; exact ⟨hk, by omega, hl.2⟩
    · by_cases h2 : k = j
      · simp only [ins, h2, Nat.lt_irrefl, if_false, if_true, rising, Bool.and_eq_true, decide_eq_true_eq]; exact hl
      · simp only [ins, h1, h2, if_false, rising, Bool.and_eq_true, decide_eq_true_eq]
        exact ⟨hl.1, ih (j + 1) (by omega) hl.2⟩

theorem rising_filter {α : Type} (l : List (Nat × α)) (b : Nat) (p : Nat × α → Bool) (hl : rising b l = true) : rising b (l.filter p) = true := by
  induction l generalizing b with
  | nil => rfl
  | cons x l ih =>
    obtain ⟨j, a⟩ := x
    simp only [rising, Bool.and_eq_true, decide_eq_true_eq] at hl
    by_cases h : p (j, a) = true
    · simp only [List.filter_cons_of_pos h, rising, Bool.and_eq_true, decide_eq_true_eq]; exact ⟨hl.1, ih (j + 1) hl.2⟩
    · rw [List.filter_cons_of_neg h]; exact ih b (rising_mono l (j + 1) b (by omega) hl.2)

theorem mem_ins {α : Type} (l : List (Nat × α)) (k : Nat) (v : α) (c : Nat × α) (h : c ∈ ins l k v) : c = (k, v) ∨ c ∈ l := by
  induction l with
  | nil => simpa [ins] using h
  | cons x l ih =>
    obtain ⟨j, a⟩ := x
    by_cases h1 : k < j
    · simpa [ins, h1] using h
    · by_cases h2 : k = j
      · simp only [ins, h2, Nat.lt_irrefl, if_false, if_true, List.mem_cons] at h ⊢
        exact h.elim .inl (fun h => .inr (.inr h))
      · simp only [ins, h1, h2, if_false, List.mem_cons] at h ⊢
        rcases h with h | h
        · exact .inr (.inl h)
        · exact (ih h).elim .inl (fun h => .inr (.inr h))

/-! ## The canonical form -/

theorem Memory.wf_iff (m : Memory) : m.wf = true ↔ rising 0 m.cells = true ∧ ∀ c ∈ m.cells, c.2 ≠ m.dflt c.1 := by
  simp [Memory.wf]

/-- A byte written keeps the canonical form. -/
theorem Memory.put_wf (m : Memory) (a : Nat) (v : Byte) (h : m.wf = true) : (m.put a v).wf = true := by
  rw [Memory.wf_iff] at h ⊢
  obtain ⟨h1, h2⟩ := h
  have hd : ∀ b, (m.put a v).dflt b = m.dflt b := fun _ => rfl
  by_cases hv : v = m.dflt a
  · have hc : (m.put a v).cells = del m.cells a := by simp [Memory.put, hv]
    rw [hc]
    exact ⟨rising_filter _ _ _ h1, fun c hm => by rw [hd]; exact h2 c (List.mem_filter.mp hm).1⟩
  · have hc : (m.put a v).cells = ins m.cells a v := by simp [Memory.put, hv]
    rw [hc]
    refine ⟨rising_ins _ _ _ _ (Nat.zero_le a) h1, fun c hm => ?_⟩
    rw [hd]
    rcases mem_ins _ _ _ _ hm with rfl | hm
    · exact hv
    · exact h2 c hm

/-- Bytes written from an address on keep it. -/
theorem Memory.puts_wf (m : Memory) (a : Nat) (l : List Byte) (h : m.wf = true) : (m.puts a l).wf = true := by
  induction l generalizing m a with
  | nil => exact h
  | cons v l ih => exact ih _ _ (m.put_wf a v h)

/-- So does taking addresses off the list, -/
theorem Memory.keep_wf (m : Memory) (p : Nat → Bool) (h : m.wf = true) : (m.keep p).wf = true := by
  rw [Memory.wf_iff] at h ⊢
  exact ⟨rising_filter _ _ _ h.1, fun c hm => h.2 c (List.mem_filter.mp hm).1⟩

/-- bytes that become undefined, -/
theorem Memory.lose_wf (m : Memory) (host : Nat) (h : m.wf = true) : (m.lose host).wf = true := by
  rw [Memory.wf_iff] at h ⊢
  exact ⟨rising_filter _ _ _ (rising_filter _ _ _ h.1), fun c hm => of_decide_eq_true (List.mem_filter.mp hm).2⟩

/-- the loss of power, -/
theorem Memory.powerLost_wf (m : Memory) : m.powerLost.wf = true := rfl

/-- and the state after reset has it. -/
theorem State.reset_mem_wf : State.reset.mem.wf = true := rfl

/-! ## Reading what was written -/

@[simp] theorem Memory.dflt_put (m : Memory) (a b : Nat) (v : Byte) : (m.put a v).dflt b = m.dflt b := rfl

@[simp] theorem Memory.byte_put_self (m : Memory) (a : Nat) (v : Byte) : (m.put a v).byte a = v := by
  by_cases hv : v = m.dflt a
  · simp [Memory.byte, Memory.put, hv, look_del_self]; rfl
  · simp [Memory.byte, Memory.put, hv, look_ins_self]

theorem Memory.byte_put_of_ne (m : Memory) (a b : Nat) (v : Byte) (h : b ≠ a) : (m.put a v).byte b = m.byte b := by
  by_cases hv : v = m.dflt a <;> simp [Memory.byte, Memory.put, hv, look_del_of_ne _ _ _ h, look_ins_of_ne _ _ _ _ h] <;> rfl

/-- The bytes before those written, and those after, stay. -/
theorem Memory.byte_puts_of_out (m : Memory) (a b : Nat) (l : List Byte) (h : b < a ∨ a + l.length ≤ b) : (m.puts a l).byte b = m.byte b := by
  induction l generalizing m a with
  | nil => rfl
  | cons v l ih =>
    simp only [List.length_cons] at h
    show ((m.put a v).puts (a + 1) l).byte b = m.byte b
    rw [ih (m.put a v) (a + 1) (by omega), m.byte_put_of_ne a b v (by omega)]

/-- Each byte written is read at its place. -/
theorem Memory.byte_puts_of_in (m : Memory) (a i : Nat) (l : List Byte) (h : i < l.length) : (m.puts a l).byte (a + i) = l[i] := by
  induction l generalizing m a i with
  | nil => simp at h
  | cons v l ih =>
    show ((m.put a v).puts (a + 1) l).byte (a + i) = (v :: l)[i]
    cases i with
    | zero => rw [Memory.byte_puts_of_out _ _ _ _ (by omega)]; simp
    | succ i =>
      have := ih (m.put a v) (a + 1) i (by simpa using h)
      rw [show a + (i + 1) = a + 1 + i by omega, this]; rfl

end Sys2Proof.Machine
end

