-- ==== Sys2Proof/Laws/Ops.lean ====
section
/-! SUPPORT. What the shared operations on time and registers do, each said once. -/

namespace Sys2Proof.Machine

/-! ## Time -/

/-- Carrying the clock on to a tick runs some number of ticks and nothing else, and ends at that tick or where the clock stood past it. -/
theorem Dev.atTick_eq (d : Dev) (t : Nat) : d.atTick t = d.ticks (t - d.tick) := by
  unfold Dev.atTick
  split
  · rfl
  · rw [show t - d.tick = 0 by omega]; simp [Dev.ticks]

@[simp] theorem Dev.atTick_tick (d : Dev) (t : Nat) : (d.atTick t).tick = max d.tick t := by rw [Dev.atTick_eq]; simp; omega

@[simp] theorem Dev.get_atTick (d : Dev) (t : Nat) (f : Fld) : (d.atTick t).get f = d.get f := by rw [Dev.atTick_eq]; rfl

/-- Carrying module time on to an instant runs some number of ticks and nothing else. -/
theorem Dev.atLeast_eq (d : Dev) (t : Ns) : ∃ n, d.atLeast t = d.ticks n := by
  unfold Dev.atLeast
  split
  · exact ⟨_, rfl⟩
  · exact ⟨0, by simp [Dev.ticks]⟩

@[simp] theorem Dev.get_atLeast (d : Dev) (t : Ns) (f : Fld) : (d.atLeast t).get f = d.get f := by
  obtain ⟨n, h⟩ := d.atLeast_eq t; rw [h]; rfl

/-- Module time reaches the instant, as long as it runs at all. -/
theorem Dev.le_now_atLeast (d : Dev) (t : Ns) (h : 0 < d.get TIM_INCR) : t ≤ (d.atLeast t).now := by
  have key : t * nsUnit ≤ (d.atLeast t).mt := by
    unfold Dev.atLeast
    split
    · have up : ∀ x i : Nat, 0 < i → x ≤ (x + i - 1) / i * i := fun x i hi => by
        have e := Nat.div_add_mod (x + i - 1) i
        have l := Nat.mod_lt (x + i - 1) hi
        rw [Nat.mul_comm i] at e
        omega
      have k := up (t * nsUnit - d.mt) (d.get TIM_INCR) h
      exact Nat.sub_le_iff_le_add'.mp k
    · exact Nat.not_lt.mp ‹_›
  exact (Nat.le_div_iff_mul_le (by decide)).mpr key

/-- The next whole multiple: not before n, less than one multiple after it. -/
theorem ceilMul_spec (n k : Nat) (h : 0 < k) : ceilMul n k % k = 0 ∧ n ≤ ceilMul n k ∧ ceilMul n k < n + k := by
  have e := Nat.div_add_mod (n + k - 1) k
  have l := Nat.mod_lt (n + k - 1) h
  rw [Nat.mul_comm] at e
  refine ⟨by simp [ceilMul], ?_, ?_⟩ <;> (unfold ceilMul; omega)

/-! ## Register fields -/

theorem OnlyFields.refl (d : Dev) (l : List Fld) : OnlyFields d d l := ⟨rfl, fun _ _ => rfl⟩

/-- Changes of fields one after the other change those of both. -/
theorem OnlyFields.trans {a b c : Dev} {l m : List Fld} (h : OnlyFields a b l) (k : OnlyFields b c m) : OnlyFields a c (l ++ m) := by
  refine ⟨?_, fun f hf => ?_⟩
  · rw [k.1, h.1]
  · rw [k.2 f (fun g hg => hf g (List.mem_append.mpr (.inr hg))), h.2 f (fun g hg => hf g (List.mem_append.mpr (.inl hg)))]

theorem OnlyFields.mono {a b : Dev} {l m : List Fld} (h : OnlyFields a b l) (k : ∀ g ∈ l, g ∈ m) : OnlyFields a b m :=
  ⟨h.1, fun f hf => h.2 f (fun g hg => hf g (k g hg))⟩

/-- A one-bit field set reads as what it was set to. -/
theorem Dev.on_setB_self (d : Dev) (f : Fld) (b : Bool) (h : f.w = 1) : (d.setB f b).on f = b := by
  cases b <;> simp [Dev.on, h, b2n]

/-- What one field of a list set in order reads as, where no later one is the same. -/
theorem Dev.get_sets_of_not_mem (d : Dev) (g : Fld) (l : List (Fld × Nat)) (h : ∀ x ∈ l, g.key ≠ x.1.key) : (d.sets l).get g = d.get g := by
  induction l generalizing d with
  | nil => rfl
  | cons x l ih =>
    obtain ⟨f, v⟩ := x
    rw [Dev.sets_cons, ih _ (fun y hy => h y (List.mem_cons_of_mem _ hy)), Dev.get_set_of_ne _ _ _ _ (h (f, v) List.mem_cons_self)]

theorem Dev.sets_onlyFields (d : Dev) (l : List (Fld × Nat)) : OnlyFields d (d.sets l) (l.map (·.1)) := by
  induction l generalizing d with
  | nil => exact OnlyFields.refl d _
  | cons x l ih => exact (d.set_onlyFields x.1 x.2).trans (ih (d.set x.1 x.2))

/-- Registers from an offset to another put back at their values after reset: the fields there read so, the others stay. -/
theorem Dev.get_clearRange (d : Dev) (lo hi : Nat) (f : Fld) :
    (d.clearRange lo hi).get f = if lo * 64 ≤ f.key ∧ f.key < hi * 64 then f.rst else d.get f := by
  unfold Dev.get Dev.clearRange Tab.get Tab.dropWhen
  simp only
  rw [look_filter d.regs.cells (fun k => !decide (lo * 64 ≤ k ∧ k < hi * 64))]
  by_cases h : lo * 64 ≤ f.key ∧ f.key < hi * 64 <;> simp [h]

end Sys2Proof.Machine
end

