-- ==== Sys2Proof/WellFormed.lean ====
section
/-! DEFINITION. What a command's operands may be: each fits the field, the register or the message that brings it. Every meaning is total; a command that is not well formed stands for nothing that can reach the block. -/

namespace Sys2Proof

/-- n fits in w bits. -/
def fits (w n : Nat) : Bool := decide (n < 2 ^ w)

/-- Every number of the list fits in w bits. -/
def allFit (w : Nat) (l : List Nat) : Bool := l.all (fits w)

/-- A signed value fits in w bits of two's complement. -/
def fitsI (w : Nat) (i : Int) : Bool := decide (-(2 ^ (w - 1) : Int) ≤ i) && decide (i < 2 ^ (w - 1))

/-- Every entry names an index below n, with a value of w signed bits. -/
def readings (n w : Nat) (l : List (Nat × Int)) : Bool := l.all (fun x => decide (x.1 < n) && fitsI w x.2)

/-- The span of addresses of a requester: PF0's BAR0 and after it its BAR2, a VF's BAR0 (R360, R361), the matrix (R398). (Log entry 97 PRESUMED.) -/
def Requester.span : Requester → Nat
  | .fn f => if f.val = 0 then 0x4010000 else 0x10000
  | .master _ => 0x810000000000

/-- An aligned access of 4 or 8 bytes within the requester's span (R8, R9). -/
def accessOk (r : Requester) (off : Nat) (wide : Bool) : Bool :=
  off % (if wide then 8 else 4) == 0 && decide (off < r.span)

/-- A register's value, 32 or 64 bits (R8). -/
def valueOk (wide : Bool) (v : Nat) : Bool := fits (if wide then 64 else 32) v

/-- The header of a TLP as captured: at most four 32-bit words (R368). -/
def hdrOk (l : List Nat) : Bool := decide (l.length ≤ 4) && allFit 32 l

/-- The words of an entry's item list, at most one for each item it can name (R217, R218). -/
def RawEntry.ok (e : RawEntry) : Bool := allFit 32 e.words && decide (e.words.length ≤ 2047)

/-- A file no longer than its length can say (R118, R187, R236, R259). -/
def HostFile.ok (t : HostFile) : Bool := decide (t.bytes.length < 2 ^ 32)

/-- A frame's words 32 bits each, and no more of them than LENGTH can say (R333). -/
def RawFrame.ok (f : RawFrame) : Bool := allFit 32 f.words && decide (f.words.length ≤ 511)

/-- A fault's class, place and sub-code within their widths, its unit's words 32 bits each (R287, R304). -/
def FaultIn.ok (f : FaultIn) : Bool :=
  fits 7 f.cls && fits 4 f.unit && fits 28 f.index && fits 8 f.sub && allFit 32 f.detail

/-- A sweep's steps, each a pair of raw codes of a converter (R195). -/
def Sweep.ok (s : Sweep) : Bool :=
  decide (s.cell < 13824) && decide (s.bar.length ≤ 16 ∧ s.cross.length ≤ 16)
    && (s.bar ++ s.cross).all (fun x => fitsI 16 x.1 && fitsI 16 x.2)

/-- The bytes each DMA channel had not written: a channel and a count. -/
def pairsOk (l : List (Nat × Nat)) : Bool := l.all (fun x => fits 64 x.1 && fits 64 x.2)

/-- The bytes of a failed DMA are within the engine's address space (R387). -/
def ReadOp.ok : ReadOp → Bool
  | .entry _ => true
  | .list tag => fits 32 tag
  | .table tag => fits 32 tag
  | .manifest => true
  | .calibration => true
  | .proposal => true
  | .dma _ left addr _ => fits 32 left && fits 64 addr

/-- NumVFs is a 16-bit field (R359). -/
def ConfReq.ok : ConfReq → Bool
  | .other => true
  | .read _ => true
  | .numVfs n => fits 16 n
  | .vfEnable _ => true
  | .cacheEnable _ => true
  | .msix _ _ => true

/-- A Type 3 device's capacity in GiB fits its field, its rate is 32 or 64 GT/s (R377). -/
def Expander.ok : Expander → Bool
  | .absent => true
  | .notType3 => true
  | .type3 c rate width => fits 16 c && (rate == 1 || rate == 2) && decide (width ≤ 16)

/-- DMA's failing address fits (R384). -/
def HoldUser.ok : HoldUser → Bool
  | .table => true
  | .wear _ => true
  | .dma _ left addr => fits 32 left && fits 64 addr

/-- The command's operands are what its row can bring. -/
def Instr.wellFormed : Instr → Bool
  | .registerWrite r off wide v => accessOk r off wide && valueOk wide v
  | .read64Low r off => accessOk r off false
  | .write64High r off v => accessOk r off false && fits 32 v
  | .readClear r off wide => accessOk r off wide
  | .accessBadWidth r off bytes hdr _ => decide (off < r.span) && decide (bytes ≤ 4096) && hdrOk hdr
  | .backboneWord _ w bad => fits 64 w && fits 4 bad
  | .backboneNak _ => true
  | .reachClockLoss _ => true
  | .capstanFail _ _ => true
  | .adoptionStart _ => true
  | .lampGrant => true
  | .lampLeak _ power => fitsI 16 power
  | .flip _ => true
  | .berthReload _ => true
  | .blkReloadOverrun _ => true
  | .heldbackPartExecute _ _ => true
  | .voaPredark _ => true
  | .prtOverpower _ => true
  | .prtVoaRb _ rb => fits 16 rb
  | .park _ => true
  | .parkSwitch => true
  | .wearAdd _ => true
  | .wearRestore _ _ count => fits 48 count
  | .crossing tag => fits 32 tag
  | .cancel _ entry => entry.ok
  | .tktPrio tag => fits 32 tag
  | .tidLoad tag src => fits 32 tag && src.ok
  | .tableCompileDone _ => true
  | .tidStart tag => fits 32 tag
  | .tidStop tag => fits 32 tag
  | .tidUnload tag => fits 32 tag
  | .sysPart tag => fits 32 tag
  | .sysPropose tag => fits 32 tag
  | .nop tag => fits 32 tag
  | .schedulerDecision => true
  | .solve => true
  | .computeDone _ => true
  | .blockReady _ _ => true
  | .unitLost _ => true
  | .restoreSolve => true
  | .longOpen _ => true
  | .ticketTelemetry ins outs drains lamps => readings 512 16 ins && readings 512 16 outs && readings 512 16 drains && readings 32 16 lamps
  | .tableStepCommit _ => true
  | .stepStream _ => true
  | .tableRecompile _ => true
  | .tableStop _ => true
  | .proposal _ f => f.ok
  | .vote _ f => f.ok
  | .decision _ f => f.ok
  | .decisionReport _ f => f.ok
  | .voteDeadline id => fits 64 id
  | .decisionCheck id => fits 64 id
  | .timeSnapshot _ => true
  | .offsetSample => true
  | .timLossTimeout => true
  | .timeSourceSelect _ _ _ => true
  | .force _ => true
  | .suspend _ _ => true
  | .replicaCheck offs => offs.all (fun x => decide (x.1 < 32) && fitsI 64 x.2)
  | .tcxoLoss => true
  | .ppsInEdge => true
  | .ptpSync _ domain port theta => fits 8 domain && fits 16 port && fitsI 64 theta
  | .ptpAnnounce _ domain gm port => fits 8 domain && fits 64 gm && fits 16 port
  | .cellLoopUpdate _ u l => fitsI 16 u && fitsI 16 l
  | .capReclose _ _ _ => true
  | .portGroupUpdate _ raw => fitsI 16 raw
  | .fbLostClear _ _ => true
  | .privClaimLapse _ => true
  | .calLoad _ => true
  | .calLoadComplete f => f.ok
  | .dump _ => true
  | .dumpComplete => true
  | .adcSelf _ => true
  | .adcSelfComplete l => l.all (fun x => fitsI 16 x.1 && fits 16 x.2)
  | .calReachReq _ mask => fits 32 mask
  | .reachRunStart _ _ => true
  | .reachRunEnd _ sweeps => sweeps.all Sweep.ok
  | .calSwitch _ => true
  | .calAccWrite _ v => fits 64 v
  | .housekeepingRound refs => refs.all (fun x => allFit 16 x.2)
  | .housekeepingReport raws rails lamp =>
    raws.all (fun x => match x with | some v => fitsI 32 v | none => true) && rails.all (fitsI 32) && fitsI 32 lamp
  | .doorbell _ _ tail => fits 32 tail
  | .entryFetch _ entry => (match entry with | some e => e.ok | none => true)
  | .cqHeadWrite _ _ i => fits 32 i
  | .eqHeadWrite _ _ i => fits 32 i
  | .msixMessage _ _ => true
  | .tollChange _ _ _ v => fits 32 v
  | .flr _ => true
  | .manLoad _ => true
  | .manLoadComplete f => f.ok
  | .manCommit _ => true
  | .commitInstant => true
  | .discard _ => true
  | .fieldWrite _ v => fits 32 v
  | .blockOut _ _ _ _ => true
  | .middleBlockPark _ => true
  | .blockIn _ _ => true
  | .blockEnterService _ => true
  | .sealClose _ => true
  | .propose _ => true
  | .proposalStage f => f.ok
  | .withdraw _ => true
  | .approveA _ => true
  | .approval _ mac f => fits 48 mac && f.ok
  | .proposalExpiry => true
  | .sealApply => true
  | .keyLoad _ mac f => fits 48 mac && f.ok
  | .statusReq _ mac f => fits 48 mac && f.ok
  | .timeWord _ => true
  | .commitPointClose words => words.all (fun x => fits 64 x.2)
  | .cpnReply _ => true
  | .compareTimeout => true
  | .knownAnswerDone _ _ => true
  | .outputStageWord _ _ claim cpn _ => fits 32 claim && fits 48 cpn
  | .claimRaise _ => true
  | .tokenRequest _ => true
  | .leaseRenew => true
  | .leaseLapse => true
  | .heartbeat _ _ _ => true
  | .heartbeatLoss _ _ _ => true
  | .fatal _ => true
  | .swap _ => true
  | .fail _ _ => true
  | .resync _ _ => true
  | .bootComplete _ _ => true
  | .bootTimeout _ => true
  | .resyncComplete _ _ _ _ _ => true
  | .healthReport _ _ _ _ _ => true
  | .fault l => l.all FaultIn.ok
  | .safeTicketsStranded => true
  | .l4Reset => true
  | .classTimerExpiry _ => true
  | .acknowledge _ _ => true
  | .unfreeze _ => true
  | .contactEdge _ _ _ => true
  | .contactAccept _ _ _ => true
  | .darkConfirm => true
  | .discrepancy _ => true
  | .discClear _ mask => fits 32 mask
  | .slotRestart _ mask => fits 32 mask
  | .safeOkReadback => true
  | .ilkWatchdog => true
  | .testDarkening l => l.all (fun x => decide (x.2 < 512))
  | .safetyStateSend _ => true
  | .safety _ f => f.ok
  | .safetyAck _ f => f.ok
  | .safetyCopyTimeout _ _ => true
  | .frameForward _ f => f.ok
  | .ferryPortEnable _ _ _ => true
  | .hello _ f => f.ok
  | .helloSend _ => true
  | .portUp _ a b => fits 32 a && fits 32 b
  | .sailingWindow _ n => fits 32 n
  | .nak _ f => f.ok
  | .replayTimeout _ => true
  | .violationSecond _ => true
  | .lockLoss _ => true
  | .lockRetrain _ => true
  | .exchangeStart _ => true
  | .sync _ f => f.ok
  | .delayReq _ f => f.ok
  | .delayResp _ f => f.ok
  | .exchangeAbandon _ => true
  | .telemetrySend => true
  | .telemetry _ f => f.ok
  | .trigger _ f => f.ok
  | .arpRequest ip sip mac => fits 32 ip && fits 32 sip && fits 48 mac
  | .mgmtFrameDrop _ => true
  | .hostSnoop => true
  | .hostRequestTimeout _ hdr _ => hdrOk hdr
  | .poisonWrite _ hdr _ => hdrOk hdr
  | .readFail kind hdr _ op => [5, 6, 7, 8, 12].contains kind && hdrOk hdr && op.ok
  | .unexpectedCpl _ hdr _ => hdrOk hdr
  | .linkDown _ => true
  | .perstNAssert => true
  | .perstNRelease => true
  | .powerStateChange _ _ _ => true
  | .i2cPointerWrite _ _ => true
  | .i2cRead n => decide (1 ≤ n)
  | .holdUp e => e.ok
  | .holdLoss left => pairsOk left
  | .holdPoison u => u.ok
  | .wearFlush _ => true
  | .wearFlushDone => true
  | .historyRecord => true
  | .holdEnable _ _ => true
  | .dmaStart _ _ => true
  | .dmaArm _ _ => true
  | .dmaDisable _ _ _ l => l.all (fun x => fits 64 x.1)
  | .dmaDrained _ => true
  | .dmaComplete _ err left addr _ => fits 8 err && fits 32 left && fits 64 addr
  | .matrixAccess r addr wr wide _ =>
    accessOk r addr wide && (match wr with | some v => valueOk wide v | none => true)
  | .requestAgeing _ _ => true
  | .hangRelease _ mask => fits 32 mask
  | .masterReset _ => true
  | .svyReq _ _ w => fits 32 w
  | .conversionDone _ l => allFit 16 l
  | .svyResPop _ _ => true
  | .injectionTrigger _ => true
  | .openWireStep _ a b => fits 16 a && fits 16 b
  | .recArm _ _ => true
  | .recArmTimeReached _ => true
  | .disarm _ _ => true
  | .recForce _ _ => true
  | .recMark _ _ v => fits 32 v
  | .preFilled _ => true
  | .sequencerBranch _ => true
  | .sequencerTimer _ _ => true
  | .fireInstant _ => true
  | .captureDone _ => true
  | .coldReset => true
  | .coldResetRelease => true
  | .bootDone => true
  | .rstNLow => true
  | .moorEnd => true
  | .islandReset => true
  | .moduleResetRelease => true
  | .rstModule _ v => fits 32 v
  | .rstHelm _ v => fits 32 v
  | .settlement => true
  | .leaseGo _ => true
  | .railLoss _ left => pairsOk left
  | .flClear _ _ => true
  | .flInject _ _ n => fits 32 n
  | .bbInject _ _ n => fits 32 n
  | .bbClear _ _ => true
  | .gangwayGo _ => true
  | .gangwayTestDone => true
  | .holdTestMode _ mode => fits 32 mode
  | .enterCompliance => true
  | .codeword _ h _ _ _ => fits 20 h
  | .ppsOut => true
  | .bellToggle => true
  | .reachClockReturn _ => true
  | .correctedMediaError => true
  | .cxlTrainingEnd rate width _ => fits 8 rate && fits 8 width
  | .configurationRequest _ c => c.ok
  | .urOther _ hdr _ => hdrOk hdr
  | .malformedTlp _ _ hdr _ => hdrOk hdr
  | .railReturn _ => true
  | .prbsCheckerLock _ _ par => fits 64 par
  | .safetyAckTimeout _ _ => true
  | .remoteArmInstant _ => true
  | .darkConfirmTimeout _ => true

end Sys2Proof
end

