-- ==== Sys2Proof/Tests/Slice0.lean ====
section
/-! SUPPORT. Small checks of the model against the spec's own numbers, ill-formed commands that are refused, and for every obligation with hypotheses states and operands that meet them. -/

namespace Sys2Proof.Tests.Slice0

open Sys2Proof Sys2Proof.Machine

set_option Elab.async false

/-! ## Sample states and records -/

/-- The device after its release from a cold reset, answering accesses. -/
def base : Dev := ({ dev0 with rst := { dev0.rst with cold := false, perst := false } }).sets [(RST_STATUS_BOOT_DONE, 1)]

/-- The same with WH-A active. -/
def act : Dev := base.sets [(WHL_STATUS_ACTIVE, 1), (WHL_STATUS_STATE_A, 4)]

/-- A state around a device. -/
def running (d : Dev) : State := { State.reset with dev := d }

/-- The same with three blocks in service that a path can cross, IN 0 to OUT 0. -/
def lanes : Dev := act.sets [(FAB_BLK_STATUS_IN_SERVICE 0, 1), (FAB_BLK_STATUS_IN_SERVICE 32, 1), (FAB_BLK_STATUS_IN_SERVICE 64, 1)]

def entry0 : Entry :=
  { opcode := 0, asap := true, notify := false, fence := false, items := 0, user := 0, stamp := 0, arg := 0, list := 0, arg20 := 0,
    resv := false, words := [], listOk := true }
def opOf (e : Entry) : Op := newOp 0 0 e false
def op0 : Op := opOf entry0
/-- The device with an operation at the head of PF0's queue. -/
def headed (d : Dev) (o : Op) : Dev := (d.setOp o.tag (some o)).setHeads 1 [.op o.tag]
def part0 : Part := { blk := 0, cells := [(0, true, 0)], ready := false, held := false, done := false }
def xing0 : Xing :=
  { id := 1, kind := .op 0, stage := .solve, asap := true, stamp := 0, instant := 0, makes := [], unsolved := [], breaks := [], room := [],
    moves := [], restores := [], parts := [], withdrawn := [], gone := [], byPf0 := false, flips := 0 }
def tstep0 : TStep := { dwell := 1000, circs := [], codes := [] }
def table0 : Table := { owner := 0, cls := 1, prio := 0, inSet := [], outSet := [], steps := [tstep0], loadOp := none, src := [], extents := [] }
def run0 : Run :=
  { active := true, table := 0, start := 100000, first := 0, cycles := 0, keep := false, nextStep := 0, nextCyc := 0, stopAt := none,
    stopOps := [], startOp := none, cycEnd := none, firstCodes := [], ids := [], epoch := 1, held := false, noResume := false, streamed := 0 }
def sys0 : Sys :=
  { id := 5, coord := false, instant := 100000000, members := [], proposed := true, votes := [], voted := false, ready := false, why := (0, 0),
    go := false, decision := none, part := none, xing := none, propOp := none, done := false }
def frameOf (typ cls length : Nat) (words : List Nat) : Frame :=
  { typ, cls, bcast := false, length, hops := 0, src := 0, dst := 0, lseq := 0, words, crcOk := true, win := true }
def taker0 : Taker := { exch := 0, t1 := 0, t2 := 0, t3 := some 0, master := 0, steps := 0, state := 0, tick := 0 }
def regField : RegField := { fld := HST_MGMT_IPV4, acc := .rw, ok := [], staged := false, frozen := none, own := false }
def mtxReq0 : MtxReq := { req := .master 2, addr := 0, wr := none, wide := false, since := 0, aged := false, told := false }
def svyReq0 : SvyReq := { chan := 0x1800, avg := 0, raw := true, cur := 0, tag := 0, test := false }
def prop0 : Proposal := { kind := 1, seq := 1, digest := [], secs := [], wrap := 0, expiry := 1000 }
def calFF0 : CalFF := { bar := 0, cross := 0, tcBar := 0, tcCross := 0, htr := 0, measured := false, rejected := false }
/-- A frame with its payload filled with zeros, an entry and a file as they lie on the line or in host memory. -/
def rawOf (f : Frame) : RawFrame :=
  { words := frameWords { f with words := f.words ++ List.replicate (f.length / 4 - 5 - f.words.length) 0 }, win := f.win }
def rawEntry (op asap items arg : Nat) : RawEntry :=
  { raw := BitVec.ofNat 512 (op + asap * 2 ^ 8 + items * 2 ^ 16 + arg * 2 ^ 128), words := [], listOk := true }
def file0 : HostFile := { readOk := true, bytes := [] }

/-- What a disarming frame leaves. -/
def disarmed (s : State) (k : Nat) (f : Frame) : Dev :=
  let d := s.dev.consume k f
  (d.remoteMembers d.regInForce (bits (f.words.getD 0 0) 8 8)).foldl (fun d m => d.recDisarm m) d

/-- A table source of one step from IN 0 to OUT 0 and its CRC (R118). -/
def srcTail : List Byte :=
  wordBytes ([0, 0, 1] ++ List.replicate 15 0 ++ [1] ++ List.replicate 39 0 ++ [1000, 1, 0, 0])
def srcFile : HostFile := { readOk := true, bytes := wordBytes [0x54444531, 1, 1, 1, 272, crcOf srcTail] ++ srcTail }
def source0 : Source :=
  { magic := 0, format := 0, steps := 0, cls := 0, prio := 0, bytes := 0, crc := 0, resv := false, inSet := [], outSet := [], body := [] }
def check0 : Check := { chk := chk0, locked := false, bits := 0, errs := 0, losses := 0 }
def dump0 : CalDump := { at_ := 0, addr := 0, probes := Tab.empty, ff := Tab.empty, tref := Tab.empty, trig := Tab.empty }
def calFile0 : CalFile :=
  { readOk := false, formatOk := true, bytes := 0, kind := 1, band := 0, dieId := 0, crcOk := true, digestOk := true, adc := [], probes := [],
    ff := [], blocks := [], gains := [], voa := [], lamp := [] }

/-- The checks of a port, once they are a decidable fact. -/
theorem passes {d : Dev} {k : Nat} {f : Frame} {c : Nat} {sq : Bool} (n : Nat)
    (h : d.get (FRY_PORT_STATUS_STATE k) = 2 ∧ (d.fryP k).discard = false ∧ f.crcOk = true ∧ 64 ≤ f.length ∧ f.length ≤ 1024
      ∧ f.length % 8 = 0 ∧ typeRow f.typ = some (c, n, sq) ∧ (sq = true → f.lseq % 4096 = (d.fryP k).rx ∧ (d.fryP k).rx < 4096)
      ∧ f.cls = c ∧ (c < 3 → f.win = true) ∧ lengthOk f.typ f.length = true ∧ (f.typ = 0x20 → d.safetyA k = true)) :
    Passes d k f c sq :=
  ⟨h.1, h.2.1, h.2.2.1, h.2.2.2.1, h.2.2.2.2.1, h.2.2.2.2.2.1, ⟨n, h.2.2.2.2.2.2.1⟩, h.2.2.2.2.2.2.2⟩
theorem good_frame {d : Dev} {k : Nat} {f : Frame} {c : Nat} {sq : Bool} (n : Nat)
    (h : (d.get (FRY_PORT_STATUS_STATE k) = 2 ∧ (d.fryP k).discard = false ∧ f.crcOk = true ∧ 64 ≤ f.length ∧ f.length ≤ 1024
      ∧ f.length % 8 = 0 ∧ typeRow f.typ = some (c, n, sq) ∧ (sq = true → f.lseq % 4096 = (d.fryP k).rx ∧ (d.fryP k).rx < 4096)
      ∧ f.cls = c ∧ (c < 3 → f.win = true) ∧ lengthOk f.typ f.length = true ∧ (f.typ = 0x20 → d.safetyA k = true))
      ∧ (linkLocal f.typ = true ∨ f.bcast = false ∧ f.dst = d.moduleId)) :
    GoodFrame d k f c sq :=
  ⟨passes n h.1, h.2⟩
theorem admittable {d : Dev} {o : Op} {n : Nat}
    (h : d.op o.tag = some o ∧ (d.atDecision (queueOf o.ring)).op o.tag = some o ∧ o.ring ≤ 64 ∧ o.fn < 64 ∧ o.entry.items < 2 ∧ d.acting = true
      ∧ (d.atDecision (queueOf o.ring)).admissible o.tag n = true ∧ (atHead d o).checks o = 0) : Admittable d o n := h

/-- What a solve or a compilation found. -/
def routeOf : Solved → Route
  | .route r _ _ => r
  | .refused _ => ⟨0, 0, 0, 0⟩
def movesOf : Solved → List (Nat × Route)
  | .route _ mv _ => mv
  | .refused _ => []
def roomOf : Solved → List Nat
  | .route _ _ rm => rm
  | .refused _ => []
def stepsOf : Except Nat (List TStep) → List TStep
  | .ok l => l
  | .error _ => []

/-- A round in which every sensor reads 25.00 degC. -/
def evenRaws : List (Option Int) := List.replicate 110 (some 2500)
/-- 792 self-calibration results of offset 0 and gain 0, as the factory set after reset has them. -/
def adcResults : List (Int × Nat) := List.replicate 792 (0, 0)
/-- A table of more steps than the step cache holds. -/
def longTable : Table := { table0 with steps := List.replicate 8193 tstep0 }
theorem long_steps : 8192 < longTable.steps.length := by
  rw [show longTable.steps = List.replicate 8193 tstep0 from rfl, List.length_replicate]
  decide

theorem live_of {s : State} (h : s.held = false) : s.live := h
theorem answers_of {s : State} (h : s.held = false ∧ s.dev.on RST_STATUS_BOOT_DONE = true) : s.answers := h

/-- No reach runs. -/
theorem idle_reaches (n : Nat) : (running base).dev.reachState n ≠ 2 := by
  have h : (running base).dev.get CAL_REACH_STATE = 0 := by decide +kernel
  simp [Dev.reachState, h, bits]
theorem idle_reaches2 (n : Nat) : ((base.putTkt 0 { tkt0 with state := 3, valid := true, dst := 496 })).reachState n ≠ 2 := idle_reaches n
theorem no_proposal (p : Proposal) (h : base.tps.prop = some p) : 1 ≠ p.seq := by cases h
theorem gw_idle (c : Nat) (_ : c = 2 * 11 ∨ c = 2 * 11 + 1) : (base.gw c).todo = [] ∧ (base.gw c).prog = [] := ⟨rfl, rfl⟩
theorem adc_fit (i : Nat) (x : Int × Nat) (h : adcResults[i]? = some x) : adcFits ((base.cal.factory).get adc0 i) x = true := by
  have m : x = (0, 0) := List.eq_of_mem_replicate (List.mem_of_getElem? h)
  subst m
  show adcFits adc0 (0, 0) = true
  decide
theorem even_values (i : Nat) (h : i < 110) :
    ∃ y : Int, evenRaws.getD i none = some y ∧ -32768 < y ∧ y < 11000 ∧ y < sgn 16 (base.get THM_CFG_WARN) :=
  ⟨2500, by rw [evenRaws, List.getD_eq_getElem?_getD, List.getElem?_replicate, if_pos h]; rfl, by decide +kernel⟩
/-- The median of equal values is that value. -/
theorem median_even (v : Int) (l : List Int) (h : ∀ x ∈ l, x = v) (hn : l ≠ []) : median2 l = 2 * v := by
  have g : ∀ k < (l.mergeSort (fun a b => decide (a ≤ b))).length, (l.mergeSort (fun a b => decide (a ≤ b))).getD k 0 = v := by
    intro k hk
    rw [List.getD_eq_getElem?_getD, List.getElem?_eq_getElem hk]
    exact h _ (List.mem_mergeSort.mp (List.getElem_mem hk))
  have p : 0 < (l.mergeSort (fun a b => decide (a ≤ b))).length := by
    rw [List.length_mergeSort]
    exact List.length_pos_of_ne_nil hn
  unfold median2
  simp only
  split
  · rw [g _ (by omega)]
  · rw [g _ (by omega), g _ (by omega)]
    omega

/-- A round in which every sensor reads the same breaks none. -/
theorem even_breaks (d : Dev) : d.breaking evenRaws = [] := by
  have w : ∀ j x, d.working evenRaws j = some x → x = 2500 := by
    intro j x h
    unfold Dev.working evenRaws at h
    split at h
    · cases h
    · rw [List.getD_eq_getElem?_getD, List.getElem?_replicate] at h
      split at h <;> simp at h
      exact h.symm
  have md : ∀ l m, medianOf (d.working evenRaws) l = some m → m = 5000 := by
    intro l m h
    unfold medianOf at h
    simp only at h
    split at h
    · cases h
    · rename_i hv
      rw [median_even 2500 _ (fun x hx => by
        obtain ⟨j, _, hj⟩ := List.mem_filterMap.mp hx
        exact w j x hj) (by simpa using hv)] at h
      simpa using h.symm
  have nb : ∀ i m, neighbours4 (d.working evenRaws) i = some m → m = 10000 := by
    intro i m h
    unfold neighbours4 at h
    split at h
    · simp only [Option.map_eq_some_iff] at h
      obtain ⟨k, hk, rfl⟩ := h
      rw [md _ _ hk]
      rfl
    · split at h
      · simp only [Option.map_eq_some_iff] at h
        obtain ⟨k, hk, rfl⟩ := h
        rw [md _ _ hk]
        rfl
      · generalize (if i = 108 then 109 else 108) = j at h
        simp only at h
        split at h
        · cases h
        · rename_i hv
          rw [median_even 5000 _ (fun x hx => by
            rcases List.mem_append.mp hx with hx | hx
            · simp only [Option.mem_toList, Option.map_eq_some_iff] at hx
              obtain ⟨k, hk, rfl⟩ := hx
              rw [w _ _ hk]
              rfl
            · simp only [Option.mem_toList] at hx
              exact md _ _ hx) (by simpa using hv)] at h
          simpa using h.symm
  unfold Dev.breaking
  apply List.filter_eq_nil_iff.mpr
  intro i hi
  rw [evenRaws, List.getD_eq_getElem?_getD, List.getElem?_replicate, if_pos (List.mem_range.mp hi)]
  simp only [Option.getD_some, Bool.and_eq_true, not_and]
  intro _
  split
  · rename_i m hm
    rw [nb i m hm]
    simp
  · decide
theorem no_steps {d : Dev} {n : Nat} (h : d.allXings = []) : d.stepsAhead n = [] := by simp [Dev.stepsAhead, h]
theorem plain_of {d : Dev} (h : ∀ g, g < 65 → d.on (RING_CFG_SQ_COH g) = false) : d.plainRings := h
theorem reached_of {s : State} {r : Requester} {off : Nat} (h : s.held = false ∧ (s.dev.on RST_STATUS_BOOT_DONE = true ∨ debugTst r off = true)
    ∧ canName r off = true ∧ s.dev.respAt off = 0) : Reached s r off := h

/-- A tag that differs from the one a party's key makes. -/
theorem mac_differs (d : Dev) (b : Bool) (p : Proposal) : d.macOf b p + 1 ≠ d.macOf b p := Nat.succ_ne_self _

/-! ### A calibration file and a manifest that pass their checks -/

/-- One record of each section, of values in range. -/
def calRec (t : Nat) : List Byte :=
  [[], [0, 0, 0, 128, 0, 0, 0, 0], [0, 0, 1, 0, 0, 0, 0, 0], List.replicate 16 0, List.replicate 8 0, List.replicate 32 0, List.replicate 16 0,
    List.replicate 4 0].getD t []
def calBody (t : Nat) : List Byte := (List.replicate (calShape t).1 (calRec t)).flatten
def calHead (kind : Nat) : List Byte :=
  leBytes 4 0x43464331 ++ (leBytes 2 1 ++ (leBytes 1 kind ++ (leBytes 1 Config.band ++ (leBytes 4 (calBytes (calTypes kind))
    ++ (leBytes 4 (calTypes kind).length ++ (leBytes 32 dieIdentity ++ (leBytes 8 0 ++ List.replicate 0xC4 0)))))))
def calSecs (ts : List Nat) : List Byte := ts.flatMap (fun t => putSection t (calBody t))
def calFront (kind : Nat) : List Byte := calHead kind ++ (leBytes 4 (crcOf (calHead kind)) ++ calSecs (calTypes kind))
def calImage (kind : Nat) : HostFile := { readOk := true, bytes := calFront kind ++ sha256 (calFront kind) }

theorem calRec_length (t : Nat) (h : t = 1 ∨ t = 2 ∨ t = 3 ∨ t = 4 ∨ t = 5 ∨ t = 6 ∨ t = 7) : (calRec t).length = (calShape t).2 := by
  rcases h with h | h | h | h | h | h | h <;> subst h <;> decide
theorem calBody_length (t : Nat) (h : t = 1 ∨ t = 2 ∨ t = 3 ∨ t = 4 ∨ t = 5 ∨ t = 6 ∨ t = 7) :
    (calBody t).length = (calShape t).1 * (calShape t).2 := by
  rw [calBody, List.length_flatten, List.map_replicate, List.sum_replicate, calRec_length t h]
  rfl
theorem calSecs_read (ts : List Nat) (l : List Byte) (h : ∀ t ∈ ts, t = 1 ∨ t = 2 ∨ t = 3 ∨ t = 4 ∨ t = 5 ∨ t = 6 ∨ t = 7) :
    sectionsAt ts.length (calSecs ts ++ l) = ts.map (fun t => ⟨t, calBody t, true, true⟩) := by
  induction ts with
  | nil => rfl
  | cons t ts ih =>
    have ht := h t List.mem_cons_self
    rw [calSecs, List.flatMap_cons, List.append_assoc, List.length_cons, sectionsAt_put, List.map_cons]
    · rw [← ih (fun x hx => h x (List.mem_cons_of_mem t hx))]
      rfl
    · omega
    · rw [calBody_length t ht]
      rcases ht with h | h | h | h | h | h | h <;> subst h <;> decide
theorem calSecs_length (ts : List Nat) (h : ∀ t ∈ ts, t = 1 ∨ t = 2 ∨ t = 3 ∨ t = 4 ∨ t = 5 ∨ t = 6 ∨ t = 7) :
    (calSecs ts).length = (ts.map (fun t => 16 + (calShape t).1 * (calShape t).2)).sum := by
  induction ts with
  | nil => rfl
  | cons t ts ih =>
    rw [calSecs, List.flatMap_cons, List.length_append, putSection_length, calBody_length t (h t List.mem_cons_self), List.map_cons, List.sum_cons,
      ← ih (fun x hx => h x (List.mem_cons_of_mem t hx))]
    rfl
theorem calTypes_mem (k t : Nat) (h : t ∈ calTypes k) : t = 1 ∨ t = 2 ∨ t = 3 ∨ t = 4 ∨ t = 5 ∨ t = 6 ∨ t = 7 := by
  unfold calTypes at h
  split at h
  · simpa using h
  · split at h
    · simp at h
      omega
    · simp at h
theorem calRecords_same (ts : List Nat) (t : Nat) (h : t = 1 ∨ t = 2 ∨ t = 3 ∨ t = 4 ∨ t = 5 ∨ t = 6 ∨ t = 7) :
    calRecords (ts.map (fun t => ⟨t, calBody t, true, true⟩)) t = if t ∈ ts then List.replicate (calShape t).1 (calRec t) else [] := by
  have f : (ts.map (fun t => (⟨t, calBody t, true, true⟩ : Section))).find? (fun s => s.typ == t)
      = if t ∈ ts then some ⟨t, calBody t, true, true⟩ else none := by
    induction ts with
    | nil => rfl
    | cons x ts ih =>
      rw [List.map_cons, List.find?_cons]
      by_cases e : x = t
      · subst e
        simp
      · have g : (x == t) = false := by simpa using e
        simp only [g, ih]
        simp [Ne.symm e]
  unfold calRecords
  rw [f]
  split
  · rename_i s hs
    split at hs
    · rw [← Option.some.inj hs, calBody, recordsOf_same _ _ _ (calRec_length t h)]
      simp [*]
    · cases hs
  · rename_i hs
    split at hs
    · cases hs
    · simp [*]
theorem die_lt : dieIdentity < 256 ^ 32 := by
  have g : ∀ n, (List.range n).foldl (fun n q => n + Config.dieId q % 2 ^ 32 * 2 ^ (32 * q)) 0 < 2 ^ (32 * n) := by
    intro n
    induction n with
    | zero => decide
    | succ n ih =>
      rw [List.range_succ, List.foldl_append, List.foldl_cons, List.foldl_nil, Nat.mul_succ, Nat.pow_add, Nat.mul_comm (2 ^ (32 * n))]
      have w : Config.dieId n % 2 ^ 32 + 1 ≤ 2 ^ 32 := Nat.mod_lt _ (by decide)
      refine Nat.lt_of_lt_of_le (Nat.add_lt_add_right ih _) ?_
      rw [Nat.add_comm, ← Nat.succ_mul]
      exact Nat.mul_le_mul_right _ w
  exact g 8
theorem band_lt : Config.band < 256 ^ 1 := by
  unfold Config.band
  split <;> decide

/-- What the sample file reads as, for either KIND. -/
theorem calImage_read (k : Nat) (hk : k = 1 ∨ k = 2) :
    let f := calFile (calImage k)
    f.readOk = true ∧ f.formatOk = true ∧ f.bytes = calBytes (calTypes k) ∧ f.kind = k ∧ f.band = Config.band ∧ f.dieId = dieIdentity
      ∧ f.crcOk = true ∧ f.digestOk = true ∧ CalFile.inRange f = true := by
  have hb : (calImage k).bytes = calHead k ++ (leBytes 4 (crcOf (calHead k)) ++ (calSecs (calTypes k) ++ sha256 (calFront k))) := by
    simp [calImage, calFront, List.append_assoc]
  have hh : (calHead k).length = 0xFC := by
    simp only [calHead, List.length_append, leBytes_length, List.length_replicate]
  have hm : ∀ t ∈ calTypes k, t = 1 ∨ t = 2 ∨ t = 3 ∨ t = 4 ∨ t = 5 ∨ t = 6 ∨ t = 7 := calTypes_mem k
  generalize ht : sha256 (calFront k) = sh at hb
  have kk : leAt (calImage k).bytes 6 1 = k := by
    rw [hb, calHead]
    simp only [List.append_assoc]
    rw [leAt_skip _ _ _ _ (by simp), leAt_skip _ _ _ _ (by simp)]
    simp only [leBytes_length, Nat.reduceSub, leAt_leBytes]
    rcases hk with h | h <;> subst h <;> rfl
  have magic : leAt (calImage k).bytes 0 4 = 0x43464331 := by
    rw [hb, calHead]
    simp only [List.append_assoc, leAt_leBytes]
    decide
  have form : leAt (calImage k).bytes 4 2 = 1 := by
    rw [hb, calHead]
    simp only [List.append_assoc]
    rw [leAt_skip _ _ _ _ (by simp)]
    simp only [leBytes_length, Nat.reduceSub, leAt_leBytes]
    decide
  have bnd : leAt (calImage k).bytes 7 1 = Config.band := by
    rw [hb, calHead]
    simp only [List.append_assoc]
    rw [leAt_skip _ _ _ _ (by simp), leAt_skip _ _ _ _ (by simp), leAt_skip _ _ _ _ (by simp)]
    simp only [leBytes_length, Nat.reduceSub, leAt_leBytes]
    exact Nat.mod_eq_of_lt band_lt
  have len : leAt (calImage k).bytes 8 4 = calBytes (calTypes k) := by
    rw [hb, calHead]
    simp only [List.append_assoc]
    rw [leAt_skip _ _ _ _ (by simp), leAt_skip _ _ _ _ (by simp), leAt_skip _ _ _ _ (by simp), leAt_skip _ _ _ _ (by simp)]
    simp only [leBytes_length, Nat.reduceSub, leAt_leBytes]
    rcases hk with h | h <;> subst h <;> decide
  have cnt : leAt (calImage k).bytes 12 4 = (calTypes k).length := by
    rw [hb, calHead]
    simp only [List.append_assoc]
    rw [leAt_skip _ _ _ _ (by simp), leAt_skip _ _ _ _ (by simp), leAt_skip _ _ _ _ (by simp), leAt_skip _ _ _ _ (by simp), leAt_skip _ _ _ _ (by simp)]
    simp only [leBytes_length, Nat.reduceSub, leAt_leBytes]
    rcases hk with h | h <;> subst h <;> decide
  have die : leAt (calImage k).bytes 0x10 32 = dieIdentity := by
    rw [hb, calHead]
    simp only [List.append_assoc]
    rw [leAt_skip _ _ _ _ (by simp), leAt_skip _ _ _ _ (by simp), leAt_skip _ _ _ _ (by simp), leAt_skip _ _ _ _ (by simp), leAt_skip _ _ _ _ (by simp),
      leAt_skip _ _ _ _ (by simp)]
    simp only [leBytes_length, Nat.reduceSub, leAt_leBytes]
    exact Nat.mod_eq_of_lt die_lt
  have zer : zeroAt (calImage k).bytes 0x38 0xC4 = true := by
    rw [hb, calHead]
    simp only [List.append_assoc]
    rw [zeroAt_skip _ _ _ _ (by simp), zeroAt_skip _ _ _ _ (by simp), zeroAt_skip _ _ _ _ (by simp), zeroAt_skip _ _ _ _ (by simp), zeroAt_skip _ _ _ _ (by simp),
      zeroAt_skip _ _ _ _ (by simp), zeroAt_skip _ _ _ _ (by simp), zeroAt_skip _ _ _ _ (by simp)]
    simp only [leBytes_length, Nat.reduceSub]
    exact zeroAt_zeros _ _
  have hcrc : leAt (calImage k).bytes 0xFC 4 = crcOf ((calImage k).bytes.take 0xFC) := by
    rw [hb, List.take_left' hh, leAt_skip _ _ _ _ (Nat.le_of_eq hh), hh, Nat.sub_self, leAt_leBytes]
    exact Nat.mod_eq_of_lt (crcOf_lt _)
  have secs : sectionsAt (calTypes k).length ((calImage k).bytes.drop 256) = (calTypes k).map (fun t => ⟨t, calBody t, true, true⟩) := by
    rw [hb, ← List.append_assoc, List.drop_left' (by simp [hh])]
    exact calSecs_read _ _ hm
  have dig : sealed (calImage k).bytes (calBytes (calTypes k)) = true := by
    rw [calImage, sealed_sha]
    simp only [calFront, List.length_append, hh, leBytes_length, calSecs_length _ hm, calBytes]
    omega
  have r := fun t (h : t = 1 ∨ t = 2 ∨ t = 3 ∨ t = 4 ∨ t = 5 ∨ t = 6 ∨ t = 7) => calRecords_same (calTypes k) t h
  have inTs : ∀ (t : Nat) (P : List Byte → Bool), (t = 1 ∨ t = 2 ∨ t = 3 ∨ t = 4 ∨ t = 5 ∨ t = 6 ∨ t = 7) → P (calRec t) = true →
      (calRecords ((calTypes k).map (fun t => ⟨t, calBody t, true, true⟩)) t).all P = true := by
    intro t P ht hP
    rw [r t ht]
    split
    · rw [List.all_eq_true]
      intro x hx
      rw [List.eq_of_mem_replicate hx]
      exact hP
    · rfl
  simp only [calFile, kk, magic, form, bnd, len, cnt, die, zer, hcrc, secs, dig]
  refine ⟨rfl, ?_, trivial, trivial, trivial, trivial, ?_, trivial, ?_⟩
  · have a1 : ((calTypes k).map (fun t => (⟨t, calBody t, true, true⟩ : Section))).map (·.typ) = calTypes k := by
      rw [List.map_map]
      exact List.map_id' _
    have a2 : ((calTypes k).map (fun t => (⟨t, calBody t, true, true⟩ : Section))).all
        (fun s => s.plain && s.body.length == (calShape s.typ).1 * (calShape s.typ).2) = true := by
      rw [List.all_map, List.all_eq_true]
      intro t ht
      simp [calBody_length t (hm t ht)]
    have a3 : (calTypes k).all (fun t => (calRecords ((calTypes k).map (fun t => ⟨t, calBody t, true, true⟩)) t).all (calPlain t)) = true := by
      rw [List.all_eq_true]
      intro t ht
      apply inTs t (calPlain t) (hm t ht)
      rcases hm t ht with h | h | h | h | h | h | h <;> subst h <;> decide
    rw [a1, a2, a3]
    simp
  · rw [List.all_map, List.all_eq_true]
    intro t _
    rfl
  · simp only [CalFile.inRange, List.all_map]
    rw [inTs 3 _ (by omega), inTs 1 _ (by omega), inTs 2 _ (by omega), inTs 4 _ (by omega)]
    · rfl
    all_goals decide

/-- The device about to take a calibration file of either KIND. -/
def calTaking (k : Nat) : Dev := base.sets [(CAL_STATUS_LOAD_BUSY, 1), (CAL_STATUS_FACTORY, 1), (CAL_FILE_LEN, calBytes (calTypes k))]
theorem cal_accepts (k : Nat) (hk : k = 1 ∨ k = 2) :
    let f := calFile (calImage k)
    let d := (running (calTaking k)).dev.setB CAL_STATUS_LOAD_BUSY false
    d.calErr f = 0 ∧ f.kind = k := by
  obtain ⟨h1, h2, h3, h4, h5, h6, h7, h8, h9⟩ := calImage_read k hk
  refine ⟨?_, h4⟩
  have b : ((running (calTaking k)).dev.setB CAL_STATUS_LOAD_BUSY false).anyInService = false
      ∧ ((running (calTaking k)).dev.setB CAL_STATUS_LOAD_BUSY false).on CAL_STATUS_DUMP_BUSY = false
      ∧ ((running (calTaking k)).dev.setB CAL_STATUS_LOAD_BUSY false).on CAL_STATUS_ADC_BUSY = false
      ∧ ((running (calTaking k)).dev.setB CAL_STATUS_LOAD_BUSY false).on CAL_STATUS_FACTORY = true
      ∧ ((running (calTaking k)).dev.setB CAL_STATUS_LOAD_BUSY false).cal.miss = false
      ∧ ((running (calTaking k)).dev.setB CAL_STATUS_LOAD_BUSY false).get CAL_FILE_LEN = calBytes (calTypes k) := by
    rcases hk with h | h <;> subst h <;> decide +kernel
  obtain ⟨b1, b2, b3, b4, b5, b6⟩ := b
  unfold Dev.calErr
  simp only [b1, b2, b3, b4, b5, b6, h1, h2, h3, h4, h5, h6, h7, h8, h9]
  rcases hk with h | h <;> subst h <;> simp

/-- A PARTIAL manifest of one section, TIME, with its 32 bytes. -/
def manHead : List Byte :=
  leBytes 4 0x4F4D4631 ++ (leBytes 2 1 ++ (leBytes 1 2 ++ (leBytes 1 Config.band ++ (leBytes 4 144 ++ (leBytes 4 1 ++ (leBytes 8 7 ++ (leBytes 2 0
    ++ List.replicate 0x22 0)))))))
def manFront (b : List Byte) : List Byte := manHead ++ (leBytes 4 (crcOf manHead) ++ putSection 12 b)
def manImage (b : List Byte) : HostFile := { readOk := true, bytes := manFront b ++ sha256 (manFront b) }

/-- What the sample manifest reads as. -/
theorem manImage_read (b : List Byte) (h : b.length = 32) :
    let f := manFile (manImage b).readOk (manImage b).bytes
    f.readOk = true ∧ f.sections = [(12, leWords 8 b)] ∧ manHeader f 144 false = none := by
  have hh : manHead.length = 0x3C := by
    simp only [manHead, List.length_append, leBytes_length, List.length_replicate]
  have hb : (manImage b).bytes = manHead ++ (leBytes 4 (crcOf manHead) ++ (putSection 12 b ++ sha256 (manFront b))) := by
    simp [manImage, manFront, List.append_assoc]
  have dig : sealed (manImage b).bytes 144 = true := by
    rw [manImage, sealed_sha]
    simp only [manFront, List.length_append, hh, leBytes_length, putSection_length, h]
  generalize sha256 (manFront b) = sh at hb
  have magic : leAt (manImage b).bytes 0 4 = 0x4F4D4631 := by
    rw [hb, manHead]
    simp only [List.append_assoc, leAt_leBytes]
    decide
  have form : leAt (manImage b).bytes 4 2 = 1 := by
    rw [hb, manHead]
    simp only [List.append_assoc]
    rw [leAt_skip _ _ _ _ (by simp)]
    simp only [leBytes_length, Nat.reduceSub, leAt_leBytes]
    decide
  have kk : leAt (manImage b).bytes 6 1 = 2 := by
    rw [hb, manHead]
    simp only [List.append_assoc]
    rw [leAt_skip _ _ _ _ (by simp), leAt_skip _ _ _ _ (by simp)]
    simp only [leBytes_length, Nat.reduceSub, leAt_leBytes]
    decide
  have bnd : leAt (manImage b).bytes 7 1 = Config.band := by
    rw [hb, manHead]
    simp only [List.append_assoc]
    rw [leAt_skip _ _ _ _ (by simp), leAt_skip _ _ _ _ (by simp), leAt_skip _ _ _ _ (by simp)]
    simp only [leBytes_length, Nat.reduceSub, leAt_leBytes]
    exact Nat.mod_eq_of_lt band_lt
  have len : leAt (manImage b).bytes 8 4 = 144 := by
    rw [hb, manHead]
    simp only [List.append_assoc]
    rw [leAt_skip _ _ _ _ (by simp), leAt_skip _ _ _ _ (by simp), leAt_skip _ _ _ _ (by simp), leAt_skip _ _ _ _ (by simp)]
    simp only [leBytes_length, Nat.reduceSub, leAt_leBytes]
    decide
  have cnt : leAt (manImage b).bytes 12 4 = 1 := by
    rw [hb, manHead]
    simp only [List.append_assoc]
    rw [leAt_skip _ _ _ _ (by simp), leAt_skip _ _ _ _ (by simp), leAt_skip _ _ _ _ (by simp), leAt_skip _ _ _ _ (by simp), leAt_skip _ _ _ _ (by simp)]
    simp only [leBytes_length, Nat.reduceSub, leAt_leBytes]
    decide
  have zer : zeroAt (manImage b).bytes 0x1A 0x22 = true := by
    rw [hb, manHead]
    simp only [List.append_assoc]
    rw [zeroAt_skip _ _ _ _ (by simp), zeroAt_skip _ _ _ _ (by simp), zeroAt_skip _ _ _ _ (by simp), zeroAt_skip _ _ _ _ (by simp), zeroAt_skip _ _ _ _ (by simp),
      zeroAt_skip _ _ _ _ (by simp), zeroAt_skip _ _ _ _ (by simp), zeroAt_skip _ _ _ _ (by simp)]
    simp only [leBytes_length, Nat.reduceSub]
    exact zeroAt_zeros _ _
  have hcrc : leAt (manImage b).bytes 0x3C 4 = crcOf ((manImage b).bytes.take 0x3C) := by
    rw [hb, List.take_left' hh, leAt_skip _ _ _ _ (Nat.le_of_eq hh), hh, Nat.sub_self, leAt_leBytes]
    exact Nat.mod_eq_of_lt (crcOf_lt _)
  have secs : sectionsAt 1 ((manImage b).bytes.drop 64) = [⟨12, b, true, true⟩] := by
    rw [hb, ← List.append_assoc, List.drop_left' (by simp [hh]), sectionsAt_put _ _ _ _ (by decide) (by rw [h]; decide)]
    rfl
  have wl : (leWords 8 b).length = 8 := rfl
  simp only [manFile, kk, magic, form, bnd, len, cnt, zer, hcrc, dig]
  simp only [Nat.reduceLeDiff, if_true, secs]
  simp [manHeader, sectionsBad, Section.words, h, wl, manWords, manImage]
/-- The device about to take a PARTIAL manifest. -/
def manTaking : Dev :=
  let d := base.sets [(MAN_STATUS_LOAD_BUSY, 1), (MAN_STATUS_LOADED, 1)]
  { d with man := { d.man with len := 144 } }
/-- A TIME section of zeros, and one whose ROLE is out of range. -/
def manGood : List Byte := List.replicate 32 0
def manBad : List Byte := [3] ++ List.replicate 31 0
theorem man_bad :
    let f := manFile (manImage manBad).readOk (manImage manBad).bytes
    f.readOk = true ∧ (running manTaking).dev.man.miss = false ∧ manHeader f (running manTaking).dev.man.len (!(running manTaking).dev.manLoaded) = none
      ∧ f.sections.find? (fun x => bodyBad x.1 0 x.2) = some (12, leWords 8 manBad) := by
  obtain ⟨h1, h2, h3⟩ := manImage_read manBad (by decide)
  have g : (running manTaking).dev.man.miss = false ∧ (running manTaking).dev.man.len = 144 ∧ (running manTaking).dev.manLoaded = true
      ∧ [(12, leWords 8 manBad)].find? (fun x => bodyBad x.1 0 x.2) = some (12, leWords 8 manBad) := by decide +kernel
  simp only [h2, g.2.1, g.2.2.1]
  exact ⟨h1, g.1, h3, g.2.2.2⟩
theorem man_good :
    let f := manFile (manImage manGood).readOk (manImage manGood).bytes
    f.readOk = true ∧ (running manTaking).dev.man.miss = false ∧ manHeader f (running manTaking).dev.man.len (!(running manTaking).dev.manLoaded) = none
      ∧ ∀ x ∈ f.sections, bodyBad x.1 0 x.2 = false := by
  obtain ⟨h1, h2, h3⟩ := manImage_read manGood (by decide)
  have g : (running manTaking).dev.man.miss = false ∧ (running manTaking).dev.man.len = 144 ∧ (running manTaking).dev.manLoaded = true
      ∧ ∀ x ∈ [(12, leWords 8 manGood)], bodyBad x.1 0 x.2 = false := by decide +kernel
  simp only [h2, g.2.1, g.2.2.1]
  exact ⟨h1, g.1, h3, g.2.2.2⟩

/-! ## Witnesses: the hypotheses of every clause hold of some state and operands together -/

/-- Hypotheses of Obligations.StepRunsFrontCommand. -/
theorem witness_StepRunsFrontCommand :
    (∃ (s : State), s.live ∧ s.pending = []) ∧
    (∃ (s : State), s.pending = [] ∧ s.held = true) :=
  ⟨⟨running base, rfl, by decide +kernel⟩,
   ⟨State.reset, by decide +kernel⟩⟩



/-- Hypotheses of Obligations.StepKeepsSound. -/
theorem witness_StepKeepsSound :
    ∃ (s : State) (t : State), s.sound ∧ step s = .next t :=
  ⟨State.reset, { State.reset with dev := State.reset.dev }, rfl, rfl⟩


/-- Hypotheses of Obligations.HeldResetStopsAll. -/
theorem witness_HeldResetStopsAll :
    ∃ (c : Instr) (s : State), resetLogic c = false ∧ s.held = true :=
  ⟨.bootDone, State.reset, by decide +kernel⟩

/-- Hypotheses of Obligations.HoldFrame. -/
theorem witness_HoldFrame :
    ∃ (c : Instr) (s : State) (t : State), exec c s = .next t ∧ storesHold c = false :=
  ⟨.bootDone, State.reset, State.reset, rfl, by decide +kernel⟩

/-- Hypotheses of Obligations.AccessCodes. -/
theorem witness_AccessCodes :
    (∃ (old : Dev) (r : Requester) (dist : Nat) (word : Nat) (rf : RegField), rf.own = false ∧ (let f := rf.fld.at dist; (let v := bits word f.lo f.w; (let fits := (rf.ok = [] ∨ ∃ i ∈ rf.ok, i.1 ≤ v ∧ v ≤ i.2) ∧ old.takes_ r f v word = true; (let free := ∀ e, rf.frozen = some e → old.on (e.at dist) = false; ((rf.acc = .rw ∨ rf.acc = .sl ∧ old.on SEAL_STATUS_CLOSED = false)) ∧ fits ∧ free))))) ∧
    (∃ (old : Dev) (r : Requester) (dist : Nat) (word : Nat) (rf : RegField), rf.own = false ∧ (let f := rf.fld.at dist; (let v := bits word f.lo f.w; (let fits := (rf.ok = [] ∨ ∃ i ∈ rf.ok, i.1 ≤ v ∧ v ≤ i.2) ∧ old.takes_ r f v word = true; ((rf.acc = .rw ∨ rf.acc = .sl ∧ old.on SEAL_STATUS_CLOSED = false)) ∧ (¬ fits))))) ∧
    (∃ (old : Dev) (r : Requester) (dist : Nat) (word : Nat) (rf : RegField), rf.own = false ∧ (let f := rf.fld.at dist; (let v := bits word f.lo f.w; (let fits := (rf.ok = [] ∨ ∃ i ∈ rf.ok, i.1 ≤ v ∧ v ≤ i.2) ∧ old.takes_ r f v word = true; (let free := ∀ e, rf.frozen = some e → old.on (e.at dist) = false; ((rf.acc = .rw ∨ rf.acc = .sl ∧ old.on SEAL_STATUS_CLOSED = false)) ∧ fits ∧ (¬ free) ∧ v ≠ old.get f))))) ∧
    (∃ (rf : RegField), rf.own = false ∧ ((rf.acc = .ro ∨ rf.acc = .rc ∨ rf.acc = .wo))) ∧
    (∃ (rf : RegField), rf.own = false ∧ rf.acc = .w1c) ∧
    (∃ (dist : Nat) (word : Nat) (rf : RegField), rf.own = false ∧ (let f := rf.fld.at dist; (let v := bits word f.lo f.w; rf.acc = .w1call ∧ v = 0))) ∧
    (∃ (dist : Nat) (word : Nat) (rf : RegField), rf.own = false ∧ (let f := rf.fld.at dist; (let v := bits word f.lo f.w; rf.acc = .w1call ∧ v ≠ 0))) ∧
    (∃ (rf : RegField), rf.own = false ∧ rf.acc = .w1s) ∧
    (∃ (old : Dev) (rf : RegField), rf.own = false ∧ ((rf.acc = .sl ∨ rf.acc = .sk)) ∧ old.on SEAL_STATUS_CLOSED = true) :=
  ⟨⟨base, .fn 0, 0, 0, regField, by decide +kernel⟩,
   ⟨base, .fn 0, 0, 0, { regField with ok := [(1, 2)] }, by decide +kernel⟩,
   ⟨base.sets [(HST_MGMT_IPV4, 1)], .fn 0, 0, 2, { regField with frozen := some HST_MGMT_IPV4 }, by decide +kernel⟩,
   ⟨{ regField with acc := .wo }, by decide +kernel⟩,
   ⟨{ regField with acc := .w1c }, by decide +kernel⟩,
   ⟨0, 0, { regField with acc := .w1call }, by decide +kernel⟩,
   ⟨0, 1, { regField with acc := .w1call }, by decide +kernel⟩,
   ⟨{ regField with acc := .w1s }, by decide +kernel⟩,
   ⟨base.sets [(SEAL_STATUS_CLOSED, 1)], { regField with acc := .sk }, by decide +kernel⟩⟩

/-- Hypotheses of Obligations.RegisterAccesses. -/
theorem witness_RegisterAccesses :
    (∃ (s : State), s.answers ∧ s.dev.pairFailed 15 = false) ∧
    (∃ (s : State) (lo : Nat), s.answers ∧ lo < 2 ^ 32 ∧ s.dev.acc.wlatch.get none 0 = some (0x10008, lo)) ∧
    (∃ (s : State), s.answers ∧ s.dev.acc.wlatch.get none 0 = none) ∧
    (∃ (s : State), s.answers ∧ s.dev.pairFailed 15 = false) ∧
    (∃ (c : Instr) (r : Requester) (off : Nat), ownRow c = some (r, off) ∧ canName r off = false) ∧
    (∃ (s : State) (c : Instr) (r : Requester) (off : Nat), s.answers ∧ ownRow c = some (r, off) ∧ canName r off = true ∧ s.dev.respAt off ≠ 0) ∧
    (∃ (s : State) (v : Fin 2048), s.answers ∧ (s.dev.msixEnt 0 v).pend = false) :=
  ⟨⟨running base, ⟨rfl, rfl⟩, by decide +kernel⟩,
   ⟨(running ((let d := base; { d with acc := { d.acc with wlatch := d.acc.wlatch.put none 0 (some (0x10008, 7)) } } : Dev)) : State), 7, ⟨rfl, rfl⟩, by decide +kernel⟩,
   ⟨running base, ⟨rfl, rfl⟩, by decide +kernel⟩,
   ⟨running base, ⟨rfl, rfl⟩, by decide +kernel⟩,
   ⟨.blockIn (.fn 1) 0, .fn 1, 0x10100, by decide +kernel⟩,
   ⟨(running ((base.setLink 30 { link0 with failed := true }).setLink 31 { link0 with failed := true }) : State), .doorbell (.fn 0) 0 0, .fn 0, 0x32020, ⟨rfl, rfl⟩, by decide +kernel⟩,
   ⟨running base, 0, ⟨rfl, rfl⟩, by decide +kernel⟩⟩

/-- Hypotheses of Obligations.BadWidthRefused. -/
theorem witness_BadWidthRefused :
    (∃ (s : State) (f : Fin 64) (off : Nat) (bytes : Nat), s.answers ∧ inSpace (.fn f) off = true ∧ bytes ≠ 4 ∧ bytes ≠ 8) ∧
    (∃ (s : State) (f : Fin 64) (off : Nat), s.answers ∧ inSpace (.fn f) off = true ∧ off % 4 ≠ 0) ∧
    (∃ (s : State) (bytes : Nat), s.answers ∧ bytes ≠ 4 ∧ bytes ≠ 8) :=
  ⟨⟨running base, 63, 0, 1, ⟨rfl, rfl⟩, by decide +kernel⟩,
   ⟨running base, 0, 2, ⟨rfl, rfl⟩, by decide +kernel⟩,
   ⟨running base, 1, ⟨rfl, rfl⟩, by decide +kernel⟩⟩

/-- Hypotheses of Obligations.BackboneLinks. -/
theorem witness_BackboneLinks :
    (∃ (s : State) (l : Fin 66) (bad : Nat), s.live ∧ (s.dev.link l).failed = false ∧ (s.dev.link l).discard = false ∧ (s.dev.link l).again = [] ∧ (s.dev.link l).retry = [] ∧ bad % 16 = 0 ∧ (s.dev.link l).corrupt = 0) ∧
    (∃ (s : State) (l : Fin 66) (w : Nat) (bad : Nat) (q : List Nat) (p : List Nat), s.live ∧ (s.dev.link l).failed = false ∧ (s.dev.link l).discard = false ∧ (s.dev.link l).again = w :: q ∧ (s.dev.link l).retry = w :: p ∧ bad % 16 = 0 ∧ (s.dev.link l).corrupt = 0) ∧
    (∃ (s : State) (l : Fin 66) (w : Nat) (v : Nat) (q : List Nat), s.live ∧ (s.dev.link l).again = v :: q ∧ v ≠ w) ∧
    (∃ (s : State) (l : Fin 66) (bad : Nat), s.live ∧ (s.dev.link l).failed = false ∧ (s.dev.link l).discard = false ∧ (s.dev.link l).again = [] ∧ (s.dev.link l).retry = [] ∧ bad % 16 ≠ 0) ∧
    (∃ (s : State) (l : Fin 66), s.live ∧ (s.dev.link l).failed = false ∧ (s.dev.link l).discard = true ∧ (s.dev.link l).again = [] ∧ (s.dev.link l).retry.length < 8) ∧
    (∃ (s : State) (l : Fin 66), s.live ∧ (s.dev.link l).again = [] ∧ 8 ≤ (s.dev.link l).retry.length) ∧
    (∃ (s : State) (l : Fin 66), s.live ∧ (s.dev.link l).failed = false ∧ (s.dev.link l).discard = true ∧ (s.dev.link l).replays < 4) ∧
    (∃ (s : State) (l : Fin 66), s.live ∧ (s.dev.link l).failed = false ∧ (s.dev.link l).discard = true ∧ 4 ≤ (s.dev.link l).replays ∧ l.val < 24) ∧
    (∃ (s : State) (l : Fin 66), s.live ∧ (s.dev.link l).failed = false ∧ (s.dev.link l).discard = true ∧ 4 ≤ (s.dev.link l).replays ∧ 24 ≤ l.val ∧ l.val / 2 ≠ 16) ∧
    (∃ (s : State) (l : Fin 66), s.live ∧ (s.dev.link l).discard = false) :=
  ⟨⟨running base, 0, 0, rfl, by decide +kernel⟩,
   ⟨(running (base.setLink 35 { link0 with again := [7, 8], retry := [7, 8] }) : State), 35, 7, 0, [8], [8], rfl, by decide +kernel⟩,
   ⟨(running (base.setLink 35 { link0 with again := [7] }) : State), 35, 8, 7, [], rfl, by decide +kernel⟩,
   ⟨running base, 35, 1, rfl, by decide +kernel⟩,
   ⟨(running (base.setLink 35 { link0 with discard := true }) : State), 35, rfl, by decide +kernel⟩,
   ⟨(running (base.setLink 35 { link0 with retry := [1, 2, 3, 4, 5, 6, 7, 8] }) : State), 35, rfl, by decide +kernel⟩,
   ⟨(running (base.setLink 35 { link0 with retry := [1], discard := true, replays := 3 }) : State), 35, rfl, by decide +kernel⟩,
   ⟨(running (base.setLink 23 { link0 with retry := [1], discard := true, replays := 4 }) : State), 23, rfl, by decide +kernel⟩,
   ⟨(running (base.setLink 24 { link0 with retry := [1], discard := true, replays := 4 }) : State), 24, rfl, by decide +kernel⟩,
   ⟨running base, 0, rfl, by decide +kernel⟩⟩

/-- Hypotheses of Obligations.ReachClocks. -/
theorem witness_ReachClocks :
    (∃ (s : State) (n : Fin 12), s.live ∧ (s.dev.rch n).clockLost = true) ∧
    (∃ (s : State) (n : Fin 12), s.live ∧ (s.dev.rch n).clockLost = false) :=
  ⟨⟨(running (base.setRch 11 { rch0 with clockLost := true }) : State), 11, rfl, by decide +kernel⟩,
   ⟨running base, 0, rfl, by decide +kernel⟩⟩

/-- Hypotheses of Obligations.CapstanFailure. -/
theorem witness_CapstanFailure :
    (∃ (s : State) (b : Fin 96), s.live ∧ s.dev.inService b = false) ∧
    (∃ (s : State) (b : Fin 96), s.live ∧ s.dev.inService b = false) ∧
    (∃ (s : State) (b : Fin 96), s.live ∧ s.dev.inService b = true ∧ s.dev.on (CAP_BLK_STATUS_ADOPTED b) = false ∧ (s.dev.setB (CAP_BLK_STATUS_FAILED b) true).adoptable b = true ∧ s.dev.on (CAP_BLK_STATUS_ADOPTING b) = false) ∧
    (∃ (s : State) (b : Fin 96), s.live ∧ s.dev.inService b = true ∧ s.dev.on (CAP_BLK_STATUS_ADOPTED b) = false ∧ (s.dev.setB (CAP_BLK_STATUS_FAILED b) true).adoptable b = false) ∧
    (∃ (s : State) (b : Fin 96), s.live ∧ s.dev.inService b = true ∧ s.dev.on (CAP_BLK_STATUS_ADOPTED b) = true ∧ 2 ≤ s.dev.convsLeft b) ∧
    (∃ (s : State) (b : Fin 96) (f : Fld), s.live ∧ s.dev.inService b = true ∧ s.dev.on (CAP_BLK_STATUS_FAILED b) = true ∧ s.dev.on (CAP_BLK_STATUS_ADOPTED b) = false ∧ s.dev.adoptable b = true ∧ f.key ≠ (CAP_BLK_STATUS_ADOPTED b).key ∧ f.key ≠ (CAP_BLK_STATUS_ADOPTING (sibling b)).key) ∧
    (∃ (s : State) (b : Fin 96), s.live ∧ s.dev.inService b = true ∧ s.dev.on (CAP_BLK_STATUS_FAILED b) = true ∧ s.dev.on (CAP_BLK_STATUS_ADOPTED b) = false ∧ s.dev.adoptable b = false) :=
  ⟨⟨running base, 95, rfl, by decide +kernel⟩,
   ⟨running base, 95, rfl, by decide +kernel⟩,
   ⟨(running ((base.sets [(FAB_BLK_STATUS_IN_SERVICE 0, 1), (FAB_BLK_STATUS_IN_SERVICE 1, 1)]).putForce (manKey 2 0 2) 1) : State), 0, live_of (by decide +kernel), by decide +kernel⟩,
   ⟨(running (base.sets [(FAB_BLK_STATUS_IN_SERVICE 0, 1)]) : State), 0, rfl, by decide +kernel⟩,
   ⟨(running (base.sets [(FAB_BLK_STATUS_IN_SERVICE 95, 1), (CAP_BLK_STATUS_ADOPTED 95, 1)]) : State), 95, rfl, by decide +kernel⟩,
   ⟨(running (((base.sets [(FAB_BLK_STATUS_IN_SERVICE 0, 1), (FAB_BLK_STATUS_IN_SERVICE 1, 1)]).putForce (manKey 2 0 2) 1).sets [(CAP_BLK_STATUS_FAILED 0, 1)]) : State), 0, FAB_BLK_STATUS_IN_SERVICE 0, live_of (by decide +kernel), by decide +kernel⟩,
   ⟨(running (base.sets [(FAB_BLK_STATUS_IN_SERVICE 95, 1), (CAP_BLK_STATUS_FAILED 95, 1)]) : State), 95, rfl, by decide +kernel⟩⟩

/-- Hypotheses of Obligations.LampAndPorts. -/
theorem witness_LampAndPorts :
    (∃ (s : State) (n : Nat) (q : List Nat), s.live ∧ s.dev.fab.lamp.queue = n :: q ∧ s.dev.fab.lamp.owner = none ∧ s.dev.fab.lamp.off = false ∧ s.dev.still = false) ∧
    (∃ (s : State), s.live ∧ s.dev.fab.lamp.owner ≠ none) ∧
    (∃ (s : State) (b : Fin 32) (v : Int), s.live ∧ s.dev.get (FAB_LAMP_MON_GATE b) = 0 ∧ -4500 < v) ∧
    (∃ (s : State) (v : Int), s.live ∧ v ≤ -4500) ∧
    (∃ (s : State) (p : Fin 512) (t : Nat), s.live ∧ (s.dev.inP p).overSince = some t) ∧
    (∃ (s : State) (p : Fin 512), s.live ∧ (s.dev.inP p).overSince = none) ∧
    (∃ (s : State) (o : Fin 512) (rb : Nat), s.live ∧ rb < 65536 ∧ (s.dev.outP o).cmdCode ≠ 0xFFFF ∧ rb ≤ (s.dev.outP o).cmdCode + 50 ∧ (s.dev.outP o).cmdCode ≤ rb + 50) ∧
    (∃ (s : State) (o : Fin 512) (rb : Nat), s.live ∧ rb < 65536 ∧ (s.dev.outP o).cmdCode ≠ 0xFFFF ∧ (s.dev.outP o).cmdCode + 50 < rb ∧ s.dev.diag 4 = true) :=
  ⟨⟨(running ((base).setLamp { owner := none, queue := [11], off := false, shine := .dark, wave := 0 }) : State), 11, [], rfl, by decide +kernel⟩,
   ⟨(running ((base).setLamp { owner := some 3, queue := [], off := false, shine := .dark, wave := 0 }) : State), rfl, by decide +kernel⟩,
   ⟨running base, 31, -4499, rfl, by decide +kernel⟩,
   ⟨running base, -4500, rfl, by decide +kernel⟩,
   ⟨(running (base.setInP 511 { prt0 with overSince := some 5 }) : State), 511, 5, rfl, by decide +kernel⟩,
   ⟨running base, 0, rfl, by decide +kernel⟩,
   ⟨(running (base.setOutP 511 { prt0 with cmdCode := 100 }) : State), 511, 150, rfl, by decide +kernel⟩,
   ⟨(running ((base.setOutP 511 { prt0 with cmdCode := 100 }).putForce (manKey 1 0 16) 16) : State), 511, 151, live_of (by decide +kernel), by decide +kernel⟩⟩

/-- Hypotheses of Obligations.TicketPowers. -/
theorem witness_TicketPowers :
    ∃ (s : State) (t : Nat) (k : Ticket), s.live ∧ s.dev.tk.store.cells = [(t, k)] ∧ k.state = 3 ∧ k.srcLamp = false ∧ k.dstDrain = false :=
  ⟨(running (base.putTkt 0 { tkt0 with state := 3 }) : State), 0, { tkt0 with state := 3 }, rfl, by decide +kernel⟩

/-- Hypotheses of Obligations.FlipExecutes. -/
theorem witness_FlipExecutes :
    (∃ (s : State) (n : Nat) (tag : Nat) (x : Xing), s.live ∧ s.dev.xing n = some x ∧ x.kind = .op tag ∧ x.stage = .committed ∧ s.dev.still = false) ∧
    (∃ (s : State) (n : Nat) (x : Xing), s.live ∧ s.dev.xing n = some x ∧ x.stage ≠ .committed) ∧
    (∃ (s : State), s.live ∧ s.dev.still = true) :=
  ⟨⟨(running ((base).setXing 1 (some { xing0 with stage := .committed, instant := 10000, parts := [part0] })) : State), 1, 0, { xing0 with stage := .committed, instant := 10000, parts := [part0] }, rfl, by decide +kernel⟩,
   ⟨(running ((base).setXing 1 (some { xing0 with stage := .compute })) : State), 1, { xing0 with stage := .compute }, rfl, by decide +kernel⟩,
   ⟨(running (base.sets [(FLT_STATUS_SAFE, 1)]) : State), rfl, by decide +kernel⟩⟩

/-- Hypotheses of Obligations.PartSwitches. -/
theorem witness_PartSwitches :
    ∃ (p : Part) (i : Nat), (p.cells.map (·.1)).Nodup ∧ i ∉ p.cells.map (·.1) :=
  ⟨part0, 1, by decide +kernel⟩

/-- Hypotheses of Obligations.FlipAndParking. -/
theorem witness_FlipAndParking :
    (∃ (s : State) (b : Fin 96), s.live ∧ s.dev.clockLost b = false) ∧
    (∃ (s : State) (b : Fin 96), s.live ∧ s.dev.clockLost b = true) ∧
    (∃ (s : State) (b : Fin 96), s.live ∧ (s.dev.blk b).reload ≠ []) ∧
    (∃ (s : State) (b : Fin 96), s.live ∧ (s.dev.blk b).reload = []) ∧
    (∃ (s : State) (n : Nat) (b : Fin 96) (x : Xing) (p : Part), s.live ∧ ((∀ t k, x.kind ≠ .step t k)) ∧ s.dev.xing n = some x ∧ x.stage = .flipped ∧ x.parts.find? (fun p => p.blk == b.val && p.held) = some p ∧ s.dev.notLoaded p = false ∧ s.dev.still = false) ∧
    (∃ (s : State) (n : Nat) (t : Nat) (k : Nat) (b : Fin 96) (x : Xing) (p : Part) (u : Table), s.live ∧ s.dev.xing n = some x ∧ x.stage = .flipped ∧ x.parts.find? (fun p => p.blk == b.val && p.held) = some p ∧ s.dev.notLoaded p = false ∧ s.dev.still = false ∧ x.kind = .step t k ∧ s.dev.table t = some u) ∧
    (∃ (s : State) (n : Nat) (x : Xing), s.live ∧ s.dev.xing n = some x ∧ x.stage = .committed ∧ s.dev.still = false) ∧
    (∃ (s : State), s.live ∧ ((∀ n : Nat, s.dev.reachState n ≠ 2)) ∧ s.dev.tk.store.cells = []) ∧
    (∃ (s : State) (l : List (Fin 96)) (t : Nat) (k : Ticket), s.live ∧ ((∀ n : Nat, s.dev.reachState n ≠ 2)) ∧ s.dev.safe = false ∧ s.dev.tk.store.cells = [(t, k)] ∧ k.state = 3 ∧ k.valid = true ∧ k.dstDrain = false ∧ k.srcLamp = false ∧ ((∃ b ∈ l, b.val ∈ k.blocks))) ∧
    (∃ (s : State), s.live ∧ ((∀ b < 96, (s.dev.blk b).parking = none ∨ s.dev.clockLost b = true))) ∧
    (∃ (s : State) (t : Ns) (l : List Nat), s.live ∧ s.dev.nextPark = some (t, l)) :=
  ⟨⟨running base, 0, rfl, by decide +kernel⟩,
   ⟨(running (base.setRch 11 { rch0 with clockLost := true }) : State), 95, rfl, by decide +kernel⟩,
   ⟨(running (base.setBlk 95 { blk0 with reload := [95 * 144] }) : State), 95, rfl, by decide +kernel⟩,
   ⟨running base, 95, rfl, by decide +kernel⟩,
   ⟨(running ((base).setXing 1 (some { xing0 with stage := .flipped, parts := [{ part0 with blk := 3, held := true }] })) : State), 1, 3, { xing0 with stage := .flipped, parts := [{ part0 with blk := 3, held := true }] }, { part0 with blk := 3, held := true }, rfl, by intro t k; simp [xing0], by decide +kernel⟩,
   ⟨(running (((base).setXing 1 (some { xing0 with kind := .step 1023 0, stage := .flipped, parts := [{ part0 with blk := 3, held := true }] })).setTable 1023 (some table0)) : State), 1, 1023, 0, 3, { xing0 with kind := .step 1023 0, stage := .flipped, parts := [{ part0 with blk := 3, held := true }] }, { part0 with blk := 3, held := true }, table0, rfl, by decide +kernel⟩,
   ⟨(running ((base).setXing 1 (some { xing0 with stage := .committed, instant := 10000 })) : State), 1, { xing0 with stage := .committed, instant := 10000 }, rfl, by decide +kernel⟩,
   ⟨running base, rfl, idle_reaches, by decide +kernel⟩,
   ⟨(running (base.putTkt 0 { tkt0 with state := 3, valid := true, dst := 496 }) : State), [95], 0, { tkt0 with state := 3, valid := true, dst := 496 }, rfl, idle_reaches2, by decide +kernel⟩,
   ⟨running base, rfl, by decide +kernel⟩,
   ⟨(running (base.setBlk 95 { blk0 with parking := some 7 }) : State), 7, [95], rfl, by decide +kernel⟩⟩

/-- Hypotheses of Obligations.Wear. -/
theorem witness_Wear :
    (∃ (s : State) (i : Fin 13824), s.live ∧ s.dev.holdUp = true ∧ (s.dev.cell i).pend ≠ 0) ∧
    (∃ (s : State), s.live ∧ s.dev.holdUp = false) ∧
    (∃ (s : State) (r : Requester) (i : Fin 13824) (v : Nat), Reached s r (0x200008 + i / 144 * 0x2000 + i % 144 * 32) ∧ s.dev.inService (cellBlk i) = false ∧ v < 2 ^ 48 ∧ (s.dev.cell i).count ≤ v) ∧
    (∃ (s : State) (r : Requester) (i : Fin 13824), Reached s r (0x200008 + i / 144 * 0x2000 + i % 144 * 32) ∧ s.dev.inService (cellBlk i) = true) ∧
    (∃ (s : State) (r : Requester) (i : Fin 13824) (v : Nat), Reached s r (0x200008 + i / 144 * 0x2000 + i % 144 * 32) ∧ s.dev.inService (cellBlk i) = false ∧ v < 2 ^ 48 ∧ v < (s.dev.cell i).count) ∧
    (∃ (d : Dev) (i : Nat) (c : Cell), c.count < 80000000000 ∧ (d.cell i).count < 80000000000) ∧
    (∃ (d : Dev) (i : Nat) (c : Cell), c.count < 80000000000 ∧ 80000000000 ≤ (d.cell i).count ∧ (d.cell i).count < 100000000000) ∧
    (∃ (d : Dev) (i : Nat) (c : Cell), 80000000000 ≤ c.count ∧ c.count < 100000000000 ∧ 100000000000 ≤ (d.cell i).count) :=
  ⟨⟨(running ((base.sets [(HLD_STATUS_STATE, 2), (HLD_CTL_EN, 1)]).setCell 13823 { cell0 13823 with pend := 1 }) : State), 13823, rfl, by decide +kernel⟩,
   ⟨running base, rfl, by decide +kernel⟩,
   ⟨running base, .fn 0, 13823, 79999999999, reached_of (by decide +kernel), by decide +kernel⟩,
   ⟨(running (base.sets [(FAB_BLK_STATUS_IN_SERVICE 95, 1)]) : State), .fn 0, 13823, reached_of (by decide +kernel), by decide +kernel⟩,
   ⟨(running (base.setCell 13823 { cell0 13823 with wear := 5 }) : State), .fn 0, 13823, 4, reached_of (by decide +kernel), by decide +kernel⟩,
   ⟨base.setCell 13823 { cell0 13823 with wear := 79999999999 }, 13823, { cell0 0 with wear := 79999999999 }, by decide +kernel⟩,
   ⟨base.setCell 13823 { cell0 13823 with wear := 80000000000 }, 13823, { cell0 0 with wear := 79999999999 }, by decide +kernel⟩,
   ⟨base.setCell 13823 { cell0 13823 with wear := 100000000000 }, 13823, { cell0 0 with wear := 99999999999 }, by decide +kernel⟩⟩

/-- Hypotheses of Obligations.BenesConnects. -/
theorem witness_BenesConnects :
    (∃ (p : Nat) (z : Nat) (c : Nat) (s : Nat) (h : Nat × Bool × Nat), p < 32 ∧ z < 32 ∧ c < 16 ∧ (benes p z c)[s]? = some h ∧ s < 4) ∧
    (∃ (p : Nat) (z : Nat) (c : Nat) (s : Nat) (h : Nat × Bool × Nat), p < 32 ∧ z < 32 ∧ c < 16 ∧ (benes p z c)[s]? = some h ∧ 4 ≤ s) ∧
    (∃ (p : Nat) (z : Nat) (c : Nat) (s : Nat) (h : Nat × Bool × Nat) (g : Nat × Bool × Nat) (k : Nat), p < 32 ∧ z < 32 ∧ c < 16 ∧ (benes p z c)[s]? = some h ∧ (benes p z c)[s + 1]? = some g ∧ (let q := [4, 3, 2, 1, 1, 2, 3, 4].getD s 0; k < 5 ∧ k ≠ 0 ∧ k ≠ q)) ∧
    (∃ (p : Nat) (z : Nat) (c : Nat) (c' : Nat), p < 32 ∧ z < 32 ∧ c < 16 ∧ c' < 16 ∧ benes p z c = benes p z c') ∧
    (∃ (e : Ends) (r : Route) (r' : Route), e.b < 32 ∧ e.p < 32 ∧ e.k < 32 ∧ e.z < 32 ∧ r.mid < 32 ∧ r.ing < 16 ∧ r.midc < 16 ∧ r.egr < 16 ∧ r'.mid < 32 ∧ r'.ing < 16 ∧ r'.midc < 16 ∧ r'.egr < 16 ∧ hops e r = hops e r') :=
  ⟨⟨31, 0, 15, 3, (1, true, 3), by decide +kernel⟩,
   ⟨31, 0, 15, 8, ((benes 31 0 15)[8]?).getD (0, false, 0), by decide +kernel⟩,
   ⟨31, 0, 15, 0, ((benes 31 0 15)[0]?).getD (0, false, 0), ((benes 31 0 15)[1]?).getD (0, false, 0), 3, by decide +kernel⟩,
   ⟨31, 31, 15, 15, by decide +kernel⟩,
   ⟨⟨31, 31, 31, 31⟩, ⟨31, 15, 15, 15⟩, ⟨31, 15, 15, 15⟩, by decide +kernel⟩⟩

/-- Hypotheses of Obligations.Doorbells. -/
theorem witness_Doorbells :
    (∃ (s : State) (r : Requester) (g : Fin 65), Reached s r (0x32020 + g * 0x40) ∧ mayRing r g = false) ∧
    (∃ (s : State) (r : Requester) (g : Fin 65) (tail : Nat), Reached s r (0x32020 + g * 0x40) ∧ mayRing r g = true ∧ ringSize (s.dev.get (RING_CFG_SQ_SIZE g)) ≤ tail ∧ tail < 65536) ∧
    (∃ (s : State) (r : Requester) (g : Fin 65) (tail : Nat), Reached s r (0x32020 + g * 0x40) ∧ mayRing r g = true ∧ tail < ringSize (s.dev.get (RING_CFG_SQ_SIZE g)) ∧ tail < 65536 ∧ s.dev.on (RING_CFG_SQ_EN g) = false ∧ s.dev.on (RING_CFG_SQ_COH g) = false) ∧
    (∃ (s : State) (r : Requester) (g : Fin 65) (tail : Nat), Reached s r (0x32020 + g * 0x40) ∧ mayRing r g = true ∧ tail < ringSize (s.dev.get (RING_CFG_SQ_SIZE g)) ∧ tail < 65536 ∧ s.dev.fetches g = true ∧ s.dev.on (RING_CFG_SQ_COH g) = false ∧ s.dev.get (SQ_HEAD g) ≠ tail) ∧
    (∃ (s : State) (r : Requester) (g : Fin 65) (tail : Nat), Reached s r (0x32020 + g * 0x40) ∧ mayRing r g = true ∧ tail < ringSize (s.dev.get (RING_CFG_SQ_SIZE g)) ∧ tail < 65536 ∧ s.dev.on (RING_CFG_SQ_COH g) = true ∧ s.dev.on HST_STATUS_PCIE_ONLY = true) :=
  ⟨⟨running base, .master 9, 63, reached_of (by decide +kernel), by decide +kernel⟩,
   ⟨running base, .fn 0, 0, 64, reached_of (by decide +kernel), by decide +kernel⟩,
   ⟨running base, .fn 0, 64, 63, reached_of (by decide +kernel), by decide +kernel⟩,
   ⟨(running (base.sets [(RING_CFG_SQ_EN 0, 1), (RING_CFG_CQ_EN 0, 1), (HST_STATUS_LINK_UP, 1), (CMD_FN_QUOTA 0, 4)]) : State), .fn 0, 0, 63, reached_of (by decide +kernel), by decide +kernel⟩,
   ⟨(running (base.sets [(RING_CFG_SQ_COH 63, 1), (HST_STATUS_PCIE_ONLY, 1)]) : State), .fn 63, 63, 63, reached_of (by decide +kernel), by decide +kernel⟩⟩

/-- Hypotheses of Obligations.EntriesFetched. -/
theorem witness_EntriesFetched :
    (∃ (s : State) (g : Fin 65) (e : RawEntry) (tag : Nat), s.live ∧ s.dev.reads g ≠ 0 ∧ s.dev.still = false ∧ s.dev.on (RING_CFG_SQ_EN g) = true ∧ s.dev.get (SQ_HEAD g) ≠ s.dev.get (SQ_TAIL g) ∧ s.dev.on (RING_CFG_SQ_COH g) = false ∧ (readEntry e).opcode ≠ 2 ∧ s.dev.freeTag = some tag) ∧
    (∃ (s : State) (g : Fin 65), s.live ∧ s.dev.reads g ≠ 0 ∧ s.dev.still = false ∧ s.dev.on (RING_CFG_SQ_EN g) = true ∧ s.dev.get (SQ_HEAD g) ≠ s.dev.get (SQ_TAIL g)) ∧
    (∃ (s : State) (g : Fin 65), s.live ∧ s.dev.reads g ≠ 0 ∧ s.dev.on (RING_CFG_SQ_EN g) = false) ∧
    (∃ (s : State) (g : Fin 65), s.live ∧ s.dev.reads g = 0) :=
  ⟨⟨(running ((base.sets [(RING_CFG_SQ_EN 0, 1), (RING_CFG_CQ_EN 0, 1), (HST_STATUS_LINK_UP, 1), (CMD_FN_QUOTA 0, 4), (SQ_TAIL 0, 1)]).setReads 0 1) : State), 0, rawEntry 1 1 0 0, 0, rfl, by decide +kernel⟩,
   ⟨(running ((base.sets [(RING_CFG_SQ_EN 0, 1), (RING_CFG_CQ_EN 0, 1), (HST_STATUS_LINK_UP, 1), (CMD_FN_QUOTA 0, 4), (SQ_TAIL 0, 1)]).setReads 0 1) : State), 0, rfl, by decide +kernel⟩,
   ⟨(running (base.setReads 64 1) : State), 64, rfl, by decide +kernel⟩,
   ⟨running base, 0, rfl, by decide +kernel⟩⟩

/-- Hypotheses of Obligations.CancelsAndHeads. -/
theorem witness_CancelsAndHeads :
    (∃ (s : State) (g : Fin 65) (e : RawEntry) (tag : Nat), s.live ∧ s.dev.reads g ≠ 0 ∧ s.dev.still = false ∧ s.dev.on (RING_CFG_SQ_EN g) = true ∧ s.dev.get (SQ_HEAD g) ≠ s.dev.get (SQ_TAIL g) ∧ (readEntry e).opcode = 2 ∧ s.dev.freeTag = some tag) ∧
    (∃ (s : State) (e : RawEntry), s.live ∧ (readEntry e).opcode ≠ 2) ∧
    (∃ (d : Dev) (g : Nat) (e : Entry) (o : Op), d.op (bits e.arg 0 14) = some o ∧ o.entry.opcode = 1 ∧ o.fn = ringFn g ∧ e.resv = false ∧ o.xing = none ∧ o.selected = false ∧ o.tag = bits e.arg 0 14 ∧ ((o.entry.asap = true ∨ d.now + 2000 ≤ d.inst o.entry.stamp)) ∧ o.admitted = false) ∧
    (∃ (d : Dev) (g : Nat) (e : Entry) (o : Op), d.op (bits e.arg 0 14) = some o ∧ o.entry.opcode = 1 ∧ o.fn = ringFn g ∧ e.resv = false ∧ o.xing = none ∧ o.selected = false ∧ o.tag = bits e.arg 0 14 ∧ ((o.entry.asap = true ∨ d.now + 2000 ≤ d.inst o.entry.stamp)) ∧ o.admitted = true) ∧
    (∃ (d : Dev) (e : Entry), d.op (bits e.arg 0 14) = none) ∧
    (∃ (s : State) (r : Requester) (g : Fin 65) (i : Nat), Reached s r (0x32028 + g * 0x40) ∧ mayRing r g = true ∧ g.val ≠ 64 ∧ i < 65536 ∧ i < ringSize (s.dev.get (RING_CFG_CQ_SIZE g))) ∧
    (∃ (s : State) (r : Requester) (g : Fin 65) (i : Nat), Reached s r (0x32028 + g * 0x40) ∧ mayRing r g = true ∧ g.val ≠ 64 ∧ i < 65536 ∧ ringSize (s.dev.get (RING_CFG_CQ_SIZE g)) ≤ i) ∧
    (∃ (s : State) (r : Requester) (g : Fin 65) (i : Nat), Reached s r (0x3202C + g * 0x40) ∧ mayRing r g = true ∧ g.val ≠ 64 ∧ i < 65536 ∧ i < ringSize (s.dev.get (RING_CFG_EQ_SIZE g)) ∧ (s.dev.ring g).lost = 0) ∧
    (∃ (s : State) (r : Requester) (g : Fin 65) (i : Nat), Reached s r (0x3202C + g * 0x40) ∧ mayRing r g = true ∧ g.val ≠ 64 ∧ i < 65536 ∧ ringSize (s.dev.get (RING_CFG_EQ_SIZE g)) ≤ i) ∧
    (∃ (s : State) (g : Fin 64), s.live ∧ (s.dev.ring g).cqOwed = true) ∧
    (∃ (s : State) (g : Fin 64), s.live ∧ (s.dev.ring g).eqOwed = true) ∧
    (∃ (s : State) (g : Fin 64), s.live ∧ (s.dev.ring g).cqOwed = false) :=
  ⟨⟨(running ((base.sets [(RING_CFG_SQ_EN 0, 1), (RING_CFG_CQ_EN 0, 1), (HST_STATUS_LINK_UP, 1), (CMD_FN_QUOTA 0, 4), (SQ_TAIL 0, 1)]).setReads 0 1) : State), 0, rawEntry 2 1 0 0, 0, rfl, by decide +kernel⟩,
   ⟨running base, rawEntry 0 1 0 0, rfl, by decide +kernel⟩,
   ⟨base.setOp 7 (some (newOp 7 0 { entry0 with opcode := 1 } false)), 0, { entry0 with opcode := 2, arg := 7 }, newOp 7 0 { entry0 with opcode := 1 } false, by decide +kernel⟩,
   ⟨base.setOp 7 (some ({ newOp 7 0 { entry0 with opcode := 1 } false with admitted := true })), 0, { entry0 with opcode := 2, arg := 7 }, { newOp 7 0 { entry0 with opcode := 1 } false with admitted := true }, by decide +kernel⟩,
   ⟨base, { entry0 with opcode := 2, arg := 16383 }, by decide +kernel⟩,
   ⟨running base, .fn 63, 63, 63, reached_of (by decide +kernel), by decide +kernel⟩,
   ⟨running base, .fn 0, 0, 64, reached_of (by decide +kernel), by decide +kernel⟩,
   ⟨running base, .fn 63, 63, 63, reached_of (by decide +kernel), by decide +kernel⟩,
   ⟨running base, .fn 63, 63, 64, reached_of (by decide +kernel), by decide +kernel⟩,
   ⟨(running (base.setRing 63 { ring0 with cqOwed := true }) : State), 63, rfl, by decide +kernel⟩,
   ⟨(running (base.setRing 63 { ring0 with eqOwed := true }) : State), 63, rfl, by decide +kernel⟩,
   ⟨running base, 0, rfl, by decide +kernel⟩⟩

/-- Hypotheses of Obligations.TollChanges. -/
theorem witness_TollChanges :
    (∃ (s : State) (r : Requester) (p : Fin 64), Reached s r (0x34000 + p * 0x20) ∧ p.val ≠ 0) ∧
    (∃ (s : State) (r : Requester) (p : Fin 64) (v : Nat), Reached s r (0x34004 + p * 0x20) ∧ p.val ≠ 0 ∧ v % 65536 ≠ 0) ∧
    (∃ (s : State) (r : Requester) (p : Fin 64) (v : Nat), Reached s r (0x34004 + p * 0x20) ∧ p.val ≠ 0 ∧ v % 65536 = 0) ∧
    (∃ (s : State) (r : Requester) (p : Fin 64), Reached s r (0x34008 + p * 0x20) ∧ p.val ≠ 0) ∧
    (∃ (s : State) (r : Requester) (p : Fin 64), Reached s r (0x3400C + p * 0x20)) ∧
    (∃ (s : State) (r : Requester), Reached s r 0x34000) :=
  ⟨⟨running base, .fn 0, 63, reached_of (by decide +kernel), by decide +kernel⟩,
   ⟨running base, .fn 0, 63, 1, reached_of (by decide +kernel), by decide +kernel⟩,
   ⟨running base, .fn 0, 63, 65536, reached_of (by decide +kernel), by decide +kernel⟩,
   ⟨running base, .fn 0, 63, reached_of (by decide +kernel), by decide +kernel⟩,
   ⟨running base, .fn 0, 0, reached_of (by decide +kernel)⟩,
   ⟨running base, .fn 0, reached_of (by decide +kernel)⟩⟩

/-- Hypotheses of Obligations.SchedulerDecides. -/
theorem witness_SchedulerDecides :
    (∃ (s : State), s.live ∧ ((s.dev.still = true ∨ s.dev.acting = false))) ∧
    (∃ (s : State) (n : Nat) (l : List Work), s.live ∧ s.dev.still = false ∧ s.dev.acting = true ∧ s.dev.on TIM_CTL_SUSPEND = false ∧ s.dev.cmd.tollChg = [] ∧ s.dev.heads 1 = [] ∧ s.dev.ready 0 = .xing n :: l ∧ s.dev.cmd.solving = none) ∧
    (∃ (s : State), s.live ∧ s.dev.still = false ∧ s.dev.acting = true ∧ s.dev.cmd.tollChg = [] ∧ s.dev.heads 1 = [] ∧ ((∀ q < 4, s.dev.ready q = []))) :=
  ⟨⟨running base, rfl, by decide +kernel⟩,
   ⟨(running (act.setReady 0 [.xing 1]) : State), 1, [], rfl, by decide +kernel⟩,
   ⟨running act, rfl, by decide +kernel⟩⟩

/-- Hypotheses of Obligations.SolveToReady. -/
theorem witness_SolveToReady :
    (∃ (s : State) (n : Nat) (tag : Nat) (t : Nat) (x : Xing) (r : Route) (mv : List (Nat × Route)) (rm : List Nat), s.live ∧ s.dev.acting = true ∧ s.dev.cmd.solving = some (.xing n) ∧ s.dev.xing n = some x ∧ x.id = n ∧ x.kind = .op tag ∧ x.unsolved = [t] ∧ s.dev.solveFor (s.dev.tkt t).cls (s.dev.tkt t).ends (s.dev.planAt x) (t :: x.breaks ++ x.room) = .route r mv rm) ∧
    (∃ (s : State) (n : Nat) (tag : Nat) (t : Nat) (u : Nat) (l : List Nat) (x : Xing) (r : Route) (mv : List (Nat × Route)) (rm : List Nat), s.live ∧ s.dev.acting = true ∧ s.dev.cmd.solving = some (.xing n) ∧ s.dev.xing n = some x ∧ x.kind = .op tag ∧ x.unsolved = t :: u :: l ∧ s.dev.solveFor (s.dev.tkt t).cls (s.dev.tkt t).ends (s.dev.planAt x) (t :: x.breaks ++ x.room) = .route r mv rm) ∧
    (∃ (s : State) (n : Nat) (tag : Nat) (t : Nat) (l : List Nat) (x : Xing) (st : Nat), s.live ∧ s.dev.acting = true ∧ s.dev.cmd.solving = some (.xing n) ∧ s.dev.xing n = some x ∧ x.kind = .op tag ∧ x.unsolved = t :: l ∧ s.dev.solveFor (s.dev.tkt t).cls (s.dev.tkt t).ends (s.dev.planAt x) (t :: x.breaks ++ x.room) = .refused st) ∧
    (∃ (s : State), s.live ∧ s.dev.cmd.solving = none) ∧
    (∃ (s : State) (n : Nat) (reach : Nat) (x : Xing), s.live ∧ s.dev.acting = true ∧ s.dev.xing n = some x ∧ x.stage = .compute ∧ x.kind = .lamp reach ∧ s.dev.needsIsolated x = false ∧ x.parts ≠ []) ∧
    (∃ (s : State) (n : Nat) (reach : Nat) (x : Xing), s.live ∧ s.dev.acting = true ∧ s.dev.xing n = some x ∧ x.stage = .compute ∧ x.kind = .lamp reach ∧ s.dev.needsIsolated x = false ∧ x.parts = []) ∧
    (∃ (s : State) (n : Nat) (reach : Nat) (x : Xing), s.live ∧ s.dev.acting = true ∧ s.dev.xing n = some x ∧ x.stage = .compute ∧ x.kind = .lamp reach ∧ s.dev.needsIsolated x = true) ∧
    (∃ (s : State) (n : Nat) (tag : Nat) (x : Xing) (o : Op), s.live ∧ s.dev.acting = true ∧ s.dev.xing n = some x ∧ x.stage = .compute ∧ x.kind = .op tag ∧ s.dev.op tag = some o ∧ o.owed = true ∧ o.ring ≠ 64 ∧ (let d := ((s.dev.setXing n (some { x with stage := .distribute })).setOp tag (some { o with owed := false })).charge o.fn ((max x.flips (x.makes.length + o.breakIds.length) : Nat) - (o.prov : Int)); d.needsIsolated x = false ∧ x.parts ≠ [])) ∧
    (∃ (s : State) (n : Nat) (x : Xing), s.live ∧ s.dev.xing n = some x ∧ x.stage ≠ .compute) ∧
    (∃ (s : State) (n : Nat) (b : Fin 96) (x : Xing) (p : Part), s.live ∧ s.dev.acting = true ∧ s.dev.xing n = some x ∧ x.stage = .distribute ∧ x.parts = [p] ∧ p.blk = b.val ∧ p.ready = false ∧ s.dev.partsIn b < 64 ∧ s.dev.busServed x p = true ∧ s.dev.needsIsolated x = false) ∧
    (∃ (s : State) (n : Nat) (b : Fin 96) (x : Xing) (p : Part) (q : Part), s.live ∧ s.dev.xing n = some x ∧ x.stage = .distribute ∧ x.parts = [p, q] ∧ p.blk = b.val ∧ p.ready = false ∧ q.blk ≠ b.val ∧ q.ready = false ∧ s.dev.partsIn b < 64 ∧ s.dev.busServed x p = true ∧ s.dev.needsIsolated x = false) ∧
    (∃ (s : State) (b : Fin 96), s.live ∧ 64 ≤ s.dev.partsIn b) :=
  ⟨⟨(running ((let d := (lanes.putTkt 0 { tkt0 with state := 1, cls := 1 }).setXing 1 (some { xing0 with unsolved := [0] }); { d with cmd := { d.cmd with solving := some (.xing 1) } } : Dev)) : State), 1, 0, 0, { xing0 with unsolved := [0] }, routeOf (((let d := (lanes.putTkt 0 { tkt0 with state := 1, cls := 1 }).setXing 1 (some { xing0 with unsolved := [0] }); { d with cmd := { d.cmd with solving := some (.xing 1) } } : Dev)).solveFor (((let d := (lanes.putTkt 0 { tkt0 with state := 1, cls := 1 }).setXing 1 (some { xing0 with unsolved := [0] }); { d with cmd := { d.cmd with solving := some (.xing 1) } } : Dev)).tkt 0).cls (((let d := (lanes.putTkt 0 { tkt0 with state := 1, cls := 1 }).setXing 1 (some { xing0 with unsolved := [0] }); { d with cmd := { d.cmd with solving := some (.xing 1) } } : Dev)).tkt 0).ends (((let d := (lanes.putTkt 0 { tkt0 with state := 1, cls := 1 }).setXing 1 (some { xing0 with unsolved := [0] }); { d with cmd := { d.cmd with solving := some (.xing 1) } } : Dev)).planAt { xing0 with unsolved := [0] }) (0 :: ({ xing0 with unsolved := [0] } : Xing).breaks ++ ({ xing0 with unsolved := [0] } : Xing).room)), movesOf (((let d := (lanes.putTkt 0 { tkt0 with state := 1, cls := 1 }).setXing 1 (some { xing0 with unsolved := [0] }); { d with cmd := { d.cmd with solving := some (.xing 1) } } : Dev)).solveFor (((let d := (lanes.putTkt 0 { tkt0 with state := 1, cls := 1 }).setXing 1 (some { xing0 with unsolved := [0] }); { d with cmd := { d.cmd with solving := some (.xing 1) } } : Dev)).tkt 0).cls (((let d := (lanes.putTkt 0 { tkt0 with state := 1, cls := 1 }).setXing 1 (some { xing0 with unsolved := [0] }); { d with cmd := { d.cmd with solving := some (.xing 1) } } : Dev)).tkt 0).ends (((let d := (lanes.putTkt 0 { tkt0 with state := 1, cls := 1 }).setXing 1 (some { xing0 with unsolved := [0] }); { d with cmd := { d.cmd with solving := some (.xing 1) } } : Dev)).planAt { xing0 with unsolved := [0] }) (0 :: ({ xing0 with unsolved := [0] } : Xing).breaks ++ ({ xing0 with unsolved := [0] } : Xing).room)), roomOf (((let d := (lanes.putTkt 0 { tkt0 with state := 1, cls := 1 }).setXing 1 (some { xing0 with unsolved := [0] }); { d with cmd := { d.cmd with solving := some (.xing 1) } } : Dev)).solveFor (((let d := (lanes.putTkt 0 { tkt0 with state := 1, cls := 1 }).setXing 1 (some { xing0 with unsolved := [0] }); { d with cmd := { d.cmd with solving := some (.xing 1) } } : Dev)).tkt 0).cls (((let d := (lanes.putTkt 0 { tkt0 with state := 1, cls := 1 }).setXing 1 (some { xing0 with unsolved := [0] }); { d with cmd := { d.cmd with solving := some (.xing 1) } } : Dev)).tkt 0).ends (((let d := (lanes.putTkt 0 { tkt0 with state := 1, cls := 1 }).setXing 1 (some { xing0 with unsolved := [0] }); { d with cmd := { d.cmd with solving := some (.xing 1) } } : Dev)).planAt { xing0 with unsolved := [0] }) (0 :: ({ xing0 with unsolved := [0] } : Xing).breaks ++ ({ xing0 with unsolved := [0] } : Xing).room)), rfl, by decide +kernel⟩,
   ⟨(running ((let d := ((lanes.putTkt 0 { tkt0 with state := 1, cls := 1 }).putTkt 1 { tkt0 with state := 1, cls := 1 }).setXing 1 (some { xing0 with unsolved := [0, 1] }); { d with cmd := { d.cmd with solving := some (.xing 1) } } : Dev)) : State), 1, 0, 0, 1, [], { xing0 with unsolved := [0, 1] }, routeOf (((let d := ((lanes.putTkt 0 { tkt0 with state := 1, cls := 1 }).putTkt 1 { tkt0 with state := 1, cls := 1 }).setXing 1 (some { xing0 with unsolved := [0, 1] }); { d with cmd := { d.cmd with solving := some (.xing 1) } } : Dev)).solveFor (((let d := ((lanes.putTkt 0 { tkt0 with state := 1, cls := 1 }).putTkt 1 { tkt0 with state := 1, cls := 1 }).setXing 1 (some { xing0 with unsolved := [0, 1] }); { d with cmd := { d.cmd with solving := some (.xing 1) } } : Dev)).tkt 0).cls (((let d := ((lanes.putTkt 0 { tkt0 with state := 1, cls := 1 }).putTkt 1 { tkt0 with state := 1, cls := 1 }).setXing 1 (some { xing0 with unsolved := [0, 1] }); { d with cmd := { d.cmd with solving := some (.xing 1) } } : Dev)).tkt 0).ends (((let d := ((lanes.putTkt 0 { tkt0 with state := 1, cls := 1 }).putTkt 1 { tkt0 with state := 1, cls := 1 }).setXing 1 (some { xing0 with unsolved := [0, 1] }); { d with cmd := { d.cmd with solving := some (.xing 1) } } : Dev)).planAt { xing0 with unsolved := [0, 1] }) (0 :: ({ xing0 with unsolved := [0, 1] } : Xing).breaks ++ ({ xing0 with unsolved := [0, 1] } : Xing).room)), movesOf (((let d := ((lanes.putTkt 0 { tkt0 with state := 1, cls := 1 }).putTkt 1 { tkt0 with state := 1, cls := 1 }).setXing 1 (some { xing0 with unsolved := [0, 1] }); { d with cmd := { d.cmd with solving := some (.xing 1) } } : Dev)).solveFor (((let d := ((lanes.putTkt 0 { tkt0 with state := 1, cls := 1 }).putTkt 1 { tkt0 with state := 1, cls := 1 }).setXing 1 (some { xing0 with unsolved := [0, 1] }); { d with cmd := { d.cmd with solving := some (.xing 1) } } : Dev)).tkt 0).cls (((let d := ((lanes.putTkt 0 { tkt0 with state := 1, cls := 1 }).putTkt 1 { tkt0 with state := 1, cls := 1 }).setXing 1 (some { xing0 with unsolved := [0, 1] }); { d with cmd := { d.cmd with solving := some (.xing 1) } } : Dev)).tkt 0).ends (((let d := ((lanes.putTkt 0 { tkt0 with state := 1, cls := 1 }).putTkt 1 { tkt0 with state := 1, cls := 1 }).setXing 1 (some { xing0 with unsolved := [0, 1] }); { d with cmd := { d.cmd with solving := some (.xing 1) } } : Dev)).planAt { xing0 with unsolved := [0, 1] }) (0 :: ({ xing0 with unsolved := [0, 1] } : Xing).breaks ++ ({ xing0 with unsolved := [0, 1] } : Xing).room)), roomOf (((let d := ((lanes.putTkt 0 { tkt0 with state := 1, cls := 1 }).putTkt 1 { tkt0 with state := 1, cls := 1 }).setXing 1 (some { xing0 with unsolved := [0, 1] }); { d with cmd := { d.cmd with solving := some (.xing 1) } } : Dev)).solveFor (((let d := ((lanes.putTkt 0 { tkt0 with state := 1, cls := 1 }).putTkt 1 { tkt0 with state := 1, cls := 1 }).setXing 1 (some { xing0 with unsolved := [0, 1] }); { d with cmd := { d.cmd with solving := some (.xing 1) } } : Dev)).tkt 0).cls (((let d := ((lanes.putTkt 0 { tkt0 with state := 1, cls := 1 }).putTkt 1 { tkt0 with state := 1, cls := 1 }).setXing 1 (some { xing0 with unsolved := [0, 1] }); { d with cmd := { d.cmd with solving := some (.xing 1) } } : Dev)).tkt 0).ends (((let d := ((lanes.putTkt 0 { tkt0 with state := 1, cls := 1 }).putTkt 1 { tkt0 with state := 1, cls := 1 }).setXing 1 (some { xing0 with unsolved := [0, 1] }); { d with cmd := { d.cmd with solving := some (.xing 1) } } : Dev)).planAt { xing0 with unsolved := [0, 1] }) (0 :: ({ xing0 with unsolved := [0, 1] } : Xing).breaks ++ ({ xing0 with unsolved := [0, 1] } : Xing).room)), rfl, by decide +kernel⟩,
   ⟨(running ((let d := (act.putTkt 0 { tkt0 with state := 1, cls := 1 }).setXing 1 (some { xing0 with unsolved := [0] }); { d with cmd := { d.cmd with solving := some (.xing 1) } } : Dev)) : State), 1, 0, 0, [], { xing0 with unsolved := [0] }, 0x20, rfl, by decide +kernel⟩,
   ⟨running base, rfl, by decide +kernel⟩,
   ⟨(running ((lanes).setXing 1 (some { xing0 with kind := .lamp 2, stage := .compute, restores := [(0, ⟨0, 0, 0, 0⟩)], parts := [part0] })) : State), 1, 2, { xing0 with kind := .lamp 2, stage := .compute, restores := [(0, ⟨0, 0, 0, 0⟩)], parts := [part0] }, rfl, by decide +kernel⟩,
   ⟨(running ((lanes.putTkt 0 { tkt0 with state := 1, cls := 1 }).setXing 1 (some { xing0 with kind := .lamp 2, stage := .compute, restores := [(0, ⟨0, 0, 0, 0⟩)] })) : State), 1, 2, { xing0 with kind := .lamp 2, stage := .compute, restores := [(0, ⟨0, 0, 0, 0⟩)] }, rfl, by decide +kernel⟩,
   ⟨(running (((lanes).setXing 1 (some { xing0 with kind := .lamp 2, stage := .compute, restores := [(0, ⟨0, 0, 0, 0⟩)], parts := [part0] })).setRch 0 { rch0 with isolated := true }) : State), 1, 2, { xing0 with kind := .lamp 2, stage := .compute, restores := [(0, ⟨0, 0, 0, 0⟩)], parts := [part0] }, rfl, by decide +kernel⟩,
   ⟨(running (((lanes).setXing 1 (some { xing0 with stage := .compute, parts := [part0] })).setOp 0 (some { op0 with owed := true })) : State), 1, 0, { xing0 with stage := .compute, parts := [part0] }, { op0 with owed := true }, rfl, by decide +kernel⟩,
   ⟨(running ((base).setXing 1 (some { xing0 with stage := .distribute })) : State), 1, { xing0 with stage := .distribute }, rfl, by decide +kernel⟩,
   ⟨(running ((act).setXing 1 (some { xing0 with stage := .distribute, parts := [part0] })) : State), 1, 0, { xing0 with stage := .distribute, parts := [part0] }, part0, rfl, by decide +kernel⟩,
   ⟨(running ((base).setXing 1 (some { xing0 with stage := .distribute, parts := [part0, { part0 with blk := 95 }] })) : State), 1, 0, { xing0 with stage := .distribute, parts := [part0, { part0 with blk := 95 }] }, part0, { part0 with blk := 95 }, rfl, by decide +kernel⟩,
   ⟨(running ((base).setXing 1 (some { xing0 with stage := .committed, parts := List.replicate 64 { part0 with blk := 95, ready := true } })) : State), 95, rfl, by decide +kernel⟩⟩

/-- Hypotheses of Obligations.Restoration. -/
theorem witness_Restoration :
    (∃ (s : State) (i : Fin 13824), s.live ∧ (s.dev.loop i).mode = 4) ∧
    (∃ (s : State) (i : Fin 13824), s.live ∧ (s.dev.loop i).mode ≠ 4) ∧
    (∃ (s : State), s.live ∧ s.dev.cmd.solving = none ∧ s.dev.still = false ∧ s.dev.acting = true ∧ s.dev.tk.list = [] ∧ s.dev.workBefore = false) ∧
    (∃ (s : State) (t : Nat) (l : List Nat) (r : Route) (mv : List (Nat × Route)) (rm : List Nat), s.live ∧ s.dev.cmd.solving = none ∧ s.dev.still = false ∧ s.dev.acting = true ∧ s.dev.tk.list = t :: l ∧ (s.dev.tkt t).state = 3 ∧ s.dev.workBefore = false ∧ (let d := { s.dev with cmd := { s.dev.cmd with between := false }, tk := { s.dev.tk with list := l } }; d.stuck (s.dev.tkt t) = false ∧ d.solveFor (s.dev.tkt t).cls (s.dev.tkt t).ends (s.dev.now + 8000) [t] = .route r mv rm ∧ (let e := { d with tk := { d.tk with gather := d.tk.gather ++ [(t, r)], gMoves := d.tk.gMoves ++ mv, gRoom := d.tk.gRoom ++ rm } }; e.openDue (s.dev.tkt t).cls = false))) ∧
    (∃ (s : State) (t : Nat) (st : Nat) (l : List Nat), s.live ∧ s.dev.cmd.solving = none ∧ s.dev.still = false ∧ s.dev.acting = true ∧ s.dev.tk.list = t :: l ∧ (s.dev.tkt t).state = 3 ∧ s.dev.workBefore = false ∧ (let d := { s.dev with cmd := { s.dev.cmd with between := false }, tk := { s.dev.tk with list := l } }; d.stuck (s.dev.tkt t) = false ∧ d.solveFor (s.dev.tkt t).cls (s.dev.tkt t).ends (s.dev.now + 8000) [t] = .refused st ∧ (let e := { d.strandTkt t 1 with tk := { (d.strandTkt t 1).tk with gBreaks := (d.strandTkt t 1).tk.gBreaks ++ [t] } }; e.openDue (s.dev.tkt t).cls = false))) ∧
    (∃ (s : State), s.live ∧ s.dev.workBefore = true) :=
  ⟨⟨(running (base.setLoop 13823 { loop0 with mode := 4, openAt := 5 }) : State), 13823, rfl, by decide +kernel⟩,
   ⟨running base, 13823, rfl, by decide +kernel⟩,
   ⟨running act, rfl, by decide +kernel⟩,
   ⟨(running ((let d := (lanes.putTkt 0 { tkt0 with state := 3, cls := 1, cause := 1 }).putTkt 1 { tkt0 with state := 3, cls := 1, cause := 1 }; { d with tk := { d.tk with list := [0, 1] } } : Dev)) : State), 0, [1], routeOf (((let d := (lanes.putTkt 0 { tkt0 with state := 3, cls := 1, cause := 1 }).putTkt 1 { tkt0 with state := 3, cls := 1, cause := 1 }; { d with tk := { d.tk with list := [1] } } : Dev)).solveFor 1 (((let d := (lanes.putTkt 0 { tkt0 with state := 3, cls := 1, cause := 1 }).putTkt 1 { tkt0 with state := 3, cls := 1, cause := 1 }; { d with tk := { d.tk with list := [1] } } : Dev)).tkt 0).ends (((let d := (lanes.putTkt 0 { tkt0 with state := 3, cls := 1, cause := 1 }).putTkt 1 { tkt0 with state := 3, cls := 1, cause := 1 }; { d with tk := { d.tk with list := [1] } } : Dev)).now + 8000) [0]), movesOf (((let d := (lanes.putTkt 0 { tkt0 with state := 3, cls := 1, cause := 1 }).putTkt 1 { tkt0 with state := 3, cls := 1, cause := 1 }; { d with tk := { d.tk with list := [1] } } : Dev)).solveFor 1 (((let d := (lanes.putTkt 0 { tkt0 with state := 3, cls := 1, cause := 1 }).putTkt 1 { tkt0 with state := 3, cls := 1, cause := 1 }; { d with tk := { d.tk with list := [1] } } : Dev)).tkt 0).ends (((let d := (lanes.putTkt 0 { tkt0 with state := 3, cls := 1, cause := 1 }).putTkt 1 { tkt0 with state := 3, cls := 1, cause := 1 }; { d with tk := { d.tk with list := [1] } } : Dev)).now + 8000) [0]), roomOf (((let d := (lanes.putTkt 0 { tkt0 with state := 3, cls := 1, cause := 1 }).putTkt 1 { tkt0 with state := 3, cls := 1, cause := 1 }; { d with tk := { d.tk with list := [1] } } : Dev)).solveFor 1 (((let d := (lanes.putTkt 0 { tkt0 with state := 3, cls := 1, cause := 1 }).putTkt 1 { tkt0 with state := 3, cls := 1, cause := 1 }; { d with tk := { d.tk with list := [1] } } : Dev)).tkt 0).ends (((let d := (lanes.putTkt 0 { tkt0 with state := 3, cls := 1, cause := 1 }).putTkt 1 { tkt0 with state := 3, cls := 1, cause := 1 }; { d with tk := { d.tk with list := [1] } } : Dev)).now + 8000) [0]), rfl, by decide +kernel⟩,
   ⟨(running ((let d := ((act.sets [(FAB_BLK_STATUS_IN_SERVICE 0, 1), (FAB_BLK_STATUS_IN_SERVICE 64, 1)]).putTkt 0 { tkt0 with state := 3, cls := 1, cause := 1 }).putTkt 1 { tkt0 with state := 3, cls := 1, cause := 1 }; { d with tk := { d.tk with list := [0, 1] } } : Dev)) : State), 0, 32, [1], rfl, by decide +kernel⟩,
   ⟨(running (base.setReady 0 [.xing 1]) : State), rfl, by decide +kernel⟩⟩

/-- Hypotheses of Obligations.Admissions. -/
theorem witness_Admissions :
    (∃ (s : State) (o : Op), s.live ∧ Admittable s.dev o 10 ∧ s.dev.plainRings) ∧
    (∃ (s : State) (o : Op), s.live ∧ Admittable s.dev o 3 ∧ s.dev.plainRings) ∧
    (∃ (s : State) (tag : Nat), s.live ∧ s.dev.op tag = none ∧ s.dev.acting = true) ∧
    (∃ (s : State) (o : Op), s.live ∧ Admittable s.dev o 1 ∧ ((o.entry.asap = true ∨ s.dev.now + 8000 ≤ s.dev.inst o.entry.stamp))) ∧
    (∃ (s : State) (o : Op), s.live ∧ Admittable s.dev o 1 ∧ s.dev.plainRings ∧ o.entry.items = 0 ∧ o.entry.asap = false ∧ s.dev.inst o.entry.stamp < s.dev.now + 8000) ∧
    (∃ (s : State) (o : Op), s.live ∧ Admittable s.dev o 8 ∧ o.entry.items = 0 ∧ s.dev.now + s.dev.get XNG_VOTE_GAP * 1000 ≤ s.dev.inst o.entry.stamp) ∧
    (∃ (s : State) (o : Op), s.live ∧ Admittable s.dev o 9 ∧ s.dev.now + s.dev.get XNG_SYS_LEAD * 1000 ≤ s.dev.inst o.entry.stamp ∧ ((entryItems o.entry).map (fun w => bits w 0 12)).contains s.dev.moduleId = false) ∧
    (∃ (s : State) (o : Op), s.live ∧ Admittable s.dev o 9 ∧ s.dev.inst o.entry.stamp < s.dev.now + s.dev.get XNG_SYS_LEAD * 1000) :=
  ⟨⟨(running (headed act (opOf { entry0 with opcode := 10 })) : State), opOf { entry0 with opcode := 10 }, rfl, admittable (by decide +kernel), plain_of (by decide +kernel)⟩,
   ⟨(running (headed (act.putTkt 0 { tkt0 with state := 3 }) (opOf { entry0 with opcode := 3, arg := 0 })) : State), opOf { entry0 with opcode := 3, arg := 0 }, rfl, admittable (by decide +kernel), plain_of (by decide +kernel)⟩,
   ⟨running act, 16383, rfl, by decide +kernel⟩,
   ⟨(running (headed act (opOf { entry0 with opcode := 1 })) : State), opOf { entry0 with opcode := 1 }, rfl, admittable (by decide +kernel), by decide +kernel⟩,
   ⟨(running (headed act (opOf { entry0 with opcode := 1, asap := false })) : State), opOf { entry0 with opcode := 1, asap := false }, rfl, admittable (by decide +kernel), plain_of (by decide +kernel), by decide +kernel⟩,
   ⟨(running (headed act (opOf { entry0 with opcode := 8, asap := false, stamp := stampOf 100000000 })) : State), opOf { entry0 with opcode := 8, asap := false, stamp := stampOf 100000000 }, rfl, admittable (by decide +kernel), by decide +kernel⟩,
   ⟨(running (headed act (opOf { entry0 with opcode := 9, asap := false, stamp := stampOf 100000000, items := 1, list := 1 })) : State), opOf { entry0 with opcode := 9, asap := false, stamp := stampOf 100000000, items := 1, list := 1 }, rfl, admittable (by decide +kernel), by decide +kernel⟩,
   ⟨(running (headed act (opOf { entry0 with opcode := 9, asap := false })) : State), opOf { entry0 with opcode := 9, asap := false }, rfl, admittable (by decide +kernel), by decide +kernel⟩⟩

/-- Hypotheses of Obligations.MakesAdmitted. -/
theorem witness_MakesAdmitted :
    ∃ (d : Dev) (t : Nat) (u : Nat), d.freeId = some t ∧ d.tk.epoch + 1 < 0xF0000000 ∧ u ≠ t :=
  ⟨base, 0, 1, by decide +kernel⟩

/-- Hypotheses of Obligations.TableOperations. -/
theorem witness_TableOperations :
    (∃ (s : State) (o : Op) (p : Op) (t : Table) (f : HostFile), s.live ∧ (let d := s.dev.admitRow o.tag 4; (let n := o.tableNo; d.op o.tag = some p ∧ p.tableNo = n ∧ d.table n = some t ∧ t.loadOp = some o.tag ∧ d.get (TID_TBL_STATUS_STATE n) = 1 ∧ d.acting = true ∧ f.readOk = false))) ∧
    (∃ (s : State) (o : Op) (p : Op) (t : Table) (f : HostFile) (c : Source), s.live ∧ (let d := s.dev.admitRow o.tag 4; (let n := o.tableNo; d.op o.tag = some p ∧ p.tableNo = n ∧ d.table n = some t ∧ t.loadOp = some o.tag ∧ d.get (TID_TBL_STATUS_STATE n) = 1 ∧ d.acting = true ∧ (let r := d.cohRead p.fn p.entry.arg20 (bits p.entry.arg 32 32); r.2 = true ∧ f.readOk = true ∧ readSource f.bytes = some c ∧ f.bytes.length = bits p.entry.arg 32 32 ∧ r.1.srcErr p.fn f.bytes c = 0 ∧ r.1.holdUp = true ∧ extentsFor (ceilMul f.bytes.length 64) ≤ r.1.get HLD_TABLE_FREE)))) ∧
    (∃ (s : State) (o : Op), s.live ∧ Admittable s.dev o 7 ∧ s.dev.plainRings) ∧
    (∃ (s : State) (o : Op) (t : Table) (l : List TStep) (k : Nat), s.live ∧ Admittable s.dev o 5 ∧ s.dev.table o.tableNo = some t ∧ (atHead s.dev o).startErr t = (0, l) ∧ bits o.entry.arg 16 16 < t.steps.length ∧ s.dev.freeSlot = some k ∧ ((o.entry.asap = true ∨ s.dev.now + 8000 ≤ s.dev.inst o.entry.stamp))) ∧
    (∃ (s : State) (o : Op) (t : Table) (e : Nat) (l : List TStep), s.live ∧ Admittable s.dev o 5 ∧ s.dev.table o.tableNo = some t ∧ (atHead s.dev o).startErr t = (e, l) ∧ e ≠ 0) ∧
    (∃ (s : State) (o : Op) (k : Nat) (u : Run) (t : Table), s.live ∧ Admittable s.dev o 6 ∧ s.dev.slotOf o.tableNo = some k ∧ s.dev.run k = some u ∧ s.dev.table o.tableNo = some t ∧ u.held = false ∧ u.stopAt = none ∧ (let named := if bit o.entry.arg 10 then some (bits o.entry.arg 16 16) else none; ((∀ j, named = some j → j < t.steps.length)))) :=
  ⟨⟨(running (headed (lanes.sets [(HLD_STATUS_STATE, 2), (HLD_CTL_EN, 1), (HST_WIN_CTL_EN 0, 1), (HST_WIN_SIZE 0, 1)]) (opOf { entry0 with opcode := 4, arg := srcFile.bytes.length * 2 ^ 32 })) : State), opOf { entry0 with opcode := 4, arg := srcFile.bytes.length * 2 ^ 32 }, (((headed (lanes.sets [(HLD_STATUS_STATE, 2), (HLD_CTL_EN, 1), (HST_WIN_CTL_EN 0, 1), (HST_WIN_SIZE 0, 1)]) (opOf { entry0 with opcode := 4, arg := srcFile.bytes.length * 2 ^ 32 })).admitRow 0 4).op 0).getD op0, (((headed (lanes.sets [(HLD_STATUS_STATE, 2), (HLD_CTL_EN, 1), (HST_WIN_CTL_EN 0, 1), (HST_WIN_SIZE 0, 1)]) (opOf { entry0 with opcode := 4, arg := srcFile.bytes.length * 2 ^ 32 })).admitRow 0 4).table 0).getD table0, { file0 with readOk := false }, rfl, by decide +kernel⟩,
   ⟨(running (headed (lanes.sets [(HLD_STATUS_STATE, 2), (HLD_CTL_EN, 1), (HST_WIN_CTL_EN 0, 1), (HST_WIN_SIZE 0, 1), (HLD_TABLE_FREE, 1)]) (opOf { entry0 with opcode := 4, arg := srcFile.bytes.length * 2 ^ 32 })) : State), opOf { entry0 with opcode := 4, arg := srcFile.bytes.length * 2 ^ 32 }, (((headed (lanes.sets [(HLD_STATUS_STATE, 2), (HLD_CTL_EN, 1), (HST_WIN_CTL_EN 0, 1), (HST_WIN_SIZE 0, 1), (HLD_TABLE_FREE, 1)]) (opOf { entry0 with opcode := 4, arg := srcFile.bytes.length * 2 ^ 32 })).admitRow 0 4).op 0).getD op0, (((headed (lanes.sets [(HLD_STATUS_STATE, 2), (HLD_CTL_EN, 1), (HST_WIN_CTL_EN 0, 1), (HST_WIN_SIZE 0, 1), (HLD_TABLE_FREE, 1)]) (opOf { entry0 with opcode := 4, arg := srcFile.bytes.length * 2 ^ 32 })).admitRow 0 4).table 0).getD table0, srcFile, (readSource srcFile.bytes).getD source0, rfl, by decide +kernel⟩,
   ⟨(running (headed ((act.setTable 0 (some table0)).sets [(TID_TBL_STATUS_STATE 0, 3)]) (opOf { entry0 with opcode := 7, arg := 0 })) : State), opOf { entry0 with opcode := 7, arg := 0 }, rfl, admittable (by decide +kernel), plain_of (by decide +kernel)⟩,
   ⟨(running (headed ((act.setTable 0 (some table0)).sets [(TID_TBL_STATUS_STATE 0, 3)]) (opOf { entry0 with opcode := 5, arg := 0 })) : State), opOf { entry0 with opcode := 5, arg := 0 }, table0, [tstep0], 0, rfl, admittable (by decide +kernel), by decide +kernel⟩,
   ⟨(running (headed ((act.setTable 0 (some { table0 with steps := [{ tstep0 with circs := [{ src := 0, dst := 0, route := ⟨0, 0, 0, 0⟩ }] }] })).sets [(TID_TBL_STATUS_STATE 0, 3)]) (opOf { entry0 with opcode := 5, arg := 0 })) : State), opOf { entry0 with opcode := 5, arg := 0 }, { table0 with steps := [{ tstep0 with circs := [{ src := 0, dst := 0, route := ⟨0, 0, 0, 0⟩ }] }] }, ((atHead (headed ((act.setTable 0 (some { table0 with steps := [{ tstep0 with circs := [{ src := 0, dst := 0, route := ⟨0, 0, 0, 0⟩ }] }] })).sets [(TID_TBL_STATUS_STATE 0, 3)]) (opOf { entry0 with opcode := 5, arg := 0 })) (opOf { entry0 with opcode := 5, arg := 0 })).startErr { table0 with steps := [{ tstep0 with circs := [{ src := 0, dst := 0, route := ⟨0, 0, 0, 0⟩ }] }] }).1, ((atHead (headed ((act.setTable 0 (some { table0 with steps := [{ tstep0 with circs := [{ src := 0, dst := 0, route := ⟨0, 0, 0, 0⟩ }] }] })).sets [(TID_TBL_STATUS_STATE 0, 3)]) (opOf { entry0 with opcode := 5, arg := 0 })) (opOf { entry0 with opcode := 5, arg := 0 })).startErr { table0 with steps := [{ tstep0 with circs := [{ src := 0, dst := 0, route := ⟨0, 0, 0, 0⟩ }] }] }).2, rfl, admittable (by decide +kernel), by decide +kernel⟩,
   ⟨(running (headed (((act.setTable 0 (some table0)).setRun 0 (some run0)).sets [(TID_TBL_STATUS_STATE 0, 4)]) (opOf { entry0 with opcode := 6, arg := 0 })) : State), opOf { entry0 with opcode := 6, arg := 0 }, 0, run0, table0, rfl, admittable (by decide +kernel), by decide +kernel⟩⟩

/-- Hypotheses of Obligations.TablesRun. -/
theorem witness_TablesRun :
    (∃ (s : State) (n : Fin 1024) (t : Table) (l : List TStep), s.live ∧ s.dev.acting = true ∧ s.dev.table n = some t ∧ s.dev.get (TID_TBL_STATUS_STATE n) = 2 ∧ t.loadOp = none ∧ s.dev.solveSteps t.cls (s.dev.allTkts.map (·.1)) (t.steps.map (fun s => (s.dwell, s.circs.map (fun c => (c.src, c.dst))))) = .ok l ∧ (let k := extentsFor ({ t with steps := s.dev.withCodes l } : Table).bytes - t.extents.length; k ≤ s.dev.get HLD_TABLE_FREE)) ∧
    (∃ (s : State) (n : Fin 1024) (t : Table) (e : Nat), s.live ∧ s.dev.acting = true ∧ s.dev.table n = some t ∧ s.dev.get (TID_TBL_STATUS_STATE n) = 2 ∧ s.dev.solveSteps t.cls (s.dev.allTkts.map (·.1)) (t.steps.map (fun s => (s.dwell, s.circs.map (fun c => (c.src, c.dst))))) = .error e) ∧
    (∃ (s : State) (n : Fin 1024) (k : Nat) (u : Run) (t : Table) (st : TStep), s.live ∧ s.dev.slotOf n = some k ∧ s.dev.run k = some u ∧ s.dev.table n = some t ∧ s.dev.mayCommit u = true ∧ t.steps[u.nextStep]? = some st ∧ u.start ≠ 0 ∧ s.dev.now + 8000 ≤ u.instant t u.nextStep u.nextCyc ∧ ((∀ p ∈ s.dev.stepParts st.codes st (u.instant t u.nextStep u.nextCyc), s.dev.partsIn p.blk < 64))) ∧
    (∃ (s : State) (n : Fin 1024) (k : Nat) (u : Run) (t : Table), s.live ∧ s.dev.table n = some t ∧ 8192 < t.steps.length ∧ s.dev.slotOf n = some k ∧ s.dev.run k = some u ∧ u.held = false ∧ s.dev.holdUp = true) ∧
    (∃ (s : State) (n : Fin 1024) (k : Nat) (u : Run) (t : Table) (l : List TStep), s.live ∧ s.dev.acting = true ∧ s.dev.cmd.solving = some (.recompile n) ∧ s.dev.slotOf n = some k ∧ s.dev.run k = some u ∧ s.dev.table n = some t ∧ u.held = true ∧ u.noResume = false ∧ (let d := { s.dev with cmd := { s.dev.cmd with solving := none } }; (d.setRun k none).recompile t.cls ((d.tableTkts n).map (·.1)) t.steps = some l)) ∧
    (∃ (s : State) (n : Fin 1024) (k : Nat) (u : Run) (t : Table), s.live ∧ s.dev.stepsAhead n = [] ∧ s.dev.slotOf n = some k ∧ s.dev.run k = some u ∧ s.dev.table n = some t ∧ u.held = false ∧ u.past = true ∧ u.keep = true) ∧
    (∃ (s : State) (n : Fin 1024) (k : Nat) (u : Run) (t : Table), s.live ∧ s.dev.slotOf n = some k ∧ s.dev.run k = some u ∧ s.dev.table n = some t ∧ u.held = false ∧ u.past = true ∧ s.dev.stepsAhead n = [] ∧ u.keep = false) ∧
    (∃ (s : State) (n : Fin 1024), s.live ∧ s.dev.slotOf n = none) :=
  ⟨⟨(running ((lanes.setTable 1023 (some { table0 with steps := [{ tstep0 with circs := [{ src := 0, dst := 0, route := ⟨0, 0, 0, 0⟩ }] }] })).sets [(TID_TBL_STATUS_STATE 1023, 2), (HLD_TABLE_FREE, 1)]) : State), 1023, { table0 with steps := [{ tstep0 with circs := [{ src := 0, dst := 0, route := ⟨0, 0, 0, 0⟩ }] }] }, stepsOf (((lanes.setTable 1023 (some { table0 with steps := [{ tstep0 with circs := [{ src := 0, dst := 0, route := ⟨0, 0, 0, 0⟩ }] }] })).sets [(TID_TBL_STATUS_STATE 1023, 2), (HLD_TABLE_FREE, 1)]).solveSteps 1 [] [(1000, [(0, 0)])]), rfl, by decide +kernel⟩,
   ⟨(running ((act.setTable 1023 (some { table0 with steps := [{ tstep0 with circs := [{ src := 0, dst := 0, route := ⟨0, 0, 0, 0⟩ }] }] })).sets [(TID_TBL_STATUS_STATE 1023, 2), (HLD_TABLE_FREE, 1)]) : State), 1023, { table0 with steps := [{ tstep0 with circs := [{ src := 0, dst := 0, route := ⟨0, 0, 0, 0⟩ }] }] }, 4, rfl, by decide +kernel⟩,
   ⟨(running ((act.setTable 1023 (some table0)).setRun 3 (some { run0 with table := 1023 })) : State), 1023, 3, { run0 with table := 1023 }, table0, tstep0, rfl, by decide +kernel⟩,
   ⟨(running ((let d := ((act.setTable 1023 (some table0)).setRun 3 (some { run0 with table := 1023 })).sets [(HLD_STATUS_STATE, 2), (HLD_CTL_EN, 1)]; { d with tide := { d.tide with tables := ⟨[(1023, some longTable)]⟩ } } : Dev)) : State), 1023, 3, { run0 with table := 1023 }, longTable, rfl, rfl, long_steps, by decide +kernel⟩,
   ⟨(running ((let d := (act.setTable 1023 (some table0)).setRun 3 (some { run0 with table := 1023, held := true }); { d with cmd := { d.cmd with solving := some (.recompile 1023) } } : Dev)) : State), 1023, 3, { run0 with table := 1023, held := true }, table0, [tstep0], rfl, by decide +kernel⟩,
   ⟨(running ((act.setTable 1023 (some table0)).setRun 3 (some { run0 with table := 1023, cycles := 1, nextCyc := 1, nextStep := 1, keep := true })) : State), 1023, 3, { run0 with table := 1023, cycles := 1, nextCyc := 1, nextStep := 1, keep := true }, table0, rfl, no_steps (by decide +kernel), by decide +kernel⟩,
   ⟨(running ((act.setTable 1023 (some table0)).setRun 3 (some { run0 with table := 1023, cycles := 1, nextCyc := 1, nextStep := 1 })) : State), 1023, 3, { run0 with table := 1023, cycles := 1, nextCyc := 1, nextStep := 1 }, table0, rfl, by decide +kernel⟩,
   ⟨running base, 1023, rfl, by decide +kernel⟩⟩

/-- Hypotheses of Obligations.FramesReceived. -/
theorem witness_FramesReceived :
    (∃ (d : Dev) (k : Nat) (f : Frame) (c : Nat) (sq : Bool), GoodFrame d k f c sq) ∧
    (∃ (d : Dev) (k : Nat) (f : Frame), d.get (FRY_PORT_STATUS_STATE k) = 2 ∧ (d.fryP k).discard = false ∧ ((f.length < 64 ∨ 1024 < f.length ∨ f.length % 8 ≠ 0))) ∧
    (∃ (d : Dev) (k : Nat) (f : Frame), d.get (FRY_PORT_STATUS_STATE k) = 2 ∧ (d.fryP k).discard = false ∧ 64 ≤ f.length ∧ f.length ≤ 1024 ∧ f.length % 8 = 0 ∧ f.crcOk = false) ∧
    (∃ (d : Dev) (k : Nat) (f : Frame) (c : Nat) (n : Nat), d.get (FRY_PORT_STATUS_STATE k) = 2 ∧ (d.fryP k).discard = false ∧ 64 ≤ f.length ∧ f.length ≤ 1024 ∧ f.length % 8 = 0 ∧ f.crcOk = true ∧ typeRow f.typ = some (c, n, true) ∧ passed (d.fryP k).rx f.lseq = true) ∧
    (∃ (d : Dev) (k : Nat) (f : Frame) (c : Nat) (n : Nat), d.get (FRY_PORT_STATUS_STATE k) = 2 ∧ (d.fryP k).discard = false ∧ 64 ≤ f.length ∧ f.length ≤ 1024 ∧ f.length % 8 = 0 ∧ f.crcOk = true ∧ typeRow f.typ = some (c, n, true) ∧ passed (d.fryP k).rx f.lseq = false ∧ f.lseq % 4096 ≠ (d.fryP k).rx) ∧
    (∃ (d : Dev) (k : Nat) (f : Frame) (c : Nat) (sq : Bool), Passes d k f c sq ∧ linkLocal f.typ = false ∧ f.bcast = false ∧ f.dst ≠ d.moduleId) ∧
    (∃ (d : Dev) (k : Nat), d.get (FRY_PORT_STATUS_STATE k) ≠ 2) :=
  ⟨⟨base.sets [(FRY_PORT_STATUS_STATE 7, 2)], 7, frameOf 1 0 64 [], 0, true, good_frame 64 (by decide +kernel)⟩,
   ⟨base.sets [(FRY_PORT_STATUS_STATE 7, 2)], 7, frameOf 1 0 1025 [], by decide +kernel⟩,
   ⟨base.sets [(FRY_PORT_STATUS_STATE 7, 2)], 7, { frameOf 1 0 64 [] with crcOk := false }, by decide +kernel⟩,
   ⟨(base.sets [(FRY_PORT_STATUS_STATE 7, 2)]).setFryP 7 { fryPort0 with rx := 0 }, 7, { frameOf 32 1 64 [] with lseq := 4095 }, 1, 64, by decide +kernel⟩,
   ⟨(base.sets [(FRY_PORT_STATUS_STATE 7, 2)]).setFryP 7 { fryPort0 with rx := 0 }, 7, { frameOf 32 1 64 [] with lseq := 1 }, 1, 64, by decide +kernel⟩,
   ⟨base.sets [(FRY_PORT_STATUS_STATE 7, 2)], 7, { frameOf 1 0 64 [] with dst := 4095 }, 0, true, passes 64 (by decide +kernel), by decide +kernel⟩,
   ⟨base, 7, by decide +kernel⟩⟩

/-- Hypotheses of Obligations.SystemCrossings. -/
theorem witness_SystemCrossings :
    (∃ (s : State) (k : Fin 8) (w : RawFrame), s.live ∧ GoodFrame s.dev k (readFrame w) 0 true ∧ (let f := readFrame w; f.typ = 1 ∧ s.dev.inletRoom = true ∧ s.dev.acting = true ∧ s.dev.sysX (frameId f) = none)) ∧
    (∃ (s : State) (k : Fin 8) (w : RawFrame) (x : Sys), s.live ∧ GoodFrame s.dev k (readFrame w) 0 true ∧ (let f := readFrame w; f.typ = 2 ∧ s.dev.inletRoom = true ∧ s.dev.acting = true ∧ frameId f / 2 ^ 52 = s.dev.moduleId ∧ s.dev.sysX (frameId f) = some x ∧ x.coord = true ∧ x.decision = none ∧ x.members.contains (bits (f.words.getD 2 0) 16 12) = true ∧ ((∀ v ∈ x.votes, v.1 ≠ bits (f.words.getD 2 0) 16 12)))) ∧
    (∃ (s : State) (k : Fin 8) (w : RawFrame) (x : Sys), s.live ∧ GoodFrame s.dev k (readFrame w) 0 true ∧ (let f := readFrame w; f.typ = 3 ∧ s.dev.inletRoom = true ∧ s.dev.acting = true ∧ f.src = frameId f / 2 ^ 52 ∧ s.dev.sysX (frameId f) = some x ∧ x.ready = true ∧ x.decision = none)) ∧
    (∃ (s : State) (k : Fin 8) (w : RawFrame), s.live ∧ GoodFrame s.dev k (readFrame w) 0 true ∧ (let f := readFrame w; f.typ = 4 ∧ s.dev.inletRoom = true ∧ s.dev.acting = true ∧ frameId f / 2 ^ 52 = s.dev.moduleId)) ∧
    (∃ (s : State) (id : Nat) (x : Sys), s.live ∧ s.dev.sysX id = some x ∧ x.proposed = true ∧ x.voted = false ∧ x.part = none ∧ x.coord = false ∧ id / 2 ^ 52 ≠ s.dev.moduleId) ∧
    (∃ (s : State) (id : Nat) (m : Nat) (x : Sys), s.live ∧ s.dev.sysX id = some x ∧ x.coord = true ∧ x.proposed = false ∧ x.decision = none ∧ ((∀ v ∈ x.votes, v.2.1 = true)) ∧ x.members.find? (fun m => !x.votes.any (fun v => v.1 == m)) = some m) ∧
    (∃ (s : State) (id : Nat) (x : Sys), s.live ∧ s.dev.sysX id = some x ∧ x.proposed = true ∧ x.decision = some true) ∧
    (∃ (s : State) (id : Nat) (x : Sys), s.live ∧ s.dev.sysX id = some x ∧ x.proposed = true ∧ x.decision = some false) ∧
    (∃ (s : State) (id : Nat) (x : Sys), s.live ∧ s.dev.sysX id = some x ∧ x.proposed = true ∧ x.decision = none ∧ x.ready = true) ∧
    (∃ (s : State) (id : Nat), s.live ∧ s.dev.sysX id = none) :=
  ⟨⟨(running (act.sets [(FRY_PORT_STATUS_STATE 7, 2)]) : State), 7, rawOf (frameOf 1 0 64 [5, 0]), rfl, good_frame 64 (by decide +kernel), by decide +kernel⟩,
   ⟨(running ((act.sets [(FRY_PORT_STATUS_STATE 7, 2)]).setSysX 5 (some { sys0 with coord := true, proposed := false, members := [3] })) : State), 7, rawOf (frameOf 2 0 64 [5, 0, 196608]), { sys0 with coord := true, proposed := false, members := [3] }, rfl, good_frame 64 (by decide +kernel), by decide +kernel⟩,
   ⟨(running ((act.sets [(FRY_PORT_STATUS_STATE 7, 2)]).setSysX 5 (some { sys0 with ready := true })) : State), 7, rawOf (frameOf 3 0 64 [5, 0]), { sys0 with ready := true }, rfl, good_frame 64 (by decide +kernel), by decide +kernel⟩,
   ⟨(running (act.sets [(FRY_PORT_STATUS_STATE 7, 2)]) : State), 7, rawOf (frameOf 4 0 64 [5, 0]), rfl, good_frame 64 (by decide +kernel), by decide +kernel⟩,
   ⟨(running (base.setSysX (2 ^ 52 + 5) (some sys0)) : State), 2 ^ 52 + 5, sys0, rfl, by decide +kernel⟩,
   ⟨(running (base.setSysX 5 (some { sys0 with coord := true, proposed := false, members := [3] })) : State), 5, 3, { sys0 with coord := true, proposed := false, members := [3] }, rfl, by decide +kernel⟩,
   ⟨(running (base.setSysX 5 (some { sys0 with decision := some true })) : State), 5, { sys0 with decision := some true }, rfl, by decide +kernel⟩,
   ⟨(running (base.setSysX 5 (some { sys0 with decision := some false })) : State), 5, { sys0 with decision := some false }, rfl, by decide +kernel⟩,
   ⟨(running (base.setSysX 5 (some { sys0 with ready := true })) : State), 5, { sys0 with ready := true }, rfl, by decide +kernel⟩,
   ⟨running base, 0, rfl, by decide +kernel⟩⟩

/-- Hypotheses of Obligations.ModuleTime. -/
theorem witness_ModuleTime :
    (∃ (s : State) (x : Int) (l : List Int), s.live ∧ s.dev.tim.samples = x :: l ∧ s.dev.on TIM_CTL_SERVO_EN = false) ∧
    (∃ (s : State) (x : Int) (l : List Int), s.live ∧ s.dev.tim.samples = x :: l ∧ s.dev.on TIM_CTL_SERVO_EN = true ∧ s.dev.get TIM_STATUS_STATE = 0 ∧ x * 65536 ≤ s.dev.mt) ∧
    (∃ (s : State) (x : Int) (l : List Int), s.live ∧ s.dev.tim.samples = x :: l ∧ s.dev.on TIM_CTL_SERVO_EN = true ∧ s.dev.get TIM_STATUS_STATE ≠ 0 ∧ s.dev.get TIM_JUMP_MAX * 65536 < x.natAbs ∧ (let d := (({ s.dev with tim := { s.dev.tim with samples := l } }).set TIM_OFFSET (uns 32 (clampI (-2147483648) 2147483647 (nearest x 65536)))).refuseSample; d.get TIM_STATUS_REFUSED_RUN < 7)) ∧
    (∃ (s : State) (x : Int) (l : List Int), s.live ∧ s.dev.tim.samples = x :: l ∧ s.dev.on TIM_CTL_SERVO_EN = true ∧ s.dev.get TIM_STATUS_STATE ≠ 0 ∧ s.dev.get TIM_JUMP_MAX * 65536 < x.natAbs ∧ (let d := (({ s.dev with tim := { s.dev.tim with samples := l } }).set TIM_OFFSET (uns 32 (clampI (-2147483648) 2147483647 (nearest x 65536)))).refuseSample; 7 ≤ d.get TIM_STATUS_REFUSED_RUN)) ∧
    (∃ (s : State) (x : Int), s.live ∧ s.dev.tim.samples = [x] ∧ s.dev.on TIM_CTL_SERVO_EN = true ∧ (s.dev.get TIM_STATUS_STATE = 1 ∨ s.dev.get TIM_STATUS_STATE = 2) ∧ x.natAbs ≤ s.dev.get TIM_JUMP_MAX * 65536) ∧
    (∃ (s : State), s.live ∧ (s.dev.get TIM_STATUS_STATE = 1 ∨ s.dev.get TIM_STATUS_STATE = 2)) ∧
    (∃ (s : State), s.live ∧ s.dev.get TIM_STATUS_STATE = 0) ∧
    (∃ (s : State) (k : Nat) (x : Int), s.live ∧ k < 17 ∧ x.natAbs ≤ 4294967296) ∧
    (∃ (s : State) (k : Nat) (x : Int), s.live ∧ k < 17 ∧ 2 * 4294967296 < x.natAbs) ∧
    (∃ (s : State) (r : Requester) (c : Fin 4), Reached s r 0x50000 ∧ s.dev.get TIM_CTL_SRC ≠ c.val ∧ s.dev.get TIM_STATUS_STATE = 0) ∧
    (∃ (s : State) (r : Requester) (c : Fin 4) (p : Fin 8), Reached s r 0x50000 ∧ s.dev.get TIM_CTL_SRC = c.val ∧ s.dev.get TIM_CTL_FERRY_PORT = p.val) ∧
    (∃ (s : State), s.live ∧ s.dev.get TIM_CTL_SRC ≠ 3) ∧
    (∃ (s : State), s.live ∧ s.dev.get TIM_CTL_SRC = 3 ∧ (let m : Int := ((s.dev.now : Int) + sgn 16 (s.dev.get TIM_PPS_DELAY)) % 1000000000; 2 * m < 1000000000)) ∧
    (∃ (s : State), s.live ∧ s.dev.get TIM_CTL_SRC = 3 ∧ (let m : Int := ((s.dev.now : Int) + sgn 16 (s.dev.get TIM_PPS_DELAY)) % 1000000000; 1000000000 < 2 * m)) ∧
    (∃ (s : State) (u : Bool) (dom : Nat) (p : Nat), s.live ∧ s.dev.ptpTakes u dom = true ∧ s.dev.tim.known = true ∧ s.dev.tim.gmPort = p) ∧
    (∃ (s : State) (u : Bool) (dom : Nat), s.live ∧ s.dev.ptpTakes u dom = true ∧ s.dev.tim.known = false) ∧
    (∃ (s : State) (u : Bool) (dom : Nat) (gm : Nat), s.live ∧ s.dev.ptpTakes u dom = true ∧ s.dev.tim.known = true ∧ s.dev.tim.gm ≠ gm) ∧
    (∃ (s : State) (u : Bool) (dom : Nat), s.live ∧ s.dev.mgmtOn = true ∧ ((s.dev.get TIM_CTL_SRC ≠ 2 ∨ s.dev.get TIM_CTL_PTP_DOMAIN ≠ dom ∨ u ≠ s.dev.on TIM_CTL_PTP_UDP ∨ u = true ∧ s.dev.get HST_MGMT_IPV4 = 0))) ∧
    (∃ (s : State), s.live ∧ s.dev.mgmtOn = false) ∧
    (∃ (s : State) (r : Requester), Reached s r 0x50000 ∧ s.dev.tim.hold = true) ∧
    (∃ (s : State) (r : Requester), Reached s r 0x50000 ∧ s.dev.tim.hold = false ∧ s.dev.on TIM_CTL_SUSPEND = true) ∧
    (∃ (s : State) (r : Requester), Reached s r 0x50000 ∧ s.dev.suspended = false) ∧
    (∃ (s : State) (r : Requester), Reached s r 0x50000 ∧ s.dev.suspended = true ∧ 0 ≤ (s.dev.mt : Int) + sgn 64 (s.dev.get TIM_FORCE_OFS) * 4294967296) ∧
    (∃ (s : State), s.live ∧ s.dev.tim.ppsOut = false ∧ s.dev.on TIM_CTL_PPS_OUT_EN = true) ∧
    (∃ (s : State), s.live ∧ s.dev.tim.ppsOut = true) :=
  ⟨⟨(running ((let d := base; { d with tim := { d.tim with samples := [5, 6] } } : Dev)) : State), 5, [6], rfl, by decide +kernel⟩,
   ⟨(running ((let d := (base.sets [(TIM_CTL_SERVO_EN, 1)]).ticks 1000; { d with tim := { d.tim with samples := [5] } } : Dev)) : State), 5, [], rfl, by decide +kernel⟩,
   ⟨(running ((let d := base.sets [(TIM_CTL_SERVO_EN, 1), (TIM_STATUS_STATE, 1), (TIM_JUMP_MAX, 1000)]; { d with tim := { d.tim with samples := [65536000000] } } : Dev)) : State), 65536000000, [], rfl, by decide +kernel⟩,
   ⟨(running ((let d := base.sets [(TIM_CTL_SERVO_EN, 1), (TIM_STATUS_STATE, 1), (TIM_JUMP_MAX, 1000), (TIM_STATUS_REFUSED_RUN, 7)]; { d with tim := { d.tim with samples := [65536000000] } } : Dev)) : State), 65536000000, [], rfl, by decide +kernel⟩,
   ⟨(running ((let d := base.sets [(TIM_CTL_SERVO_EN, 1), (TIM_STATUS_STATE, 2), (TIM_JUMP_MAX, 1000)]; { d with tim := { d.tim with samples := [65536000] } } : Dev)) : State), 65536000, rfl, by decide +kernel⟩,
   ⟨(running (base.sets [(TIM_STATUS_STATE, 1)]) : State), rfl, by decide +kernel⟩,
   ⟨running base, rfl, by decide +kernel⟩,
   ⟨running base, 16, 4294967296, rfl, by decide +kernel⟩,
   ⟨running base, 16, 8589934593, rfl, by decide +kernel⟩,
   ⟨running base, .fn 0, 1, reached_of (by decide +kernel), by decide +kernel⟩,
   ⟨(running (base.sets [(TIM_CTL_SRC, 1), (TIM_CTL_FERRY_PORT, 7)]) : State), .fn 0, 1, 7, reached_of (by decide +kernel), by decide +kernel⟩,
   ⟨running base, rfl, by decide +kernel⟩,
   ⟨(running (base.sets [(TIM_CTL_SRC, 3)]) : State), rfl, by decide +kernel⟩,
   ⟨(running ((base.sets [(TIM_CTL_SRC, 3)]).atLeast 600000000) : State), rfl, by decide +kernel⟩,
   ⟨(running ((let d := base.sets [(TIM_CTL_SRC, 2), (HST_MGMT_CTL_EN, 1), (TIM_CTL_PTP_DOMAIN, 127), (TIM_CTL_PTP_UDP, 1), (HST_MGMT_IPV4, 1)]; { d with tim := { d.tim with known := true } } : Dev)) : State), true, 127, 0, rfl, by decide +kernel⟩,
   ⟨(running (base.sets [(TIM_CTL_SRC, 2), (HST_MGMT_CTL_EN, 1), (TIM_CTL_PTP_DOMAIN, 127), (TIM_CTL_PTP_UDP, 1), (HST_MGMT_IPV4, 1)]) : State), true, 127, rfl, by decide +kernel⟩,
   ⟨(running ((let d := base.sets [(TIM_CTL_SRC, 2), (HST_MGMT_CTL_EN, 1), (TIM_CTL_PTP_DOMAIN, 127), (TIM_CTL_PTP_UDP, 1), (HST_MGMT_IPV4, 1)]; { d with tim := { d.tim with known := true } } : Dev)) : State), true, 127, 1, rfl, by decide +kernel⟩,
   ⟨(running (base.sets [(TIM_CTL_SRC, 2), (HST_MGMT_CTL_EN, 1), (TIM_CTL_PTP_DOMAIN, 255)]) : State), false, 254, rfl, by decide +kernel⟩,
   ⟨running base, rfl, by decide +kernel⟩,
   ⟨(running ((let d := base; { d with tim := { d.tim with hold := true } } : Dev)) : State), .fn 0, reached_of (by decide +kernel), by decide +kernel⟩,
   ⟨(running (base.sets [(TIM_CTL_SUSPEND, 1)]) : State), .fn 0, reached_of (by decide +kernel), by decide +kernel⟩,
   ⟨running base, .fn 0, reached_of (by decide +kernel), by decide +kernel⟩,
   ⟨(running (base.sets [(TIM_CTL_SUSPEND, 1)]) : State), .fn 0, reached_of (by decide +kernel), by decide +kernel⟩,
   ⟨(running (base.sets [(TIM_CTL_PPS_OUT_EN, 1)]) : State), rfl, by decide +kernel⟩,
   ⟨(running ((let d := base; { d with tim := { d.tim with ppsOut := true } } : Dev)) : State), rfl, by decide +kernel⟩⟩

/-- Hypotheses of Obligations.FerryBringUp. -/
theorem witness_FerryBringUp :
    (∃ (s : State) (r : Requester) (k : Fin 8), Reached s r (0x70100 + k.val * 0x40) ∧ (s.dev.fryP k).off = false ∧ s.dev.man.waiting.cells = [] ∧ s.dev.get (FRY_PORT_STATUS_STATE k) = 0 ∧ (s.dev.setB (FRY_PORT_CTL_ENABLE k) true).mayTrain k = true) ∧
    (∃ (s : State) (k : Fin 8), s.live ∧ s.dev.get (FRY_PORT_STATUS_STATE k) = 1 ∧ (s.dev.fryP k).hello = false ∧ (s.dev.fryP k).helloAt = none ∧ s.dev.on (FRY_LANE_STATUS_ALIGNED (2 * k)) = true ∧ s.dev.on (FRY_LANE_STATUS_ALIGNED (2 * k + 1)) = true) ∧
    (∃ (s : State) (k : Fin 8), s.live ∧ s.dev.get (FRY_PORT_STATUS_STATE k) = 0) ∧
    (∃ (s : State) (k : Fin 8) (w : RawFrame), s.live ∧ (let f := readFrame w; f.typ = 0x70 ∧ s.dev.get (FRY_PORT_STATUS_STATE k) = 1 ∧ f.crcOk = true ∧ f.length = 64 ∧ f.cls = 3 ∧ f.words.getD 0 0 % 4096 ≠ s.dev.moduleId)) ∧
    (∃ (s : State) (k : Fin 8) (w : RawFrame), s.live ∧ (let f := readFrame w; f.typ = 0x70 ∧ s.dev.get (FRY_PORT_STATUS_STATE k) = 1 ∧ f.crcOk = true ∧ f.length = 64 ∧ f.cls = 3 ∧ f.words.getD 0 0 % 4096 = s.dev.moduleId)) ∧
    (∃ (s : State) (k : Fin 8) (a : Nat) (b : Nat), s.live ∧ s.dev.get (FRY_PORT_STATUS_STATE k) = 1 ∧ (s.dev.fryP k).hello = true ∧ 1024 ≤ (s.dev.fryP k).clean ∧ a ≤ 200 ∧ b ≤ 200) ∧
    (∃ (s : State) (k : Fin 8) (a : Nat) (b : Nat), s.live ∧ ((s.dev.fryP k).clean < 1024 ∨ 200 < a ∨ 200 < b)) ∧
    (∃ (s : State) (l : Fin 16), s.live ∧ s.dev.get (FRY_PORT_STATUS_STATE (l / 2)) = 2) ∧
    (∃ (s : State) (l : Fin 16), s.live ∧ s.dev.get (FRY_PORT_STATUS_STATE (l / 2)) ≠ 2) ∧
    (∃ (s : State) (k : Fin 8), s.live ∧ s.dev.get (FRY_PORT_STATUS_STATE k) = 3 ∧ s.dev.get (FRY_PORT_STATUS_CAUSE k) = 1) ∧
    (∃ (s : State) (k : Fin 8), s.live ∧ s.dev.get (FRY_PORT_STATUS_CAUSE k) ≠ 1) :=
  ⟨⟨(running ((base).putForce (manKey 11 (4 * 7) 0) 1) : State), .fn 0, 7, reached_of (by decide +kernel), by decide +kernel⟩,
   ⟨(running (base.sets [(FRY_PORT_STATUS_STATE 7, 1), (FRY_LANE_STATUS_ALIGNED 14, 1), (FRY_LANE_STATUS_ALIGNED 15, 1)]) : State), 7, rfl, by decide +kernel⟩,
   ⟨running base, 7, rfl, by decide +kernel⟩,
   ⟨(running (base.sets [(FRY_PORT_STATUS_STATE 7, 1)]) : State), 7, rawOf (frameOf 0x70 3 64 [1]), rfl, by decide +kernel⟩,
   ⟨(running (base.sets [(FRY_PORT_STATUS_STATE 7, 1)]) : State), 7, rawOf (frameOf 0x70 3 64 []), rfl, by decide +kernel⟩,
   ⟨(running ((base.sets [(FRY_PORT_STATUS_STATE 7, 1)]).setFryP 7 { fryPort0 with hello := true, clean := 1024 }) : State), 7, 0, 0, rfl, by decide +kernel⟩,
   ⟨running base, 0, 0, 0, rfl, by decide +kernel⟩,
   ⟨(running (base.sets [(FRY_PORT_STATUS_STATE 7, 2)]) : State), 15, rfl, by decide +kernel⟩,
   ⟨running base, 0, rfl, by decide +kernel⟩,
   ⟨(running (base.sets [(FRY_PORT_STATUS_STATE 7, 3), (FRY_PORT_STATUS_CAUSE 7, 1)]) : State), 7, rfl, by decide +kernel⟩,
   ⟨running base, 7, rfl, by decide +kernel⟩⟩

/-- Hypotheses of Obligations.FerryTraffic. -/
theorem witness_FerryTraffic :
    (∃ (s : State) (k : Fin 8) (h : Nat) (l : List Frame) (r : List Frame) (f : Frame), s.live ∧ s.dev.get (FRY_PORT_STATUS_STATE k) = 2 ∧ (s.dev.fryP k).retry = l ++ f :: r ∧ f.lseq = bits h 0 12 ∧ ((s.dev.fryP k).retry.map (fun g => g.lseq)).Nodup ∧ (s.dev.fryP k).tc3 = []) ∧
    (∃ (s : State) (k : Fin 8), s.live ∧ s.dev.get (FRY_PORT_STATUS_STATE k) = 1) ∧
    (∃ (s : State) (k : Fin 8) (n : Nat) (q : QFrame), s.live ∧ s.dev.get (FRY_PORT_STATUS_STATE k) = 2 ∧ (s.dev.fryP k).tc0 = [q] ∧ (s.dev.fryP k).tc1 = [] ∧ (s.dev.fryP k).tc2 = [] ∧ (s.dev.fryP k).tc3 = [] ∧ (s.dev.fryP k).room q = true ∧ q.frame.length ≤ 640 * min n (s.dev.get (FRY_PORT_WIN_LEN k) * 7 / 170)) ∧
    (∃ (s : State) (k : Fin 8), s.live ∧ s.dev.get (FRY_PORT_STATUS_STATE k) ≠ 2) ∧
    (∃ (s : State) (k : Fin 8) (w : RawFrame), s.live ∧ GoodFrame s.dev k (readFrame w) 3 false ∧ (let f := readFrame w; f.typ = 0x71 ∧ bit (f.words.getD 0 0) 20 = false)) ∧
    (∃ (s : State) (k : Fin 8) (w : RawFrame) (g : Frame), s.live ∧ GoodFrame s.dev k (readFrame w) 3 false ∧ (let f := readFrame w; f.typ = 0x71 ∧ bit (f.words.getD 0 0) 20 = true ∧ g ∈ (s.dev.fryP k).retry ∧ g.lseq = f.words.getD 0 0 % 4096 ∧ (s.dev.fryP k).replaying = false)) ∧
    (∃ (s : State) (k : Fin 8) (f : Frame) (l : List Frame), s.live ∧ s.dev.get (FRY_PORT_STATUS_STATE k) = 2 ∧ (s.dev.fryP k).retry = f :: l) ∧
    (∃ (d : Dev) (k : Nat) (n : Nat), (d.fryP k).rptSeq = n ∧ 8 ≤ (d.fryP k).rptCnt) ∧
    (∃ (s : State) (k : Fin 8), s.live ∧ (s.dev.fryP k).retry = []) ∧
    (∃ (s : State) (k : Fin 8), s.live ∧ ((s.dev.violThresh k = 0 ∨ (s.dev.fryP k).viol ≤ s.dev.violThresh k))) ∧
    (∃ (s : State) (k : Fin 8), s.live ∧ s.dev.violThresh k ≠ 0 ∧ s.dev.violThresh k < (s.dev.fryP k).viol ∧ s.dev.get (FRY_PORT_STATUS_STATE k) = 2) ∧
    (∃ (s : State) (k : Fin 8) (w : RawFrame) (c : Nat) (sq : Bool) (j : Nat), s.live ∧ Passes s.dev k (readFrame w) c sq ∧ (let f := readFrame w; linkLocal f.typ = false ∧ f.bcast = false ∧ f.dst ≠ s.dev.moduleId ∧ f.hops ≠ 0 ∧ f.typ ≠ 0x20 ∧ s.dev.portTo f.dst = some j)) ∧
    (∃ (s : State) (k : Fin 8) (w : RawFrame) (c : Nat) (sq : Bool), s.live ∧ Passes s.dev k (readFrame w) c sq ∧ (let f := readFrame w; linkLocal f.typ = false ∧ f.bcast = false ∧ f.dst ≠ s.dev.moduleId ∧ ((f.hops = 0 ∨ s.dev.portTo f.dst = none)))) :=
  ⟨⟨(running ((base.sets [(FRY_PORT_STATUS_STATE 7, 2)]).setFryP 7 { fryPort0 with retry := [{ frameOf 0x40 3 128 [] with lseq := 4095 }] }) : State), 7, 4095, [], [], { frameOf 0x40 3 128 [] with lseq := 4095 }, rfl, by decide +kernel⟩,
   ⟨(running (base.sets [(FRY_PORT_STATUS_STATE 7, 1)]) : State), 7, rfl, by decide +kernel⟩,
   ⟨(running ((base.sets [(FRY_PORT_STATUS_STATE 7, 2), (FRY_PORT_WIN_PERIOD 7, 100000), (FRY_PORT_WIN_LEN 7, 10000)]).setFryP 7 { fryPort0 with tc0 := [⟨frameOf 0x40 3 128 [], false, 0⟩] }) : State), 7, 100, ⟨frameOf 0x40 3 128 [], false, 0⟩, rfl, by decide +kernel⟩,
   ⟨running base, 7, rfl, by decide +kernel⟩,
   ⟨(running (base.sets [(FRY_PORT_STATUS_STATE 7, 2)]) : State), 7, rawOf (frameOf 0x71 3 64 [5]), rfl, good_frame 64 (by decide +kernel), by decide +kernel⟩,
   ⟨(running ((base.sets [(FRY_PORT_STATUS_STATE 7, 2)]).setFryP 7 { fryPort0 with retry := [{ frameOf 0x40 3 128 [] with lseq := 4095 }] }) : State), 7, rawOf (frameOf 0x71 3 64 [1048576 + 4095]), { frameOf 0x40 3 128 [] with lseq := 4095 }, rfl, good_frame 64 (by decide +kernel), by decide +kernel⟩,
   ⟨(running ((base.sets [(FRY_PORT_STATUS_STATE 7, 2)]).setFryP 7 { fryPort0 with retry := [{ frameOf 0x40 3 128 [] with lseq := 4095 }] }) : State), 7, { frameOf 0x40 3 128 [] with lseq := 4095 }, [], rfl, by decide +kernel⟩,
   ⟨(base.sets [(FRY_PORT_STATUS_STATE 7, 2)]).setFryP 7 { fryPort0 with rptSeq := 4095, rptCnt := 8 }, 7, 4095, by decide +kernel⟩,
   ⟨running base, 7, rfl, by decide +kernel⟩,
   ⟨(running ((base).setFryP 7 { fryPort0 with viol := 70000 }) : State), 7, rfl, by decide +kernel⟩,
   ⟨(running (((base.sets [(FRY_PORT_STATUS_STATE 7, 2)]).putForce (manKey 11 (4 * 7 + 1) 0) 5).setFryP 7 { fryPort0 with viol := 6 }) : State), 7, live_of (by decide +kernel), by decide +kernel⟩,
   ⟨(running ((base.sets [(FRY_PORT_STATUS_STATE 7, 2)]).sets [(FRY_ROUTE_VALID 9, 1), (FRY_ROUTE_PORT 9, 7)]) : State), 7, rawOf ({ frameOf 1 0 64 [] with dst := 9, hops := 1 }), 0, true, 7, rfl, passes 64 (by decide +kernel), by decide +kernel⟩,
   ⟨(running (base.sets [(FRY_PORT_STATUS_STATE 7, 2)]) : State), 7, rawOf ({ frameOf 1 0 64 [] with dst := 9, hops := 1 }), 0, true, rfl, passes 64 (by decide +kernel), by decide +kernel⟩⟩

/-- Hypotheses of Obligations.FerryTime. -/
theorem witness_FerryTime :
    (∃ (s : State) (k : Fin 8), s.live ∧ s.dev.get (FRY_PORT_STATUS_STATE k) = 2 ∧ s.dev.serves k = true ∧ s.dev.timeRole = 1 ∧ (s.dev.fryP k).exchAt = none) ∧
    (∃ (s : State) (k : Fin 8), s.live ∧ s.dev.serves k = false) ∧
    (∃ (s : State) (k : Fin 8) (w : RawFrame), s.live ∧ GoodFrame s.dev k (readFrame w) 2 false ∧ (let f := readFrame w; f.typ = 0x10 ∧ s.dev.takes k = true)) ∧
    (∃ (s : State) (k : Fin 8) (w : RawFrame), s.live ∧ GoodFrame s.dev k (readFrame w) 2 false ∧ (let f := readFrame w; f.typ = 0x11 ∧ s.dev.serves k = true ∧ (s.dev.fryP k).serving = true ∧ (s.dev.fryP k).exch = f.words.getD 2 0 / 65536 % 65536)) ∧
    (∃ (s : State) (k : Fin 8) (w : RawFrame) (t : Taker) (t3 : Nat), s.live ∧ GoodFrame s.dev k (readFrame w) 2 false ∧ (let f := readFrame w; f.typ = 0x12 ∧ s.dev.takes k = true ∧ (s.dev.fryP k).taker = some t ∧ t.t3 = some t3 ∧ t.exch = f.words.getD 2 0 / 65536 % 65536 ∧ s.dev.get TIM_CTL_SRC = 1 ∧ s.dev.get TIM_CTL_FERRY_PORT = k.val ∧ t.steps = 0 ∧ s.dev.tim.known = false)) ∧
    (∃ (s : State) (k : Fin 8) (t : Taker), s.live ∧ (s.dev.fryP k).taker = some t) ∧
    (∃ (s : State) (k : Fin 8), s.live ∧ (s.dev.fryP k).taker = none ∧ (s.dev.fryP k).serving = false) :=
  ⟨⟨(running ((((base.sets [(FRY_PORT_STATUS_STATE 7, 2)]).putForce (manKey 12 0 0) 1).putForce (manKey 11 (4 * 7) 0) 2).setFryP 7 { fryPort0 with peerRole := 3 }) : State), 7, live_of (by decide +kernel), by decide +kernel⟩,
   ⟨running base, 7, rfl, by decide +kernel⟩,
   ⟨(running (((base.sets [(FRY_PORT_STATUS_STATE 7, 2)]).putForce (manKey 11 (4 * 7) 0) 3).setFryP 7 { fryPort0 with peerRole := 2 }) : State), 7, rawOf (frameOf 0x10 2 64 []), live_of (by decide +kernel), good_frame 64 (by decide +kernel), by decide +kernel⟩,
   ⟨(running ((((base.sets [(FRY_PORT_STATUS_STATE 7, 2)]).putForce (manKey 12 0 0) 1).putForce (manKey 11 (4 * 7) 0) 2).setFryP 7 { fryPort0 with peerRole := 3, serving := true, exch := 1 }) : State), 7, rawOf (frameOf 0x11 2 64 [0, 0, 65536]), live_of (by decide +kernel), good_frame 64 (by decide +kernel), by decide +kernel⟩,
   ⟨(running (((base.sets [(FRY_PORT_STATUS_STATE 7, 2), (TIM_CTL_SRC, 1), (TIM_CTL_FERRY_PORT, 7)]).putForce (manKey 11 (4 * 7) 0) 3).setFryP 7 { fryPort0 with peerRole := 2, taker := some taker0 }) : State), 7, rawOf (frameOf 0x12 2 64 []), taker0, 0, live_of (by decide +kernel), good_frame 64 (by decide +kernel), by decide +kernel⟩,
   ⟨(running ((base).setFryP 7 { fryPort0 with taker := some taker0 }) : State), 7, taker0, rfl, by decide +kernel⟩,
   ⟨running base, 7, rfl, by decide +kernel⟩⟩

/-- Hypotheses of Obligations.ReportsAndHousekeeping. -/
theorem witness_ReportsAndHousekeeping :
    (∃ (s : State), s.live ∧ s.dev.on FRY_TEL_CFG_EN = true ∧ s.dev.fry.telAt = none) ∧
    (∃ (s : State), s.live ∧ s.dev.on FRY_TEL_CFG_EN = false) ∧
    (∃ (s : State) (k : Fin 8) (w : RawFrame), s.live ∧ GoodFrame s.dev k (readFrame w) 3 true ∧ (let f := readFrame w; f.typ = 0x40 ∧ f.bcast = false ∧ s.dev.on FRY_TEL_RING_CFG_EN = false)) ∧
    (∃ (s : State) (k : Fin 8) (w : RawFrame), s.live ∧ GoodFrame s.dev k (readFrame w) 3 true ∧ (let f := readFrame w; f.typ = 0x40 ∧ f.bcast = false ∧ s.dev.on FRY_TEL_RING_CFG_EN = true ∧ (let n := 2 ^ (s.dev.get FRY_TEL_RING_CFG_SIZE + 4); (let t := s.dev.get FRY_TEL_RING_TAIL; (t + 1) % n ≠ s.dev.get FRY_TEL_RING_HEAD % n)))) ∧
    (∃ (s : State), s.live ∧ s.dev.on HLD_CTL_EN = true ∧ s.dev.get HLD_STATUS_STATE = 2 ∧ s.dev.hld.histAt = none) ∧
    (∃ (s : State), s.live ∧ s.dev.on HLD_CTL_EN = true ∧ s.dev.get HLD_STATUS_STATE = 3 ∧ s.dev.hld.histAt = none) ∧
    (∃ (s : State), s.live ∧ s.dev.on HLD_CTL_EN = false) ∧
    (∃ (s : State), s.live ∧ s.dev.thm.round = none) ∧
    (∃ (s : State) (raws : List (Option Int)) (t : Nat), s.live ∧ s.dev.thm.round = some t ∧ ((∀ i < 110, s.dev.on (THM_TEMP_BROKEN i) = false)) ∧ s.dev.breaking (inTrim raws) = [] ∧ ((∀ b < 96, s.dev.loopsRun b = false)) ∧ s.dev.get THM_STATUS_WARN_REACH = 0 ∧ s.dev.on THM_STATUS_WARN_WH = false ∧ s.dev.get CAL_AUTO_EN = 0 ∧ ((∀ i < 110, ∃ y : Int, raws.getD i none = some y ∧ -4000 ≤ y ∧ y < 11000 ∧ y < sgn 16 (s.dev.get THM_CFG_WARN)))) ∧
    (∃ (s : State) (t : Nat), s.live ∧ s.dev.thm.round = some t) ∧
    (∃ (k : Nat) (mv : Int), k < 9 ∧ (let nom := railFS k / 2; (let y := if nom < 0 then -mv else mv; (nom.natAbs * 95 : Nat) ≤ y * 100 ∧ y * 100 ≤ (nom.natAbs * 105 : Nat)))) ∧
    (∃ (d : Dev) (k : Nat) (mv : Int), k < 9 ∧ (let nom := railFS k / 2; (let y := if nom < 0 then -mv else mv; y * 100 < (nom.natAbs * 95 : Nat) ∧ d.thm.rails.get 0 k = 1))) :=
  ⟨⟨(running (base.sets [(FRY_TEL_CFG_EN, 1)]) : State), rfl, by decide +kernel⟩,
   ⟨running base, rfl, by decide +kernel⟩,
   ⟨(running (base.sets [(FRY_PORT_STATUS_STATE 7, 2)]) : State), 7, rawOf (frameOf 0x40 3 128 []), rfl, good_frame 0 (by decide +kernel), by decide +kernel⟩,
   ⟨(running (((base.sets [(FRY_PORT_STATUS_STATE 7, 2)])).sets [(FRY_TEL_RING_CFG_EN, 1)]) : State), 7, rawOf (frameOf 0x40 3 128 []), rfl, good_frame 0 (by decide +kernel), by decide +kernel⟩,
   ⟨(running (base.sets [(HLD_STATUS_STATE, 2), (HLD_CTL_EN, 1)]) : State), rfl, by decide +kernel⟩,
   ⟨(running (base.sets [(HLD_STATUS_STATE, 3), (HLD_CTL_EN, 1)]) : State), rfl, by decide +kernel⟩,
   ⟨(running (base.sets [(HLD_CTL_EN, 0)]) : State), rfl, by decide +kernel⟩,
   ⟨running base, rfl, by decide +kernel⟩,
   ⟨(running ((let d := base; { d with thm := { d.thm with round := some 0 } } : Dev)) : State), evenRaws, 0, rfl, by decide +kernel⟩,
   ⟨(running ((let d := base; { d with thm := { d.thm with round := some 5 } } : Dev)) : State), 5, rfl, by decide +kernel⟩,
   ⟨6, -3780, by decide +kernel⟩,
   ⟨(let d := base; { d with thm := { d.thm with rails := ⟨[(6, 1)]⟩ } } : Dev), 6, -3419, by decide +kernel⟩⟩

/-- Hypotheses of Obligations.LoopsAndGroups. -/
theorem witness_LoopsAndGroups :
    (∃ (s : State) (i : Fin 13824), s.live ∧ (let b := cellBlk i; (let a := if s.dev.calibrating b then s.dev.refreshPriv b else s.dev; ((a.loopsRun b = false ∨ (a.loop i).mode = 5 ∨ (a.loop i).mode = 6))))) ∧
    (∃ (s : State) (i : Fin 13824) (x : Int) (y : Int), s.live ∧ (let b := cellBlk i; (let a := if s.dev.calibrating b then s.dev.refreshPriv b else s.dev; a.loopsRun b = true ∧ (a.loop i).mode ≠ 5 ∧ (a.loop i).mode ≠ 6 ∧ (let u := a.updateOf i; (let d := a.atLeastIn [blkReach b] u.1; (let d := d.setLoop i { d.loop i with lastAt := some u.1 }; (let ca := d.codeBy b u.2.1 (probeCell i 0) x; (let cb := d.codeBy b u.2.2 (probeCell i 1) y; (let d := (d.recSample b (2 * (i.val % 144)) ca).recSample b (2 * (i.val % 144) + 1) cb; (let d := (d.flipRipple (probeCell i 0)).flipRipple (probeCell i 1); ((d.underTest b (probeCell i 0) = true ∨ d.underTest b (probeCell i 1) = true)))))))))))) ∧
    (∃ (s : State) (i : Fin 13824) (x : Int) (y : Int), s.live ∧ (let b := cellBlk i; (let a := if s.dev.calibrating b then s.dev.refreshPriv b else s.dev; a.loopsRun b = true ∧ (a.loop i).mode ≠ 5 ∧ (a.loop i).mode ≠ 6 ∧ (let u := a.updateOf i; (let d := a.atLeastIn [blkReach b] u.1; (let d := d.setLoop i { d.loop i with lastAt := some u.1 }; (let ca := d.codeBy b u.2.1 (probeCell i 0) x; (let cb := d.codeBy b u.2.2 (probeCell i 1) y; (let d := (d.recSample b (2 * (i.val % 144)) ca).recSample b (2 * (i.val % 144) + 1) cb; (let d := (d.flipRipple (probeCell i 0)).flipRipple (probeCell i 1); (let l := d.loop i; d.underTest b (probeCell i 0) = false ∧ d.underTest b (probeCell i 1) = false ∧ l.mode < 3 ∧ d.bondOpen (probeCell i 0) = true))))))))))) ∧
    (∃ (s : State) (i : Fin 13824) (x : Int) (y : Int), s.live ∧ (let b := cellBlk i; (let a := if s.dev.calibrating b then s.dev.refreshPriv b else s.dev; a.loopsRun b = true ∧ (a.loop i).mode ≠ 5 ∧ (a.loop i).mode ≠ 6 ∧ (let u := a.updateOf i; (let d := a.atLeastIn [blkReach b] u.1; (let d := d.setLoop i { d.loop i with lastAt := some u.1 }; (let ca := d.codeBy b u.2.1 (probeCell i 0) x; (let cb := d.codeBy b u.2.2 (probeCell i 1) y; (let d := (d.recSample b (2 * (i.val % 144)) ca).recSample b (2 * (i.val % 144) + 1) cb; (let d := (d.flipRipple (probeCell i 0)).flipRipple (probeCell i 1); (let l := d.loop i; d.underTest b (probeCell i 0) = false ∧ d.underTest b (probeCell i 1) = false ∧ l.mode < 3 ∧ d.bondOpen (probeCell i 0) = false ∧ (l.up.take x).run = 64))))))))))) ∧
    (∃ (s : State) (i : Fin 13824) (x : Int) (y : Int), s.live ∧ (let b := cellBlk i; (let a := if s.dev.calibrating b then s.dev.refreshPriv b else s.dev; a.loopsRun b = true ∧ (a.loop i).mode ≠ 5 ∧ (a.loop i).mode ≠ 6 ∧ (let u := a.updateOf i; (let d := a.atLeastIn [blkReach b] u.1; (let d := d.setLoop i { d.loop i with lastAt := some u.1 }; (let ca := d.codeBy b u.2.1 (probeCell i 0) x; (let cb := d.codeBy b u.2.2 (probeCell i 1) y; (let d := (d.recSample b (2 * (i.val % 144)) ca).recSample b (2 * (i.val % 144) + 1) cb; (let d := (d.flipRipple (probeCell i 0)).flipRipple (probeCell i 1); (let l := d.loop i; d.underTest b (probeCell i 0) = false ∧ d.underTest b (probeCell i 1) = false ∧ l.mode < 3 ∧ d.bondOpen (probeCell i 0) = false ∧ (l.up.take x).run ≠ 64 ∧ d.bondOpen (probeCell i 1) = false ∧ (l.lp.take y).run ≠ 64))))))))))) ∧
    (∃ (s : State) (i : Fin 13824) (x : Int) (y : Int), s.live ∧ (let b := cellBlk i; (let a := if s.dev.calibrating b then s.dev.refreshPriv b else s.dev; a.loopsRun b = true ∧ (a.loop i).mode ≠ 5 ∧ (a.loop i).mode ≠ 6 ∧ (let u := a.updateOf i; (let d := a.atLeastIn [blkReach b] u.1; (let d := d.setLoop i { d.loop i with lastAt := some u.1 }; (let ca := d.codeBy b u.2.1 (probeCell i 0) x; (let cb := d.codeBy b u.2.2 (probeCell i 1) y; (let d := (d.recSample b (2 * (i.val % 144)) ca).recSample b (2 * (i.val % 144) + 1) cb; (let d := (d.flipRipple (probeCell i 0)).flipRipple (probeCell i 1); (let l := d.loop i; (let raws := ((x, y) :: l.raws).take 4; d.underTest b (probeCell i 0) = false ∧ d.underTest b (probeCell i 1) = false ∧ l.mode = 3 ∧ (let e := d.setLoop i { l with up := probe0, lp := probe0, darkRun := 0, raws }; e.shadowed i = true))))))))))))) ∧
    (∃ (s : State) (i : Fin 13824) (x : Int) (y : Int), s.live ∧ (let b := cellBlk i; (let a := if s.dev.calibrating b then s.dev.refreshPriv b else s.dev; a.loopsRun b = true ∧ (a.loop i).mode ≠ 5 ∧ (a.loop i).mode ≠ 6 ∧ (let u := a.updateOf i; (let d := a.atLeastIn [blkReach b] u.1; (let d := d.setLoop i { d.loop i with lastAt := some u.1 }; (let ca := d.codeBy b u.2.1 (probeCell i 0) x; (let cb := d.codeBy b u.2.2 (probeCell i 1) y; (let d := (d.recSample b (2 * (i.val % 144)) ca).recSample b (2 * (i.val % 144) + 1) cb; (let d := (d.flipRipple (probeCell i 0)).flipRipple (probeCell i 1); (let l := d.loop i; d.underTest b (probeCell i 0) = false ∧ d.underTest b (probeCell i 1) = false ∧ l.mode = 4 ∧ d.bondOpen (probeCell i 0) = true))))))))))) ∧
    (∃ (s : State) (r : Requester) (b : Fin 96) (c : Fin 256), Reached s r (0x201330 + b.val * 0x2000) ∧ c.val < 144 ∧ (s.dev.loop (b.val * 144 + c.val)).mode = 4 ∧ 1024 ≤ (s.dev.loop (b.val * 144 + c.val)).good) ∧
    (∃ (s : State) (r : Requester) (b : Fin 96) (c : Fin 256), Reached s r (0x201330 + b.val * 0x2000) ∧ 144 ≤ c.val) ∧
    (∃ (s : State) (r : Requester) (b : Fin 96) (c : Fin 256), Reached s r (0x201330 + b.val * 0x2000) ∧ c.val < 144 ∧ (((s.dev.loop (b.val * 144 + c.val)).mode ≠ 4 ∨ (s.dev.loop (b.val * 144 + c.val)).good < 1024))) ∧
    (∃ (s : State) (i : Fin 13824) (t : Nat), s.live ∧ (s.dev.loop i).switched = some t) ∧
    (∃ (s : State) (i : Fin 13824), s.live ∧ (s.dev.loop i).switched = none) ∧
    (∃ (s : State) (o : Fin 512), s.live ∧ ((s.dev.loopsRun (64 + o / 16) = false ∨ s.dev.on (FAB_BLK_STATUS_PARKED (64 + o / 16)) = true))) ∧
    (∃ (s : State) (o : Fin 512) (v : Int), s.live ∧ s.dev.loopsRun (64 + o / 16) = true ∧ s.dev.on (FAB_BLK_STATUS_PARKED (64 + o / 16)) = false ∧ (let b := 64 + o.val / 16; (let t := s.dev.groupAt o; (let a := s.dev.atLeastIn [blkReach b] t; (let a := a.setGroup o { a.group o with lastAt := some t }; (let d := a.outSample o v; d.underTest b (probeOut o) = true)))))) ∧
    (∃ (s : State) (o : Fin 512) (v : Int), s.live ∧ s.dev.loopsRun (64 + o / 16) = true ∧ s.dev.on (FAB_BLK_STATUS_PARKED (64 + o / 16)) = false ∧ (let b := 64 + o.val / 16; (let t := s.dev.groupAt o; (let a := s.dev.atLeastIn [blkReach b] t; (let a := a.setGroup o { a.group o with lastAt := some t }; (let d := a.outSample o v; d.underTest b (probeOut o) = false ∧ d.on (CAP_PORT_STATUS_FB_LOST o) = true ∧ d.bondOpen (probeOut o) = true)))))) ∧
    (∃ (s : State) (o : Fin 512) (v : Int), s.live ∧ s.dev.loopsRun (64 + o / 16) = true ∧ s.dev.on (FAB_BLK_STATUS_PARKED (64 + o / 16)) = false ∧ (let b := 64 + o.val / 16; (let t := s.dev.groupAt o; (let a := s.dev.atLeastIn [blkReach b] t; (let a := a.setGroup o { a.group o with lastAt := some t }; (let d := a.outSample o v; (let g := d.group o; d.underTest b (probeOut o) = false ∧ d.on (CAP_PORT_STATUS_FB_LOST o) = false ∧ ((d.bondOpen (probeOut o) = true ∨ (g.probe.take v).run = 64))))))))) ∧
    (∃ (s : State) (o : Fin 512) (v : Int), s.live ∧ s.dev.loopsRun (64 + o / 16) = true ∧ s.dev.on (FAB_BLK_STATUS_PARKED (64 + o / 16)) = false ∧ (let b := 64 + o.val / 16; (let t := s.dev.groupAt o; (let a := s.dev.atLeastIn [blkReach b] t; (let a := a.setGroup o { a.group o with lastAt := some t }; (let d := a.outSample o v; (let g := d.group o; d.underTest b (probeOut o) = false ∧ d.on (CAP_PORT_STATUS_FB_LOST o) = false ∧ d.bondOpen (probeOut o) = false ∧ (g.probe.take v).run ≠ 64 ∧ d.on (FAB_VOA_STATUS_DARK o) = true))))))) ∧
    (∃ (s : State) (o : Fin 512) (v : Int), s.live ∧ s.dev.loopsRun (64 + o / 16) = true ∧ s.dev.on (FAB_BLK_STATUS_PARKED (64 + o / 16)) = false ∧ (let b := 64 + o.val / 16; (let t := s.dev.groupAt o; (let a := s.dev.atLeastIn [blkReach b] t; (let a := a.setGroup o { a.group o with lastAt := some t }; (let d := a.outSample o v; (let g := d.group o; d.underTest b (probeOut o) = false ∧ d.on (CAP_PORT_STATUS_FB_LOST o) = false ∧ d.bondOpen (probeOut o) = false ∧ (g.probe.take v).run ≠ 64 ∧ d.on (FAB_VOA_STATUS_DARK o) = false))))))) ∧
    (∃ (s : State) (r : Requester) (o : Fin 512), Reached s r (0x380048 + o.val * 0x400) ∧ s.dev.on (CAP_PORT_STATUS_FB_LOST o) = true ∧ 1024 ≤ (s.dev.group o).good) ∧
    (∃ (s : State) (r : Requester) (o : Fin 512), Reached s r (0x380048 + o.val * 0x400) ∧ (s.dev.group o).good < 1024) :=
  ⟨⟨running base, 0, rfl, by decide +kernel⟩,
   ⟨(running (((base.sets [(FAB_BLK_STATUS_IN_SERVICE 95, 1)]).setLoop 13823 { loop0 with mode := 0 }).setConv 22 { conv0 with job := some ({ svyReq0 with chan := 3870, cur := 1 }, false, 0) }) : State), 13823, 0, 0, rfl, by decide +kernel⟩,
   ⟨(running ((let d := (base.sets [(FAB_BLK_STATUS_IN_SERVICE 95, 1)]).setLoop 13823 { loop0 with mode := 2 }; { d with cap := { d.cap with open_ := d.cap.open_.put false (probeCell 13823 0) true } } : Dev)) : State), 13823, 0, 0, rfl, by decide +kernel⟩,
   ⟨(running ((base.sets [(FAB_BLK_STATUS_IN_SERVICE 95, 1)]).setLoop 13823 { loop0 with mode := 2, up := { lo := 0, hi := 2, run := 63, last := 2 } }) : State), 13823, 0, 0, rfl, by decide +kernel⟩,
   ⟨(running ((base.sets [(FAB_BLK_STATUS_IN_SERVICE 95, 1)]).setLoop 13823 { loop0 with mode := 2, lp := { lo := 0, hi := 2, run := 62, last := 2 } }) : State), 13823, 0, 0, rfl, by decide +kernel⟩,
   ⟨(running ((base.sets [(FAB_BLK_STATUS_IN_SERVICE 95, 1)]).setLoop 13823 { loop0 with mode := 3 }) : State), 13823, 0, 0, rfl, by decide +kernel⟩,
   ⟨(running ((let d := (base.sets [(FAB_BLK_STATUS_IN_SERVICE 95, 1)]).setLoop 13823 { loop0 with mode := 4 }; { d with cap := { d.cap with open_ := d.cap.open_.put false (probeCell 13823 0) true } } : Dev)) : State), 13823, 0, 0, rfl, by decide +kernel⟩,
   ⟨(running (base.setLoop 13823 { loop0 with mode := 4, good := 1024 }) : State), .fn 0, 95, 143, reached_of (by decide +kernel), by decide +kernel⟩,
   ⟨running base, .fn 0, 95, 144, reached_of (by decide +kernel), by decide +kernel⟩,
   ⟨running base, .fn 0, 0, 0, reached_of (by decide +kernel), by decide +kernel⟩,
   ⟨(running (base.setLoop 13823 { loop0 with switched := some 9 }) : State), 13823, 9, rfl, by decide +kernel⟩,
   ⟨running base, 13823, rfl, by decide +kernel⟩,
   ⟨running base, 0, rfl, by decide +kernel⟩,
   ⟨(running ((base.sets [(FAB_BLK_STATUS_IN_SERVICE 95, 1), (FAB_BLK_STATUS_PARKED 95, 0)]).setConv 22 { conv0 with job := some ({ svyReq0 with chan := 3887, cur := 1 }, false, 0) }) : State), 511, 0, rfl, by decide +kernel⟩,
   ⟨(running ((let d := base.sets [(FAB_BLK_STATUS_IN_SERVICE 95, 1), (FAB_BLK_STATUS_PARKED 95, 0), (CAP_PORT_STATUS_FB_LOST 511, 1)]; { d with cap := { d.cap with open_ := d.cap.open_.put false (probeOut 511) true } } : Dev)) : State), 511, 0, rfl, by decide +kernel⟩,
   ⟨(running ((let d := base.sets [(FAB_BLK_STATUS_IN_SERVICE 95, 1), (FAB_BLK_STATUS_PARKED 95, 0)]; { d with cap := { d.cap with open_ := d.cap.open_.put false (probeOut 511) true } } : Dev)) : State), 511, 0, rfl, by decide +kernel⟩,
   ⟨(running (base.sets [(FAB_BLK_STATUS_IN_SERVICE 95, 1), (FAB_BLK_STATUS_PARKED 95, 0), (FAB_VOA_STATUS_DARK 511, 1)]) : State), 511, 0, rfl, by decide +kernel⟩,
   ⟨(running (base.sets [(FAB_BLK_STATUS_IN_SERVICE 95, 1), (FAB_BLK_STATUS_PARKED 95, 0), (FAB_VOA_STATUS_DARK 511, 0)]) : State), 511, 0, rfl, by decide +kernel⟩,
   ⟨(running ((base.sets [(CAP_PORT_STATUS_FB_LOST 511, 1)]).setGroup 511 { group0 with good := 1024 }) : State), .fn 0, 511, reached_of (by decide +kernel), by decide +kernel⟩,
   ⟨running base, .fn 0, 511, reached_of (by decide +kernel), by decide +kernel⟩⟩

/-- Hypotheses of Obligations.Calibration. -/
theorem witness_Calibration :
    (∃ (s : State) (r : Requester), Reached s r 0xD0000 ∧ ((s.dev.anyInService = true ∨ s.dev.calBusy = true))) ∧
    (∃ (s : State) (r : Requester), Reached s r 0xD0000 ∧ s.dev.anyInService = false ∧ s.dev.calBusy = false) ∧
    (∃ (s : State), s.live ∧ s.dev.on CAL_STATUS_LOAD_BUSY = false) ∧
    (∃ (s : State) (h : HostFile), s.live ∧ s.dev.on CAL_STATUS_LOAD_BUSY = true ∧ (let f := calFile h; (let d := s.dev.setB CAL_STATUS_LOAD_BUSY false; d.calErr f ≠ 0))) ∧
    (∃ (s : State) (h : HostFile), s.live ∧ s.dev.on CAL_STATUS_LOAD_BUSY = true ∧ (let f := calFile h; (let d := s.dev.setB CAL_STATUS_LOAD_BUSY false; d.calErr f = 0 ∧ f.kind = 1))) ∧
    (∃ (s : State) (h : HostFile), s.live ∧ s.dev.on CAL_STATUS_LOAD_BUSY = true ∧ (let f := calFile h; (let d := s.dev.setB CAL_STATUS_LOAD_BUSY false; d.calErr f = 0 ∧ f.kind = 2))) ∧
    (∃ (f : CalFile) (i : Nat) (e : CalFF), f.ff[i]? = some e) ∧
    (∃ (s : State) (r : Requester), Reached s r 0xD0000 ∧ s.dev.get CAL_FILE_LEN < 456016) ∧
    (∃ (s : State) (r : Requester), Reached s r 0xD0000 ∧ 456016 ≤ s.dev.get CAL_FILE_LEN ∧ s.dev.calBusy = true) ∧
    (∃ (s : State) (r : Requester), Reached s r 0xD0000 ∧ 456016 ≤ s.dev.get CAL_FILE_LEN ∧ s.dev.calBusy = false) ∧
    (∃ (s : State) (x : CalDump), s.live ∧ s.dev.cal.dump = some x) ∧
    (∃ (s : State), s.live ∧ s.dev.cal.dump = none) ∧
    (∃ (s : State) (r : Requester), Reached s r 0xD0000 ∧ ((s.dev.on CAL_STATUS_FACTORY = false ∨ s.dev.anyInService = true ∨ s.dev.calBusy = true))) ∧
    (∃ (s : State) (r : Requester), Reached s r 0xD0000 ∧ s.dev.on CAL_STATUS_FACTORY = true ∧ s.dev.anyInService = false ∧ s.dev.calBusy = false) ∧
    (∃ (s : State) (l : List (Int × Nat)), s.live ∧ ((∀ (i : Nat) (x : Int × Nat), l[i]? = some x → adcFits (s.dev.cal.factory.get adc0 i) x = true)) ∧ s.dev.on CAL_STATUS_ADC_BUSY = true ∧ l.length = 792) ∧
    (∃ (s : State) (r : Requester) (i : Nat) (b : Nat), Reached s r 0xD0038 ∧ s.dev.get CAL_ACC_SEL_INDEX = i ∧ (let t := s.dev.get CAL_ACC_SEL_TABLE; i < accEntries t ∧ accUnit t i = some b ∧ s.dev.inService b = false)) ∧
    (∃ (s : State) (r : Requester) (i : Nat) (b : Nat), Reached s r 0xD0038 ∧ s.dev.get CAL_ACC_SEL_INDEX = i ∧ (let t := s.dev.get CAL_ACC_SEL_TABLE; i < accEntries t ∧ accUnit t i = some b ∧ s.dev.inService b = true)) ∧
    (∃ (s : State) (r : Requester), Reached s r 0xD0038 ∧ accEntries (s.dev.get CAL_ACC_SEL_TABLE) ≤ s.dev.get CAL_ACC_SEL_INDEX) ∧
    (∃ (s : State) (r : Requester) (i : Nat), Reached s r 0xD0038 ∧ s.dev.get CAL_ACC_SEL_TABLE = 0 ∧ s.dev.get CAL_ACC_SEL_INDEX = i ∧ 768 ≤ i ∧ i < 792) ∧
    (∃ (s : State) (r : Requester) (n : Fin 12), Reached s r 0xD000C ∧ (List.range 8).any (fun j => s.dev.inService (8 * n + j)) = true ∧ s.dev.reachState n = 0) ∧
    (∃ (s : State) (r : Requester) (n : Fin 12), Reached s r 0xD000C ∧ (List.range 8).any (fun j => s.dev.inService (8 * n + j)) = true ∧ s.dev.reachState n ≠ 0) ∧
    (∃ (s : State) (r : Requester) (n : Fin 12), Reached s r 0xD000C ∧ (List.range 8).any (fun j => s.dev.inService (8 * n + j)) = false) ∧
    (∃ (s : State) (n : Fin 12), s.live ∧ s.dev.reachState n = 1 ∧ s.dev.fab.lamp.owner = some n.val ∧ (s.dev.conv (2 * n)).latched = none ∧ (s.dev.conv (2 * n)).job = none ∧ s.dev.still = false ∧ (s.dev.rch n).isolated = false ∧ (s.dev.rch n).clockLost = false) ∧
    (∃ (s : State) (n : Fin 12), s.live ∧ s.dev.reachState n = 2 ∧ s.dev.fab.lamp.owner = some n.val ∧ s.dev.still = false) ∧
    (∃ (s : State) (n : Fin 12), s.live ∧ ((s.dev.reachState n ≠ 1 ∧ s.dev.reachState n ≠ 2 ∨ s.dev.fab.lamp.owner ≠ some n.val))) ∧
    (∃ (s : State) (n : Fin 12), s.live ∧ s.dev.reachState n = 2) ∧
    (∃ (s : State) (n : Fin 12), s.live ∧ s.dev.reachState n ≠ 2) ∧
    (∃ (s : State) (n : Fin 12), s.live ∧ s.dev.reachState n = 3 ∧ (s.dev.reachRun n).again = false ∧ (s.dev.reachRun n).lost = [] ∧ ((s.dev.reachRun n).entries.map (·.1)).Nodup) ∧
    (∃ (s : State) (n : Fin 12), s.live ∧ s.dev.reachState n ≠ 3) :=
  ⟨⟨(running (base.sets [(FAB_BLK_STATUS_IN_SERVICE 95, 1)]) : State), .fn 0, reached_of (by decide +kernel), by decide +kernel⟩,
   ⟨running base, .fn 0, reached_of (by decide +kernel), by decide +kernel⟩,
   ⟨running base, rfl, by decide +kernel⟩,
   ⟨(running (base.sets [(CAL_STATUS_LOAD_BUSY, 1)]) : State), file0, rfl, by decide +kernel⟩,
   ⟨(running (calTaking 1) : State), calImage 1, rfl, by decide +kernel, cal_accepts 1 (by decide)⟩,
   ⟨(running (calTaking 2) : State), calImage 2, rfl, by decide +kernel, cal_accepts 2 (by decide)⟩,
   ⟨{ calFile0 with ff := [calFF0] }, 0, calFF0, by decide +kernel⟩,
   ⟨running base, .fn 0, reached_of (by decide +kernel), by decide +kernel⟩,
   ⟨(running (base.sets [(CAL_FILE_LEN, 456016), (CAL_STATUS_ADC_BUSY, 1)]) : State), .fn 0, reached_of (by decide +kernel), by decide +kernel⟩,
   ⟨(running (base.sets [(CAL_FILE_LEN, 456016)]) : State), .fn 0, reached_of (by decide +kernel), by decide +kernel⟩,
   ⟨(running ((let d := base; { d with cal := { d.cal with dump := some dump0 } } : Dev)) : State), dump0, rfl, by decide +kernel⟩,
   ⟨running base, rfl, by decide +kernel⟩,
   ⟨running base, .fn 0, reached_of (by decide +kernel), by decide +kernel⟩,
   ⟨(running (base.sets [(CAL_STATUS_FACTORY, 1)]) : State), .fn 0, reached_of (by decide +kernel), by decide +kernel⟩,
   ⟨(running (base.sets [(CAL_STATUS_ADC_BUSY, 1)]) : State), adcResults, rfl, adc_fit, by decide +kernel⟩,
   ⟨running base, .fn 0, 0, 0, reached_of (by decide +kernel), by decide +kernel⟩,
   ⟨(running (base.sets [(CAL_ACC_SEL_TABLE, 3), (CAL_ACC_SEL_INDEX, 95), (FAB_BLK_STATUS_IN_SERVICE 95, 1)]) : State), .fn 0, 95, 95, reached_of (by decide +kernel), by decide +kernel⟩,
   ⟨(running (base.sets [(CAL_ACC_SEL_TABLE, 3), (CAL_ACC_SEL_INDEX, 96)]) : State), .fn 0, reached_of (by decide +kernel), by decide +kernel⟩,
   ⟨(running (base.sets [(CAL_ACC_SEL_TABLE, 0), (CAL_ACC_SEL_INDEX, 768)]) : State), .fn 0, 768, reached_of (by decide +kernel), by decide +kernel⟩,
   ⟨(running (base.sets [(FAB_BLK_STATUS_IN_SERVICE 95, 1)]) : State), .fn 0, 11, reached_of (by decide +kernel), by decide +kernel⟩,
   ⟨(running ((base.sets [(FAB_BLK_STATUS_IN_SERVICE 95, 1)]).putReachState 11 1) : State), .fn 0, 11, reached_of (by decide +kernel), by decide +kernel⟩,
   ⟨running base, .fn 0, 11, reached_of (by decide +kernel), by decide +kernel⟩,
   ⟨(running ((base.putReachState 11 1).setLamp { owner := some 11, queue := [], off := false, shine := .dark, wave := 0 }) : State), 11, rfl, by decide +kernel⟩,
   ⟨(running ((base.putReachState 11 2).setLamp { owner := some 11, queue := [], off := false, shine := .dark, wave := 0 }) : State), 11, rfl, by decide +kernel⟩,
   ⟨running base, 0, rfl, by decide +kernel⟩,
   ⟨(running (base.putReachState 11 2) : State), 11, rfl, by decide +kernel⟩,
   ⟨running base, 11, rfl, by decide +kernel⟩,
   ⟨(running (base.putReachState 11 3) : State), 11, rfl, by decide +kernel⟩,
   ⟨running base, 11, rfl, by decide +kernel⟩⟩

/-- Hypotheses of Obligations.SurveyConversions. -/
theorem witness_SurveyConversions :
    (∃ (s : State) (r : Requester) (c : Fin 24) (w : Nat) (ch : Chan), Reached s r (0xA0100 + c.val * 0x40) ∧ chanOf (c / 2) (bits w 0 13) = some ch ∧ bits w 13 4 ≤ 8 ∧ bits w 18 3 ≤ 4 ∧ ((bits w 18 3 = 0 ∨ ch.isBond = true)) ∧ (let x := s.dev.conv c; s.dev.convOff c = false ∧ x.reqs.length < 16 ∧ s.dev.convBusy c = true ∧ ((x.latched = none ∨ x.cal = false)))) ∧
    (∃ (s : State) (r : Requester) (c : Fin 24) (w : Nat) (ch : Chan), Reached s r (0xA0100 + c.val * 0x40) ∧ chanOf (c / 2) (bits w 0 13) = some ch ∧ bits w 13 4 ≤ 8 ∧ bits w 18 3 ≤ 4 ∧ ((bits w 18 3 = 0 ∨ ch.isBond = true)) ∧ (let x := s.dev.conv c; s.dev.convOff c = false ∧ 16 ≤ x.reqs.length)) ∧
    (∃ (s : State) (r : Requester) (c : Fin 24) (w : Nat) (ch : Chan), Reached s r (0xA0100 + c.val * 0x40) ∧ chanOf (c / 2) (bits w 0 13) = some ch ∧ bits w 13 4 ≤ 8 ∧ bits w 18 3 ≤ 4 ∧ ((bits w 18 3 = 0 ∨ ch.isBond = true)) ∧ s.dev.convOff c = true ∧ (s.dev.rch (c / 2)).isolated = false) ∧
    (∃ (s : State) (r : Requester) (c : Fin 24) (w : Nat), Reached s r (0xA0100 + c.val * 0x40) ∧ ((chanOf (c / 2) (bits w 0 13) = none ∨ 8 < bits w 13 4 ∨ 4 < bits w 18 3))) ∧
    (∃ (s : State) (c : Fin 24) (q : SvyReq) (inj : Bool) (t : Nat), s.live ∧ (s.dev.conv c).job = some (q, inj, t) ∧ q.test = false ∧ q.raw = true) ∧
    (∃ (s : State) (c : Fin 24) (q : SvyReq) (inj : Bool) (t : Nat) (ch : Chan), s.live ∧ (s.dev.conv c).job = some (q, inj, t) ∧ q.test = false ∧ q.raw = false ∧ chanOf (c / 2) q.chan = some ch) ∧
    (∃ (d : Dev) (c : Nat), (d.conv c).results.length < 256 ∧ (d.conv c).lost = false ∧ d.capturing (c / 2) = false) ∧
    (∃ (s : State) (r : Requester) (c : Fin 24) (w : Nat) (l : List Nat), Reached s r (SVY_RES c).off ∧ (s.dev.conv c).results = w :: l) ∧
    (∃ (s : State) (c : Fin 24) (t : Nat), s.live ∧ (s.dev.conv c).next = some t ∧ s.dev.on (SVY_INJ_CFG_TIME_EN c) = true) ∧
    (∃ (s : State) (c : Fin 24), s.live ∧ (s.dev.conv c).next = none) ∧
    (∃ (d : Dev) (c : Nat), (d.conv c).trigAt ≠ some d.tick ∧ d.convOff c = false ∧ d.convBusy c = true ∧ (d.conv c).latched = none) ∧
    (∃ (d : Dev) (c : Nat), (d.conv c).trigAt ≠ some d.tick ∧ d.convOff c = false ∧ d.convBusy c = true ∧ (d.conv c).latched.isSome = true) ∧
    (∃ (s : State) (c : Fin 24) (a : Nat) (b : Nat) (t : Nat) (code : Nat) (l : List Nat) (j : Nat) (k : Nat), s.live ∧ s.dev.stepDue c = some t ∧ (s.dev.conv c).retest = false ∧ (s.dev.conv c).todo = code :: l ∧ s.dev.convOff c = false ∧ s.dev.convBusy c = false ∧ chanOf (c / 2) code = some (.port j k) ∧ (let d := s.dev.atTick t; (let d := d.atTick (d.tick + 4000); d.get SVY_OW_CFG_PROBE_THRESH ≤ (correct (d.adc (768 + c)) a - correct (d.adc (768 + c)) b).natAbs))) ∧
    (∃ (s : State) (c : Fin 24), s.live ∧ s.dev.stepDue c = none) :=
  ⟨⟨(running (base.setConv 23 { conv0 with job := some (svyReq0, false, 0), reqs := List.replicate 15 svyReq0 }) : State), .fn 0, 23, 0x1800, (chanOf 11 0x1800).getD (.ref 0), reached_of (by decide +kernel), by decide +kernel⟩,
   ⟨(running (base.setConv 23 { conv0 with job := some (svyReq0, false, 0), reqs := List.replicate 16 svyReq0 }) : State), .fn 0, 23, 0x1800, .ref 0, reached_of (by decide +kernel), by decide +kernel⟩,
   ⟨(running (base.setConv 23 { conv0 with fault := true }) : State), .fn 0, 23, 0x1800, (chanOf 11 0x1800).getD (.ref 0), reached_of (by decide +kernel), by decide +kernel⟩,
   ⟨running base, .fn 0, 23, 0x1803, reached_of (by decide +kernel), by decide +kernel⟩,
   ⟨(running (base.setConv 23 { conv0 with job := some (svyReq0, false, 0) }) : State), 23, svyReq0, false, 0, rfl, by decide +kernel⟩,
   ⟨(running (base.setConv 23 { conv0 with job := some ({ svyReq0 with raw := false }, false, 5) }) : State), 23, { svyReq0 with raw := false }, false, 5, (chanOf 11 0x1800).getD (.ref 0), rfl, by decide +kernel⟩,
   ⟨base, 23, by decide +kernel⟩,
   ⟨(running (base.setConv 23 { conv0 with results := [7] }) : State), .fn 0, 23, 7, [], reached_of (by decide +kernel), by decide +kernel⟩,
   ⟨(running ((base.sets [(SVY_INJ_CFG_TIME_EN 23, 1)]).setConv 23 { conv0 with next := some 9 }) : State), 23, 9, rfl, by decide +kernel⟩,
   ⟨running base, 23, rfl, by decide +kernel⟩,
   ⟨base.setConv 23 { conv0 with job := some (svyReq0, false, 0) }, 23, by decide +kernel⟩,
   ⟨base.setConv 23 { conv0 with job := some (svyReq0, false, 0), latched := some svyReq0 }, 23, by decide +kernel⟩,
   ⟨(running ((let d := ((base.setConv 0 { conv0 with todo := [288] }).setAdc 768 { adc0 with gain := 32768 }).sets [(SVY_OW_CFG_PROBE_THRESH, 100)]; { d with svy := { d.svy with rounds := d.svy.rounds.put none 0 (some 0) } } : Dev)) : State), 0, 100, 0, 0, 288, [], 0, 0, rfl, by decide +kernel⟩,
   ⟨running base, 23, rfl, by decide +kernel⟩⟩

/-- Hypotheses of Obligations.Recorders. -/
theorem witness_Recorders :
    (∃ (s : State) (r : Requester) (n : Fin 12), Reached s r (0xB1000 + n.val * 0x200) ∧ s.dev.inProgress n = true ∧ (s.dev.rcdr n).stopped = false) ∧
    (∃ (s : State) (r : Requester) (n : Fin 12), Reached s r (0xB1000 + n.val * 0x200) ∧ (s.dev.rcdr n).stopped = true) ∧
    (∃ (s : State) (r : Requester) (n : Fin 12), Reached s r (0xB1000 + n.val * 0x200) ∧ s.dev.inProgress n = false ∧ (s.dev.rcdr n).stopped = false ∧ s.dev.get (REC_CFG_GROUP_EN n) = 0 ∧ s.dev.on (REC_CFG_SPILL n) = false ∧ s.dev.get (REC_POST n) ≤ recWords - s.dev.get (REC_PRE n)) ∧
    (∃ (s : State) (n : Fin 12), s.live ∧ s.dev.on (REC_CTL_ARM_AT n) = true ∧ (s.dev.rcdr n).stopped = false) ∧
    (∃ (s : State) (n : Fin 12), s.live ∧ s.dev.on (REC_CTL_ARM_AT n) = false) ∧
    (∃ (s : State) (r : Requester) (n : Fin 12), Reached s r (0xB1000 + n.val * 0x200) ∧ (s.dev.rcdr n).get (REC_CFG_GROUP_EN n) = 0 ∧ ((s.dev.get (REC_STATUS_STATE n) = 1 ∨ s.dev.get (REC_STATUS_STATE n) = 2))) ∧
    (∃ (s : State) (r : Requester) (n : Fin 12), Reached s r (0xB1000 + n.val * 0x200) ∧ (s.dev.rcdr n).stopped = false ∧ s.dev.get (REC_STATUS_STATE n) = 2 ∧ (s.dev.rcdr n).get (REC_CFG_GROUP_EN n) = 0 ∧ (s.dev.rcdr n).fire = none) ∧
    (∃ (s : State) (r : Requester) (n : Fin 12), Reached s r (0xB1000 + n.val * 0x200) ∧ (s.dev.rcdr n).stopped = false ∧ s.dev.get (REC_STATUS_STATE n) = 1) ∧
    (∃ (s : State) (r : Requester) (n : Fin 12), Reached s r (0xB1014 + n.val * 0x200)) ∧
    (∃ (s : State) (n : Fin 12), s.live ∧ s.dev.get (REC_STATUS_STATE n) = 1 ∧ (s.dev.rcdr n).get (REC_PRE n) ≤ (s.dev.rcdr n).since) ∧
    (∃ (s : State) (n : Fin 12), s.live ∧ (s.dev.rcdr n).since < (s.dev.rcdr n).get (REC_PRE n)) ∧
    (∃ (s : State) (n : Fin 12), s.live ∧ s.dev.get (REC_STATUS_STATE n) = 2 ∧ (s.dev.rcdr n).fired = false ∧ (s.dev.rcdr n).seqAt ≠ some s.dev.tick ∧ (s.dev.rcdr n).stopped = false ∧ (let q := s.dev.get (REC_STATUS_SEQ n); (let holds := fun b => s.dev.condHolds n ((s.dev.rcdr n).get (REC_SEQ_COND n q b)) ((s.dev.rcdr n).get (REC_SEQ_ARG n q b)); holds 0 = true))) ∧
    (∃ (s : State) (n : Fin 12), s.live ∧ s.dev.get (REC_STATUS_STATE n) = 2 ∧ (s.dev.rcdr n).fired = false ∧ (s.dev.rcdr n).seqAt ≠ some s.dev.tick ∧ (s.dev.rcdr n).stopped = false ∧ (let q := s.dev.get (REC_STATUS_SEQ n); (let holds := fun b => s.dev.condHolds n ((s.dev.rcdr n).get (REC_SEQ_COND n q b)) ((s.dev.rcdr n).get (REC_SEQ_ARG n q b)); holds 0 = false ∧ holds 1 = true))) ∧
    (∃ (s : State) (n : Fin 12), s.live ∧ s.dev.get (REC_STATUS_STATE n) = 2 ∧ (s.dev.rcdr n).fired = false ∧ (s.dev.rcdr n).seqAt ≠ some s.dev.tick ∧ (s.dev.rcdr n).stopped = false ∧ (let q := s.dev.get (REC_STATUS_SEQ n); (let holds := fun b => s.dev.condHolds n ((s.dev.rcdr n).get (REC_SEQ_COND n q b)) ((s.dev.rcdr n).get (REC_SEQ_ARG n q b)); holds 0 = false ∧ holds 1 = false))) ∧
    (∃ (s : State) (n : Fin 12) (due : Nat), s.live ∧ (s.dev.rcdr n).tmr0 = some due) ∧
    (∃ (s : State) (n : Fin 12), s.live ∧ (s.dev.rcdr n).tmr0 = none) ∧
    (∃ (s : State) (n : Fin 12) (f : Fire), s.live ∧ (s.dev.rcdr n).fire = some f ∧ s.dev.get (REC_STATUS_STATE n) = 2 ∧ (s.dev.rcdr n).stopped = false) ∧
    (∃ (s : State) (n : Fin 12), s.live ∧ (s.dev.rcdr n).fire = none) ∧
    (∃ (s : State) (n : Fin 12), s.live ∧ s.dev.get (REC_STATUS_STATE n) = 3 ∧ (s.dev.rcdr n).post ≤ (s.dev.rcdr n).done) ∧
    (∃ (s : State) (n : Fin 12), s.live ∧ s.dev.get (REC_STATUS_STATE n) ≠ 3) ∧
    (∃ (s : State) (k : Fin 8) (w : RawFrame) (e : Dev), s.live ∧ GoodFrame s.dev k (readFrame w) 0 true ∧ (let f := readFrame w; f.typ = 5 ∧ (let d := s.dev.consume k f; (let g := bits (f.words.getD 0 0) 8 8; (let a := f.words.getD 2 0 % 2 ^ 32 + f.words.getD 3 0 * 2 ^ 32; (let i := s.dev.inst a; ((bits (f.words.getD 0 0) 0 2 = 1 ∧ e = (d.remoteMembers d.regWritten g).foldl (fun d m => if a = 0 ∨ i ≤ d.nowIn m then d.recArm m else d.setRcdr m { d.rcdr m with armAt := some i }) d ∨ bits (f.words.getD 0 0) 0 2 = 2 ∧ e = (d.remoteMembers d.regInForce g).foldl (fun d m => d.learnFire m { at_ := i, src := 3, module := f.src, reach := 0 }) d ∨ bits (f.words.getD 0 0) 0 2 = 3 ∧ e = (d.remoteMembers d.regInForce g).foldl (fun d m => d.recDisarm m) d)))))))) ∧
    (∃ (s : State) (k : Fin 8) (w : RawFrame) (e : Dev), s.live ∧ Passes s.dev k (readFrame w) 0 true ∧ (let f := readFrame w; f.typ = 5 ∧ (let d := s.dev.consume k f; (let g := bits (f.words.getD 0 0) 8 8; (let a := f.words.getD 2 0 % 2 ^ 32 + f.words.getD 3 0 * 2 ^ 32; (let i := s.dev.inst a; ((bits (f.words.getD 0 0) 0 2 = 1 ∧ e = (d.remoteMembers d.regWritten g).foldl (fun d m => if a = 0 ∨ i ≤ d.nowIn m then d.recArm m else d.setRcdr m { d.rcdr m with armAt := some i }) d ∨ bits (f.words.getD 0 0) 0 2 = 2 ∧ e = (d.remoteMembers d.regInForce g).foldl (fun d m => d.learnFire m { at_ := i, src := 3, module := f.src, reach := 0 }) d ∨ bits (f.words.getD 0 0) 0 2 = 3 ∧ e = (d.remoteMembers d.regInForce g).foldl (fun d m => d.recDisarm m) d)) ∧ f.bcast = true ∧ f.hops = 0)))))) ∧
    (∃ (s : State) (k : Fin 8) (w : RawFrame) (e : Dev), s.live ∧ Passes s.dev k (readFrame w) 0 true ∧ (let f := readFrame w; f.typ = 5 ∧ (let d := s.dev.consume k f; (let g := bits (f.words.getD 0 0) 8 8; (let a := f.words.getD 2 0 % 2 ^ 32 + f.words.getD 3 0 * 2 ^ 32; (let i := s.dev.inst a; ((bits (f.words.getD 0 0) 0 2 = 1 ∧ e = (d.remoteMembers d.regWritten g).foldl (fun d m => if a = 0 ∨ i ≤ d.nowIn m then d.recArm m else d.setRcdr m { d.rcdr m with armAt := some i }) d ∨ bits (f.words.getD 0 0) 0 2 = 2 ∧ e = (d.remoteMembers d.regInForce g).foldl (fun d m => d.learnFire m { at_ := i, src := 3, module := f.src, reach := 0 }) d ∨ bits (f.words.getD 0 0) 0 2 = 3 ∧ e = (d.remoteMembers d.regInForce g).foldl (fun d m => d.recDisarm m) d)) ∧ f.bcast = true ∧ f.hops ≠ 0)))))) ∧
    (∃ (s : State) (g : Fin 256) (m : Nat) (t : Nat), s.live ∧ s.dev.remoteMembers s.dev.regWritten g = [m] ∧ (s.dev.rcdr m).armAt = some t) ∧
    (∃ (s : State) (g : Fin 256), s.live ∧ s.dev.remoteMembers s.dev.regWritten g = []) :=
  ⟨⟨(running (base.sets [(REC_STATUS_STATE 11, 1)]) : State), .fn 0, 11, reached_of (by decide +kernel), by decide +kernel⟩,
   ⟨(running (base.setRcdr 11 { rec0 with stopped := true }) : State), .fn 0, 11, reached_of (by decide +kernel), by decide +kernel⟩,
   ⟨running base, .fn 0, 11, reached_of (by decide +kernel), by decide +kernel⟩,
   ⟨(running (base.sets [(REC_CTL_ARM_AT 11, 1)]) : State), 11, rfl, by decide +kernel⟩,
   ⟨running base, 11, rfl, by decide +kernel⟩,
   ⟨(running (base.sets [(REC_STATUS_STATE 11, 1)]) : State), .fn 0, 11, reached_of (by decide +kernel), by decide +kernel⟩,
   ⟨(running (base.sets [(REC_STATUS_STATE 11, 2)]) : State), .fn 0, 11, reached_of (by decide +kernel), by decide +kernel⟩,
   ⟨(running (base.sets [(REC_STATUS_STATE 11, 1)]) : State), .fn 0, 11, reached_of (by decide +kernel), by decide +kernel⟩,
   ⟨running base, .fn 0, 11, reached_of (by decide +kernel)⟩,
   ⟨(running ((base.sets [(REC_STATUS_STATE 11, 1)]).setRcdr 11 { rec0 with since := 70000 }) : State), 11, rfl, by decide +kernel⟩,
   ⟨(running ((base.sets [(REC_STATUS_STATE 11, 1)]).setRcdr 11 { rec0 with cfg := (Tab.empty).put 0 (REC_PRE 11).key 5 }) : State), 11, rfl, by decide +kernel⟩,
   ⟨(running ((base.sets [(REC_STATUS_STATE 11, 2)]).setRcdr 11 { rec0 with cfg := ((Tab.empty).put 0 (REC_SEQ_COND 11 0 0).key 1).put 0 (REC_SEQ_COND 11 0 1).key 0 }) : State), 11, rfl, by decide +kernel⟩,
   ⟨(running ((base.sets [(REC_STATUS_STATE 11, 2)]).setRcdr 11 { rec0 with cfg := ((Tab.empty).put 0 (REC_SEQ_COND 11 0 0).key 0).put 0 (REC_SEQ_COND 11 0 1).key 1 }) : State), 11, rfl, by decide +kernel⟩,
   ⟨(running ((base.sets [(REC_STATUS_STATE 11, 2)]).setRcdr 11 { rec0 with cfg := ((Tab.empty).put 0 (REC_SEQ_COND 11 0 0).key 0).put 0 (REC_SEQ_COND 11 0 1).key 0 }) : State), 11, rfl, by decide +kernel⟩,
   ⟨(running (base.setRcdr 11 { rec0 with tmr0 := some 9 }) : State), 11, 9, rfl, by decide +kernel⟩,
   ⟨running base, 11, rfl, by decide +kernel⟩,
   ⟨(running ((base.sets [(REC_STATUS_STATE 11, 2)]).setRcdr 11 { rec0 with fire := some ⟨9, 0, 0, 0⟩ }) : State), 11, ⟨9, 0, 0, 0⟩, rfl, by decide +kernel⟩,
   ⟨running base, 11, rfl, by decide +kernel⟩,
   ⟨(running (base.sets [(REC_STATUS_STATE 11, 3)]) : State), 11, rfl, by decide +kernel⟩,
   ⟨running base, 11, rfl, by decide +kernel⟩,
   ⟨(running (base.sets [(FRY_PORT_STATUS_STATE 7, 2)]) : State), 7, rawOf (frameOf 5 0 64 [3]), disarmed (running (base.sets [(FRY_PORT_STATUS_STATE 7, 2)])) 7 (readFrame (rawOf (frameOf 5 0 64 [3]))), rfl, good_frame 64 (by decide +kernel), ⟨by decide +kernel, .inr (.inr ⟨by decide +kernel, rfl⟩)⟩⟩,
   ⟨(running (base.sets [(FRY_PORT_STATUS_STATE 7, 2)]) : State), 7, rawOf ({ frameOf 5 0 64 [3] with bcast := true }), disarmed (running (base.sets [(FRY_PORT_STATUS_STATE 7, 2)])) 7 (readFrame (rawOf ({ frameOf 5 0 64 [3] with bcast := true }))), rfl, passes 64 (by decide +kernel), ⟨by decide +kernel, .inr (.inr ⟨by decide +kernel, rfl⟩), by decide +kernel⟩⟩,
   ⟨(running (base.sets [(FRY_PORT_STATUS_STATE 7, 2)]) : State), 7, rawOf ({ frameOf 5 0 64 [3] with bcast := true, hops := 1 }), disarmed (running (base.sets [(FRY_PORT_STATUS_STATE 7, 2)])) 7 (readFrame (rawOf ({ frameOf 5 0 64 [3] with bcast := true, hops := 1 }))), rfl, passes 64 (by decide +kernel), ⟨by decide +kernel, .inr (.inr ⟨by decide +kernel, rfl⟩), by decide +kernel⟩⟩,
   ⟨(running ((base.sets [(REC_CFG_GROUP_EN 11, 1), (REC_CFG_REMOTE 11, 1), (REC_CFG_GROUP 11, 255)]).setRcdr 11 { rec0 with armAt := some 9 }) : State), 255, 11, 9, rfl, by decide +kernel⟩,
   ⟨running base, 255, rfl, by decide +kernel⟩⟩

/-- Hypotheses of Obligations.LinkTests. -/
theorem witness_LinkTests :
    (∃ (s : State) (r : Requester) (l : Fin 16), Reached s r (0xE1100 + l.val * 0x20)) ∧
    (∃ (s : State) (r : Requester) (l : Fin 16) (n : Nat), Reached s r (0xE1100 + l.val * 0x20) ∧ n % 256 ≠ 0 ∧ s.dev.on (TST_FL_CTL_GEN_EN l) = true) ∧
    (∃ (s : State) (r : Requester) (l : Fin 16) (n : Nat), Reached s r (0xE1100 + l.val * 0x20) ∧ n % 256 ≠ 0 ∧ s.dev.on (TST_FL_CTL_GEN_EN l) = false) ∧
    (∃ (s : State) (r : Requester) (l : Fin 16) (n : Nat), Reached s r (0xE1100 + l.val * 0x20) ∧ n % 256 = 0) ∧
    (∃ (s : State) (r : Requester) (p : Fin 18) (n : Nat), Reached s r (0xE1400 + p.val * 0x20) ∧ (let l := 2 * p.val + (if s.dev.on (TST_BB_CTL_INJ_DIR p) then 0 else 1); 0 < n ∧ n < 4 ∧ s.dev.on (TST_BB_CTL_EN p) = false ∧ (s.dev.link l).failed = false)) ∧
    (∃ (s : State) (r : Requester) (p : Fin 18) (n : Nat), Reached s r (0xE1400 + p.val * 0x20) ∧ (let l := 2 * p.val + (if s.dev.on (TST_BB_CTL_INJ_DIR p) then 0 else 1); ((n = 0 ∨ 3 < n ∨ s.dev.on (TST_BB_CTL_EN p) = true ∨ (s.dev.link l).failed = true)))) ∧
    (∃ (s : State) (r : Requester) (p : Fin 18), Reached s r (0xE1400 + p.val * 0x20)) ∧
    (∃ (s : State) (l : Fin 16) (k : Fin 34), s.live ∧ k.val = l.val ∧ s.dev.on (TST_FL_CTL_CHK_EN l) = false) ∧
    (∃ (s : State) (l : Fin 16) (k : Fin 34), s.live ∧ k.val = l.val ∧ s.dev.on (TST_FL_CTL_CHK_EN l) = true) ∧
    (∃ (s : State) (p : Fin 18) (k : Fin 34), s.live ∧ k.val = 16 + p.val ∧ s.dev.on (TST_BB_CTL_EN p) = false) ∧
    (∃ (s : State) (p : Fin 18) (k : Fin 34), s.live ∧ k.val = 16 + p.val ∧ s.dev.on (TST_BB_CTL_EN p) = true) ∧
    (∃ (x : Check), x.locked = false) ∧
    (∃ (pat : Nat) (x : Check) (b : Bool), x.locked = true ∧ (x.take pat b).locked = false) ∧
    (∃ (s : State) (r : Requester), Reached s r 0xE1800 ∧ s.dev.on TST_GW_STATUS_BUSY = true) ∧
    (∃ (s : State) (r : Requester), Reached s r 0xE1800 ∧ s.dev.on TST_GW_STATUS_BUSY = false ∧ ((s.dev.get TST_GW_CTL_KIND = 0 ∨ (bitList (s.dev.get TST_GW_CTL_BLOCKS) 8).any (fun k => s.dev.inService (8 * s.dev.get TST_GW_CTL_REACH + k)) = true))) ∧
    (∃ (s : State) (r : Requester), Reached s r 0xE1800 ∧ s.dev.on TST_GW_STATUS_BUSY = false ∧ s.dev.get TST_GW_CTL_KIND ≠ 0 ∧ s.dev.get TST_GW_CTL_REACH < 12 ∧ (bitList (s.dev.get TST_GW_CTL_BLOCKS) 8).any (fun k => s.dev.inService (8 * s.dev.get TST_GW_CTL_REACH + k)) = false) ∧
    (∃ (s : State), s.live ∧ s.dev.svy.gwOn = none) ∧
    (∃ (s : State) (n : Nat), s.live ∧ ((∀ c, c = 2 * n ∨ c = 2 * n + 1 → (s.dev.gw c).todo = [] ∧ (s.dev.gw c).prog = [])) ∧ s.dev.svy.gwOn = some (n, true) ∧ s.dev.convOff (2 * n) = false ∧ s.dev.convOff (2 * n + 1) = false) ∧
    (∃ (s : State) (n : Nat) (b : Bool), s.live ∧ s.dev.svy.gwOn = some (n, b) ∧ ((s.dev.convOff (2 * n) = true ∨ s.dev.convOff (2 * n + 1) = true))) ∧
    (∃ (s : State) (r : Requester) (v : Nat), Reached s r 0xE1A00 ∧ v % 4 ≠ s.dev.get TST_HLD_CTL_MODE ∧ s.dev.on HLD_CTL_EN = true) ∧
    (∃ (s : State) (r : Requester) (v : Nat), Reached s r 0xE1A00 ∧ v % 4 ≠ s.dev.get TST_HLD_CTL_MODE ∧ s.dev.on HLD_CTL_EN = false ∧ v % 4 ≠ 0) ∧
    (∃ (s : State) (r : Requester) (v : Nat), Reached s r 0xE1A00 ∧ v % 4 ≠ s.dev.get TST_HLD_CTL_MODE ∧ s.dev.on HLD_CTL_EN = false ∧ v % 4 = 0) :=
  ⟨⟨running base, .fn 0, 0, reached_of (by decide +kernel)⟩,
   ⟨(running (base.sets [(TST_FL_CTL_GEN_EN 15, 1)]) : State), .fn 0, 15, 1, reached_of (by decide +kernel), by decide +kernel⟩,
   ⟨running base, .fn 0, 15, 1, reached_of (by decide +kernel), by decide +kernel⟩,
   ⟨running base, .fn 0, 15, 256, reached_of (by decide +kernel), by decide +kernel⟩,
   ⟨running base, .fn 0, 17, 3, reached_of (by decide +kernel), by decide +kernel⟩,
   ⟨running base, .fn 0, 0, 0, reached_of (by decide +kernel), by decide +kernel⟩,
   ⟨running base, .fn 0, 0, reached_of (by decide +kernel)⟩,
   ⟨running base, 0, 0, rfl, by decide +kernel⟩,
   ⟨(running (base.sets [(TST_FL_CTL_CHK_EN 15, 1)]) : State), 15, 15, rfl, by decide +kernel⟩,
   ⟨running base, 17, 33, rfl, by decide +kernel⟩,
   ⟨(running (base.sets [(TST_BB_CTL_EN 17, 1)]) : State), 17, 33, rfl, by decide +kernel⟩,
   ⟨check0, by decide +kernel⟩,
   ⟨0, { check0 with locked := true, chk := { chk0 with win := 2 ^ 31 - 1 } }, true, by decide +kernel⟩,
   ⟨(running (base.sets [(TST_GW_STATUS_BUSY, 1)]) : State), .fn 0, reached_of (by decide +kernel), by decide +kernel⟩,
   ⟨(running (base.sets [(TST_GW_CTL_KIND, 0)]) : State), .fn 0, reached_of (by decide +kernel), by decide +kernel⟩,
   ⟨(running (base.sets [(TST_GW_CTL_KIND, 1), (TST_GW_CTL_REACH, 11)]) : State), .fn 0, reached_of (by decide +kernel), by decide +kernel⟩,
   ⟨running base, rfl, by decide +kernel⟩,
   ⟨(running ((let d := base; { d with svy := { d.svy with gwOn := some (11, true) } } : Dev)) : State), 11, rfl, gw_idle, by decide +kernel⟩,
   ⟨(running ((let d := base.setConv 22 { conv0 with fault := true }; { d with svy := { d.svy with gwOn := some (11, true) } } : Dev)) : State), 11, true, rfl, by decide +kernel⟩,
   ⟨(running (base.sets [(HLD_CTL_EN, 1)]) : State), .fn 0, 1, reached_of (by decide +kernel), by decide +kernel⟩,
   ⟨(running (base.sets [(HLD_CTL_EN, 0)]) : State), .fn 0, 3, reached_of (by decide +kernel), by decide +kernel⟩,
   ⟨(running (base.sets [(HLD_CTL_EN, 0), (TST_HLD_CTL_MODE, 1)]) : State), .fn 0, 4, reached_of (by decide +kernel), by decide +kernel⟩⟩

/-- Hypotheses of Obligations.MemoryReadWrite. -/
theorem witness_MemoryReadWrite :
    ∃ (m : Memory), m.wf = true :=
  ⟨State.reset.mem, by decide +kernel⟩

/-- Hypotheses of Obligations.HoldPort. -/
theorem witness_HoldPort :
    (∃ (s : State) (cap : Nat), s.live ∧ s.dev.hld.off = false ∧ s.dev.hld.lost = false ∧ s.dev.srdsOut = false ∧ s.dev.on HLD_CTL_EN = true ∧ s.dev.get HLD_STATUS_STATE ≠ 2 ∧ 64 ≤ cap ∧ cap ≤ 1024) ∧
    (∃ (s : State), s.live ∧ s.dev.hld.off = false ∧ s.dev.srdsOut = false ∧ s.dev.on HLD_CTL_EN = true ∧ s.dev.get HLD_STATUS_STATE ≠ 2) ∧
    (∃ (s : State) (r : Requester), Reached s r 0x88000) ∧
    (∃ (s : State), s.live ∧ s.dev.holdUp = true) ∧
    (∃ (d : Dev) (i : Nat), d.holdUp = true ∧ (d.cell i).pend ≠ 0) ∧
    (∃ (s : State), s.live ∧ s.dev.holdUp = false) ∧
    (∃ (s : State) (r : Requester), Reached s r 0x88000 ∧ s.dev.on HLD_CTL_EN = true ∧ s.dev.spillArmed = false ∧ ((∀ n < 1024, s.dev.get (TID_TBL_STATUS_STATE n) = 0)) ∧ ((∀ c < 64, s.dev.dmaInHold c = false))) ∧
    (∃ (s : State) (r : Requester), Reached s r 0x88000 ∧ ((∃ n < 1024, s.dev.get (TID_TBL_STATUS_STATE n) ≠ 0)) ∧ s.dev.on HLD_CTL_EN = true ∧ s.dev.spillArmed = false) ∧
    (∃ (s : State) (r : Requester), Reached s r 0x88000 ∧ s.dev.on HLD_CTL_EN = false ∧ (let h := s.dev.get HLD_HIST_CFG_MIB; (let b := hostBase h (s.dev.get HLD_SPILL_CFG) (s.dev.get HLD_TABLE_CFG); s.dev.get HLD_CAPACITY < b))) ∧
    (∃ (s : State) (r : Requester), Reached s r 0x88000 ∧ s.dev.on HLD_CTL_EN = false ∧ (let h := s.dev.get HLD_HIST_CFG_MIB; (let b := hostBase h (s.dev.get HLD_SPILL_CFG) (s.dev.get HLD_TABLE_CFG); b ≤ s.dev.get HLD_CAPACITY ∧ b < 2 ^ 41))) ∧
    (∃ (s : State), s.live ∧ s.dev.get HLD_STATUS_STATE = 2 ∧ ((∀ n < 1024, s.dev.get (TID_TBL_STATUS_STATE n) = 0)) ∧ ((∀ c < 64, s.dev.dmaInHold c = false)) ∧ ((∀ n < 12, s.dev.inProgress n = false))) ∧
    (∃ (s : State), s.live ∧ s.dev.get HLD_STATUS_STATE ≠ 2) ∧
    (∃ (s : State) (i : Fin 13824), s.live ∧ s.dev.holdUp = true ∧ (s.dev.cell i).poison < 2) ∧
    (∃ (s : State), s.live ∧ s.dev.holdUp = false) :=
  ⟨⟨(running (base.sets [(HLD_CTL_EN, 1)]) : State), 1024, rfl, by decide +kernel⟩,
   ⟨(running (base.sets [(HLD_CTL_EN, 1)]) : State), rfl, by decide +kernel⟩,
   ⟨running base, .fn 0, reached_of (by decide +kernel)⟩,
   ⟨(running (base.sets [(HLD_STATUS_STATE, 2), (HLD_CTL_EN, 1)]) : State), rfl, by decide +kernel⟩,
   ⟨(base.sets [(HLD_STATUS_STATE, 2), (HLD_CTL_EN, 1)]).setCell 13823 { cell0 13823 with pend := 1 }, 13823, by decide +kernel⟩,
   ⟨running base, rfl, by decide +kernel⟩,
   ⟨(running (base.sets [(HLD_CTL_EN, 1)]) : State), .fn 0, reached_of (by decide +kernel), by decide +kernel⟩,
   ⟨(running (base.sets [(HLD_CTL_EN, 1), (TID_TBL_STATUS_STATE 1023, 3)]) : State), .fn 0, reached_of (by decide +kernel), ⟨1023, by decide +kernel⟩, by decide +kernel⟩,
   ⟨(running (base.sets [(HLD_CTL_EN, 0), (HLD_HIST_CFG_MIB, 1)]) : State), .fn 0, reached_of (by decide +kernel), by decide +kernel⟩,
   ⟨(running (base.sets [(HLD_CTL_EN, 0), (HLD_CAPACITY, 2 ^ 40)]) : State), .fn 0, reached_of (by decide +kernel), by decide +kernel⟩,
   ⟨(running (base.sets [(HLD_STATUS_STATE, 2), (HLD_CTL_EN, 1)]) : State), rfl, by decide +kernel⟩,
   ⟨running base, rfl, by decide +kernel⟩,
   ⟨(running (base.sets [(HLD_STATUS_STATE, 2), (HLD_CTL_EN, 1)]) : State), 13823, rfl, by decide +kernel⟩,
   ⟨running base, rfl, by decide +kernel⟩⟩

/-- Hypotheses of Obligations.DmaChannels. -/
theorem witness_DmaChannels :
    (∃ (s : State) (r : Requester) (c : Fin 64), Reached s r (0x80114 + c.val * 0x40) ∧ s.dev.dmaCompat = false ∧ s.dev.get (DMA_STATUS_STATE c) = 2 ∧ s.dev.dmaErr c = 0 ∧ s.dev.get (DMA_CTL_SRC_SPACE c) ≠ 0) ∧
    (∃ (s : State) (r : Requester) (c : Fin 64), Reached s r (0x80114 + c.val * 0x40) ∧ s.dev.dmaCompat = false ∧ s.dev.get (DMA_STATUS_STATE c) = 2 ∧ s.dev.dmaErr c ≠ 0) ∧
    (∃ (s : State) (r : Requester) (c : Fin 64), Reached s r (0x80114 + c.val * 0x40) ∧ s.dev.dmaCompat = false ∧ s.dev.get (DMA_STATUS_STATE c) = 2 ∧ s.dev.dmaErr c = 0 ∧ s.dev.get (DMA_CTL_SRC_SPACE c) = 0 ∧ s.dev.on (DMA_CTL_SRC_COH c) = false) ∧
    (∃ (s : State) (r : Requester) (c : Fin 64), Reached s r (0x80114 + c.val * 0x40) ∧ s.dev.dmaCompat = false ∧ s.dev.get (DMA_STATUS_STATE c) = 2 ∧ (let d := ((s.dev.unlatch r).sets [(DMA_STATUS_DONE c, 0), (DMA_STATUS_ERR c, 0)]).set (DMA_REMAIN c) (s.dev.get (DMA_CNT c)); s.dev.dmaErr c = 0 ∧ s.dev.get (DMA_CTL_SRC_SPACE c) = 0 ∧ s.dev.on (DMA_CTL_SRC_COH c) = true ∧ (let a := s.dev.get (DMA_SRC c) / 64 * 64; (let x := d.cohRead 0 a (ceilMul (s.dev.get (DMA_SRC c) + s.dev.get (DMA_CNT c)) 64 - a); x.2 = true)))) ∧
    (∃ (s : State) (r : Requester) (c : Fin 64), Reached s r (0x80114 + c.val * 0x40) ∧ s.dev.dmaCompat = false ∧ s.dev.get (DMA_STATUS_STATE c) = 2 ∧ (let d := ((s.dev.unlatch r).sets [(DMA_STATUS_DONE c, 0), (DMA_STATUS_ERR c, 0)]).set (DMA_REMAIN c) (s.dev.get (DMA_CNT c)); s.dev.dmaErr c = 0 ∧ s.dev.get (DMA_CTL_SRC_SPACE c) = 0 ∧ s.dev.on (DMA_CTL_SRC_COH c) = true ∧ (let a := s.dev.get (DMA_SRC c) / 64 * 64; (let x := d.cohRead 0 a (ceilMul (s.dev.get (DMA_SRC c) + s.dev.get (DMA_CNT c)) 64 - a); x.2 = false)))) ∧
    (∃ (s : State) (r : Requester) (c : Fin 64), Reached s r (0x80114 + c.val * 0x40) ∧ s.dev.dmaCompat = false ∧ s.dev.get (DMA_STATUS_STATE c) ≠ 2) ∧
    (∃ (s : State) (r : Requester) (c : Fin 64), Reached s r (0x80114 + c.val * 0x40) ∧ s.dev.dmaCompat = true) ∧
    (∃ (s : State) (r : Requester) (c : Fin 64), Reached s r (0x80134 + c.val * 0x40) ∧ s.dev.dmaCompat = true ∧ s.dev.on (DMA_SH_CTL_ARM c) = true) ∧
    (∃ (s : State) (r : Requester) (c : Fin 64), Reached s r (0x80134 + c.val * 0x40) ∧ s.dev.dmaCompat = true ∧ s.dev.on (DMA_SH_CTL_ARM c) = false ∧ s.dev.get (DMA_STATUS_STATE c) = 3) ∧
    (∃ (s : State) (r : Requester) (c : Fin 64), Reached s r (0x80134 + c.val * 0x40) ∧ s.dev.dmaCompat = true ∧ s.dev.on (DMA_SH_CTL_ARM c) = false ∧ s.dev.get (DMA_STATUS_STATE c) = 2) ∧
    (∃ (s : State) (r : Requester) (c : Fin 64), Reached s r (0x80134 + c.val * 0x40) ∧ s.dev.dmaCompat = true ∧ s.dev.on (DMA_SH_CTL_ARM c) = false ∧ s.dev.get (DMA_STATUS_STATE c) ≠ 2 ∧ s.dev.get (DMA_STATUS_STATE c) ≠ 3) ∧
    (∃ (s : State) (r : Requester) (c : Fin 64), Reached s r (0x80134 + c.val * 0x40) ∧ s.dev.dmaCompat = false) ∧
    (∃ (s : State) (r : Requester) (c : Fin 64), Reached s r (0x80114 + c.val * 0x40) ∧ s.dev.get (DMA_STATUS_STATE c) = 2 ∧ s.dev.on (DMA_SH_CTL_ARM c) = false) ∧
    (∃ (s : State) (r : Requester) (c : Fin 64), Reached s r (0x80114 + c.val * 0x40) ∧ s.dev.get (DMA_STATUS_STATE c) = 3 ∧ s.dev.on (DMA_SH_CTL_ARM c) = false) ∧
    (∃ (s : State) (r : Requester) (c : Fin 64) (b : Fin 64), Reached s r (0x80114 + c.val * 0x40) ∧ s.dev.get (DMA_STATUS_STATE c) = 0 ∧ ((s.dev.get (DMA_STATUS_STATE b) ≠ 0 ∨ s.dev.man.waiting.cells = []))) ∧
    (∃ (s : State) (c : Fin 64), s.live ∧ s.dev.get (DMA_STATUS_STATE c) = 1) ∧
    (∃ (s : State) (c : Fin 64), s.live ∧ s.dev.get (DMA_STATUS_STATE c) ≠ 1) ∧
    (∃ (s : State) (c : Fin 64), s.live ∧ s.dev.get (DMA_STATUS_STATE c) = 3 ∧ s.dev.get (DMA_CTL_SRC_SPACE c) = 0 ∧ s.dev.get (DMA_CTL_DST_SPACE c) = 1 ∧ s.dev.on (DMA_SH_CTL_ARM c) = false) ∧
    (∃ (s : State) (c : Fin 64), s.live ∧ s.dev.get (DMA_STATUS_STATE c) ≠ 3) :=
  ⟨⟨(running (base.sets [(DMA_STATUS_STATE 63, 2), (DMA_CTL_SRC_SPACE 63, 1), (DMA_CNT 63, 64), (HLD_STATUS_STATE, 2), (HLD_CTL_EN, 1), (HLD_HOST_BASE, 0), (HLD_CAPACITY, 2 ^ 30), (DMA_CTL_DST_SPACE 63, 0)]) : State), .fn 0, 63, reached_of (by decide +kernel), by decide +kernel⟩,
   ⟨(running (base.sets [(DMA_STATUS_STATE 63, 2), (DMA_CNT 63, 0)]) : State), .fn 0, 63, reached_of (by decide +kernel), by decide +kernel⟩,
   ⟨(running (base.sets [(DMA_STATUS_STATE 63, 2), (DMA_CTL_SRC_SPACE 63, 0), (DMA_CNT 63, 64), (DMA_CTL_DST_SPACE 63, 0)]) : State), .fn 0, 63, reached_of (by decide +kernel), by decide +kernel⟩,
   ⟨(running (base.sets [(DMA_STATUS_STATE 63, 2), (DMA_CTL_SRC_SPACE 63, 0), (DMA_CNT 63, 64), (DMA_CTL_DST_SPACE 63, 0), (DMA_CTL_SRC_COH 63, 1), (HST_WIN_CTL_EN 0, 1), (HST_WIN_SIZE 0, 1)]) : State), .fn 0, 63, reached_of (by decide +kernel), by decide +kernel⟩,
   ⟨(running (base.sets [(DMA_STATUS_STATE 63, 2), (DMA_CTL_SRC_SPACE 63, 0), (DMA_CNT 63, 64), (DMA_CTL_DST_SPACE 63, 0), (DMA_CTL_SRC_COH 63, 1)]) : State), .fn 0, 63, reached_of (by decide +kernel), by decide +kernel⟩,
   ⟨(running (base.sets [(DMA_STATUS_STATE 63, 3)]) : State), .fn 0, 63, reached_of (by decide +kernel), by decide +kernel⟩,
   ⟨(running (base.putForce (manKey 1 0 14) 1) : State), .fn 0, 63, reached_of (by decide +kernel), by decide +kernel⟩,
   ⟨(running ((base.sets [(DMA_SH_CTL_ARM 63, 1)]).putForce (manKey 1 0 14) 1) : State), .fn 0, 63, reached_of (by decide +kernel), by decide +kernel⟩,
   ⟨(running ((base.putForce (manKey 1 0 14) 1).sets [(DMA_STATUS_STATE 63, 3)]) : State), .fn 0, 63, reached_of (by decide +kernel), by decide +kernel⟩,
   ⟨(running ((base.putForce (manKey 1 0 14) 1).sets [(DMA_STATUS_STATE 63, 2)]) : State), .fn 0, 63, reached_of (by decide +kernel), by decide +kernel⟩,
   ⟨(running (base.putForce (manKey 1 0 14) 1) : State), .fn 0, 63, reached_of (by decide +kernel), by decide +kernel⟩,
   ⟨running base, .fn 0, 63, reached_of (by decide +kernel), by decide +kernel⟩,
   ⟨(running (base.sets [(DMA_STATUS_STATE 63, 2)]) : State), .fn 0, 63, reached_of (by decide +kernel), by decide +kernel⟩,
   ⟨(running (base.sets [(DMA_STATUS_STATE 63, 3)]) : State), .fn 0, 63, reached_of (by decide +kernel), by decide +kernel⟩,
   ⟨running base, .fn 0, 0, 0, reached_of (by decide +kernel), by decide +kernel⟩,
   ⟨(running (base.sets [(DMA_STATUS_STATE 63, 1)]) : State), 63, rfl, by decide +kernel⟩,
   ⟨(running (base.sets [(DMA_STATUS_STATE 63, 2)]) : State), 63, rfl, by decide +kernel⟩,
   ⟨(running (base.sets [(DMA_STATUS_STATE 63, 3), (DMA_CTL_SRC_SPACE 63, 0), (DMA_CTL_DST_SPACE 63, 1)]) : State), 63, rfl, by decide +kernel⟩,
   ⟨(running (base.sets [(DMA_STATUS_STATE 63, 2)]) : State), 63, rfl, by decide +kernel⟩⟩

/-- Hypotheses of Obligations.InternalMatrix. -/
theorem witness_InternalMatrix :
    (∃ (s : State) (r : Requester) (a : Nat) (w : Option Nat), s.answers ∧ inSpace r a = true ∧ s.dev.mtxSilent (masterOf r) = false ∧ s.dev.mtxRoom (masterOf r) w.isSome = true ∧ targetOf r a = 31 ∧ bit (s.dev.manA 13 7 0) (masterOf r) = false) ∧
    (∃ (s : State) (r : Requester) (a : Nat) (w : Option Nat), s.answers ∧ inSpace r a = true ∧ s.dev.mtxSilent (masterOf r) = false ∧ s.dev.mtxRoom (masterOf r) w.isSome = true ∧ targetOf r a = 31 ∧ bit (s.dev.manA 13 7 0) (masterOf r) = true) ∧
    (∃ (s : State) (r : Requester) (a : Nat) (w : Option Nat), s.answers ∧ inSpace r a = true ∧ s.dev.mtxSilent (masterOf r) = false ∧ s.dev.mtxRoom (masterOf r) w.isSome = true ∧ targetOf r a ≠ 31 ∧ s.dev.mtx.waits = []) ∧
    (∃ (d : Dev) (t : Nat), d.mtx.waits.any (fun q => targetOf q.req q.addr == t) = false) ∧
    (∃ (t : Nat), t < 20) ∧
    (∃ (d : Dev) (k : Fin 10) (x : Nat), 2 ≤ k.val ∧ k.val ≤ 5 ∧ x % 4 = 0 ∧ d.pairFailed 16 = false ∧ d.holdUp = true ∧ x + 4 ≤ d.get HLD_CAPACITY ∧ 0x100000 ≤ x ∧ x < 0x10000000000 ∧ ((∀ i < 4, d.spillAt (x + i) = none))) ∧
    (∃ (s : State) (r : Requester) (a : Nat) (w : Option Nat), s.answers ∧ inSpace r a = true ∧ s.dev.mtxSilent (masterOf r) = false ∧ s.dev.mtxRoom (masterOf r) w.isSome = false) ∧
    (∃ (s : State) (t : Fin 20) (k : Fin 10) (q : MtxReq), s.live ∧ s.dev.mtx.waits = [q] ∧ targetOf q.req q.addr = t.val ∧ masterOf q.req = k.val ∧ q.aged = false) ∧
    (∃ (s : State), s.live ∧ s.dev.mtx.waits = []) ∧
    (∃ (s : State) (r : Requester) (k : Fin 10) (q : MtxReq), Reached s r 0x90004 ∧ s.dev.mtx.hung = [q] ∧ masterOf q.req = k.val ∧ q.told = false) ∧
    (∃ (s : State) (r : Requester), Reached s r 0x90004) ∧
    (∃ (s : State) (k : Fin 10), s.live ∧ ((k.val < 2 ∨ k.val = 6 ∨ k.val = 8))) ∧
    (∃ (s : State) (k : Fin 10), s.live ∧ 2 ≤ k.val ∧ k.val ≤ 5) ∧
    (∃ (i : Nat), i < 99) :=
  ⟨⟨running base, .master 9, 0x5000000, none, ⟨rfl, rfl⟩, by decide +kernel⟩,
   ⟨(running (base.putForce (manKey 13 7 0) 512) : State), .master 9, 0x5000000, none, answers_of (by decide +kernel), by decide +kernel⟩,
   ⟨running base, .master 9, 0x60000, none, ⟨rfl, rfl⟩, by decide +kernel⟩,
   ⟨base, 0, by decide +kernel⟩,
   ⟨0, by decide +kernel⟩,
   ⟨base.sets [(HLD_STATUS_STATE, 2), (HLD_CTL_EN, 1), (HLD_CAPACITY, 0x200000)], 5, 0x100000, by decide +kernel⟩,
   ⟨(running ((let d := base; { d with mtx := { d.mtx with waits := List.replicate 64 ({ mtxReq0 with req := .master 9, addr := 0x60000 }) } } : Dev)) : State), .master 9, 0x60000, none, ⟨rfl, rfl⟩, by decide +kernel⟩,
   ⟨(running ((let d := base; { d with mtx := { d.mtx with waits := [{ mtxReq0 with req := .master 9, addr := 0x60000 }] } } : Dev)) : State), 17, 9, { mtxReq0 with req := .master 9, addr := 0x60000 }, rfl, by decide +kernel⟩,
   ⟨running base, rfl, by decide +kernel⟩,
   ⟨(running ((let d := base; { d with mtx := { d.mtx with hung := [{ mtxReq0 with req := .master 9, addr := 0x5000000 }] } } : Dev)) : State), .fn 0, 9, { mtxReq0 with req := .master 9, addr := 0x5000000 }, reached_of (by decide +kernel), by decide +kernel⟩,
   ⟨running base, .fn 0, reached_of (by decide +kernel)⟩,
   ⟨running base, 8, rfl, by decide +kernel⟩,
   ⟨running base, 5, rfl, by decide +kernel⟩,
   ⟨0, by decide +kernel⟩⟩

/-- Hypotheses of Obligations.FaultRaised. -/
theorem witness_FaultRaised :
    (∃ (d : Dev) (c : Nat) (row : ClassRow), classRow c = some row ∧ row.act = .none ∧ (d.occ c).level = 0 ∧ d.levelOf c = 0) ∧
    (∃ (d : Dev) (c : Nat) (row : ClassRow) (x : Nat), classRow c = some row ∧ row.act = .none ∧ (d.occ c).level = 0 ∧ (d.levelOf c = 1 ∨ d.levelOf c = 2) ∧ x ≠ c) ∧
    (∃ (d : Dev) (c : Nat) (row : ClassRow), classRow c = some row ∧ row.act = .none ∧ (d.occ c).level = 0 ∧ (d.levelOf c = 3 ∨ d.levelOf c = 4) ∧ d.safe = false ∧ d.rst.phase ≠ 1 ∧ ((∀ n < 12, d.reachState n ≠ 2))) ∧
    (∃ (d : Dev) (c : Nat) (row : ClassRow), classRow c = some row ∧ row.act = .none ∧ 1 ≤ (d.occ c).level ∧ max (d.occ c).level (min ((d.occ c).level + 1) row.hi) < 3) :=
  ⟨⟨base, 39, ⟨0, 0, none, .none⟩, by decide +kernel⟩,
   ⟨base, 16, ⟨1, 3, some 2, .none⟩, 127, by decide +kernel⟩,
   ⟨base, 120, ⟨3, 3, none, .none⟩, by decide +kernel⟩,
   ⟨base.setOcc 16 { occ0 with level := 1 }, 16, ⟨1, 3, some 2, .none⟩, by decide +kernel⟩⟩

/-- Hypotheses of Obligations.FaultCommands. -/
theorem witness_FaultCommands :
    (∃ (s : State) (f : FaultIn) (g : FaultIn), s.live ∧ FaultIn.before f g = true ∧ FaultIn.before g f = false) ∧
    (∃ (f : FaultIn), f.cls ≠ 4 ∧ f.cls ≠ 120) ∧
    (∃ (s : State) (c : Fin 128) (t : Nat) (e : Nat) (row : ClassRow), s.live ∧ (s.dev.occ c).deadline = some t ∧ classRow c = some row ∧ row.e = some e ∧ (let o := s.dev.occ c; 2 ≤ o.level)) ∧
    (∃ (s : State) (c : Fin 128) (t : Nat) (e : Nat) (row : ClassRow), s.live ∧ (s.dev.occ c).deadline = some t ∧ classRow c = some row ∧ row.e = some e ∧ (let o := s.dev.occ c; o.level < 2)) ∧
    (∃ (s : State) (c : Fin 128), s.live ∧ (s.dev.occ c).deadline = none) ∧
    (∃ (s : State) (r : Requester) (c : Fin 128), Reached s r 0x6000C ∧ classRow c = none) ∧
    (∃ (s : State) (r : Requester) (c : Fin 128), Reached s r 0x6000C ∧ (classRow c).isSome = true ∧ (s.dev.occ c).level = 0) ∧
    (∃ (s : State) (r : Requester) (c : Fin 128), Reached s r 0x6000C ∧ (classRow c).isSome = true ∧ (s.dev.occ c).level = 1) ∧
    (∃ (s : State) (r : Requester) (c : Fin 128), Reached s r 0x6000C ∧ (classRow c).isSome = true ∧ 2 ≤ (s.dev.occ c).level) ∧
    (∃ (s : State), s.live ∧ s.dev.safe = true) ∧
    (∃ (s : State) (t : Nat) (k : Ticket), s.live ∧ s.dev.safe = true ∧ s.dev.tide.sys.cells = [] ∧ s.dev.tide.runs.cells = [] ∧ s.dev.cmd.ops.cells = [] ∧ s.dev.tk.store.cells = [(t, k)] ∧ k.state = 3) ∧
    (∃ (s : State) (r : Requester), Reached s r 0x60004 ∧ s.dev.safe = false) ∧
    (∃ (s : State) (r : Requester), Reached s r 0x60004 ∧ s.dev.safe = true) ∧
    (∃ (s : State), s.live ∧ s.dev.safe = false ∧ s.dev.flt.agree = true ∧ s.dev.rst.phase = 0 ∧ s.dev.rst.rstn = false) :=
  ⟨⟨running base, ⟨31, 13, 0, 0, []⟩, ⟨31, 13, 1, 0, []⟩, rfl, by decide +kernel⟩,
   ⟨⟨31, 13, 0, 0, []⟩, by decide +kernel⟩,
   ⟨(running (base.setOcc 32 { occ0 with level := 2, deadline := some 9 }) : State), 32, 9, 2, ⟨2, 4, some 2, .none⟩, rfl, by decide +kernel⟩,
   ⟨(running (base.setOcc 32 { occ0 with level := 1, deadline := some 9 }) : State), 32, 9, 2, ⟨2, 4, some 2, .none⟩, rfl, by decide +kernel⟩,
   ⟨running base, 127, rfl, by decide +kernel⟩,
   ⟨running base, .fn 0, 127, reached_of (by decide +kernel), by decide +kernel⟩,
   ⟨running base, .fn 0, 32, reached_of (by decide +kernel), by decide +kernel⟩,
   ⟨(running (base.setOcc 32 { occ0 with level := 1, deadline := some 9 }) : State), .fn 0, 32, reached_of (by decide +kernel), by decide +kernel⟩,
   ⟨(running (base.setOcc 32 { occ0 with level := 2, deadline := some 9 }) : State), .fn 0, 32, reached_of (by decide +kernel), by decide +kernel⟩,
   ⟨(running (base.sets [(FLT_STATUS_SAFE, 1)]) : State), rfl, by decide +kernel⟩,
   ⟨(running ((base.sets [(FLT_STATUS_SAFE, 1)]).putTkt 16351 { tkt0 with state := 3 }) : State), 16351, { tkt0 with state := 3 }, rfl, by decide +kernel⟩,
   ⟨running base, .fn 0, reached_of (by decide +kernel), by decide +kernel⟩,
   ⟨(running (base.sets [(FLT_STATUS_SAFE, 1)]) : State), .fn 0, reached_of (by decide +kernel), by decide +kernel⟩,
   ⟨running base, rfl, by decide +kernel⟩⟩

/-- Hypotheses of Obligations.DarkFunction. -/
theorem witness_DarkFunction :
    (∃ (d : Dev) (o : Nat), o < 512 ∧ d.darkLine o = false) ∧
    (∃ (d : Dev) (i : Nat), i < 8 ∧ d.ilkState i = 0 ∧ d.cause i = true) ∧
    (∃ (d : Dev) (i : Nat), i < 8 ∧ d.ilkState i = 0 ∧ d.cause i = false) ∧
    (∃ (d : Dev) (i : Nat), i < 8 ∧ d.ilkState i = 1 ∧ d.cause i = false ∧ d.manLoaded = true) ∧
    (∃ (d : Dev) (i : Nat), i < 8 ∧ d.ilkState i = 2 ∧ d.cause i = true) :=
  ⟨⟨(let d := base; { d with ilk := { d.ilk with lines := Tab.empty } } : Dev), 511, by decide +kernel⟩,
   ⟨base.sets [(ILK_STATUS_STATE, 0), (ILK_LOCAL_EN, 128), (ILK_CONTACTS_A, 127), (ILK_CONTACTS_B, 127)], 7, by decide +kernel⟩,
   ⟨base.sets [(ILK_STATUS_STATE, 0), (ILK_LOCAL_EN, 128), (ILK_CONTACTS_A, 255), (ILK_CONTACTS_B, 255), (ILK_DISC, 0)], 7, by decide +kernel⟩,
   ⟨base.sets [(ILK_STATUS_STATE, 21845), (ILK_LOCAL_EN, 0), (MAN_STATUS_LOADED, 1)], 7, by decide +kernel⟩,
   ⟨base.sets [(ILK_STATUS_STATE, 43690), (ILK_LOCAL_EN, 128), (ILK_CONTACTS_A, 127), (ILK_CONTACTS_B, 127)], 7, by decide +kernel⟩⟩

/-- Hypotheses of Obligations.InterlockCommands. -/
theorem witness_InterlockCommands :
    (∃ (s : State) (i : Fin 8) (a : Bool) (b : Bool), s.live ∧ (let x := s.dev.ilkSlot i; (let raw := (if a then x.rawA else x.rawB).getD (b, 0); raw.1 = b))) ∧
    (∃ (s : State) (i : Fin 8) (a : Bool) (b : Bool), s.live ∧ (let x := s.dev.ilkSlot i; (let raw := (if a then x.rawA else x.rawB).getD (b, 0); raw.1 ≠ b))) ∧
    (∃ (s : State) (i : Fin 8) (t : Nat), s.live ∧ (s.dev.ilkSlot i).diffAt = some t ∧ s.dev.manLoaded = true ∧ bit (s.dev.get ILK_LOCAL_EN) i = true ∧ bit (s.dev.get ILK_DISC) i = false) ∧
    (∃ (s : State) (i : Fin 8), s.live ∧ (s.dev.ilkSlot i).diffAt = none) ∧
    (∃ (s : State) (r : Requester) (i : Fin 8), Reached s r 0x68008 ∧ bit (s.dev.get ILK_CONTACTS_A) i = bit (s.dev.get ILK_CONTACTS_B) i) ∧
    (∃ (s : State) (r : Requester) (i : Fin 8), Reached s r 0x68008 ∧ bit (s.dev.get ILK_CONTACTS_A) i ≠ bit (s.dev.get ILK_CONTACTS_B) i) ∧
    (∃ (s : State) (r : Requester) (i : Fin 8), Reached s r 0x68004 ∧ s.dev.ilkState i = 2 ∧ s.dev.cause i = false) ∧
    (∃ (s : State) (r : Requester) (i : Fin 8), Reached s r 0x68004 ∧ (s.dev.ilkState i ≠ 2 ∨ s.dev.cause i = true)) ∧
    (∃ (s : State) (o : Fin 512) (t : Nat) (l : List (Nat × Nat)), s.live ∧ s.dev.ilk.unconf = (o.val, t) :: l) ∧
    (∃ (s : State), s.live ∧ s.dev.ilk.unconf = []) ∧
    (∃ (s : State) (t : Nat), s.live ∧ s.dev.ilk.testAt = some t ∧ s.dev.diag 3 = false) ∧
    (∃ (s : State), s.live ∧ s.dev.ilk.testAt = none) ∧
    (∃ (s : State) (e : Fin 16) (t : Nat), s.live ∧ s.dev.on (ILK_FWD_EN e) = true ∧ (s.dev.fwd e).sentAt = some t) ∧
    (∃ (s : State) (e : Fin 16), s.live ∧ s.dev.on (ILK_FWD_EN e) = false) ∧
    (∃ (s : State) (k : Fin 8) (w : RawFrame), s.live ∧ GoodFrame s.dev k (readFrame w) 1 true ∧ (let f := readFrame w; f.typ = 0x20)) ∧
    (∃ (s : State), s.live ∧ s.dev.mgmtOn = true) ∧
    (∃ (s : State), s.live ∧ s.dev.mgmtOn = false) ∧
    (∃ (ws : List Nat), crc32c (ws.take 7) ≠ ws.getD 7 0 % 2 ^ 32) ∧
    (∃ (s : State) (k : Fin 32) (x : Nat × Bool × List Nat × Nat) (l : List (Nat × Bool × List Nat × Nat)), s.live ∧ s.dev.on (ILK_SRC_EN (k.val / 4) (k.val % 4)) = true ∧ (s.dev.src k).waits = x :: l) ∧
    (∃ (s : State) (k : Fin 32) (t : Nat), s.live ∧ s.dev.on (ILK_SRC_EN (k.val / 4) (k.val % 4)) = true ∧ (s.dev.src k).atA = some t) ∧
    (∃ (s : State) (k : Fin 32) (t : Nat), s.live ∧ s.dev.on (ILK_SRC_EN (k.val / 4) (k.val % 4)) = true ∧ (s.dev.src k).atB = some t) ∧
    (∃ (s : State) (k : Fin 32), s.live ∧ s.dev.on (ILK_SRC_EN (k.val / 4) (k.val % 4)) = false) ∧
    (∃ (s : State) (e : Fin 16) (t : Nat), s.live ∧ (s.dev.fwd e).waitA = some t) ∧
    (∃ (s : State) (e : Fin 16) (t : Nat), s.live ∧ (s.dev.fwd e).waitB = some t) ∧
    (∃ (s : State) (e : Fin 16), s.live ∧ (s.dev.fwd e).waitA = none) :=
  ⟨⟨running base, 0, false, false, rfl, by decide +kernel⟩,
   ⟨(running (base.setIlkSlot 7 { slot0 with rawA := some (false, 0) }) : State), 7, true, true, rfl, by decide +kernel⟩,
   ⟨(running ((base.sets [(MAN_STATUS_LOADED, 1), (ILK_LOCAL_EN, 128), (ILK_DISC, 0)]).setIlkSlot 7 { slot0 with diffAt := some 9 }) : State), 7, 9, rfl, by decide +kernel⟩,
   ⟨running base, 7, rfl, by decide +kernel⟩,
   ⟨(running (base.sets [(ILK_CONTACTS_A, 128), (ILK_CONTACTS_B, 128)]) : State), .fn 0, 7, reached_of (by decide +kernel), by decide +kernel⟩,
   ⟨(running (base.sets [(ILK_CONTACTS_A, 128), (ILK_CONTACTS_B, 0)]) : State), .fn 0, 7, reached_of (by decide +kernel), by decide +kernel⟩,
   ⟨(running (base.sets [(ILK_STATUS_STATE, 43690), (ILK_LOCAL_EN, 0)]) : State), .fn 0, 7, reached_of (by decide +kernel), by decide +kernel⟩,
   ⟨(running (base.sets [(ILK_STATUS_STATE, 21845)]) : State), .fn 0, 7, reached_of (by decide +kernel), by decide +kernel⟩,
   ⟨(running ((let d := base; { d with ilk := { d.ilk with unconf := [(511, 9)] } } : Dev)) : State), 511, 9, [], rfl, by decide +kernel⟩,
   ⟨running base, rfl, by decide +kernel⟩,
   ⟨(running ((let d := base; { d with ilk := { d.ilk with testAt := some 9 } } : Dev)) : State), 9, rfl, by decide +kernel⟩,
   ⟨running base, rfl, by decide +kernel⟩,
   ⟨(running ((base.sets [(ILK_FWD_EN 15, 1)]).setFwd 15 { fwd0 with sentAt := some 9 }) : State), 15, 9, rfl, by decide +kernel⟩,
   ⟨running base, 15, rfl, by decide +kernel⟩,
   ⟨(running ((base.sets [(FRY_PORT_STATUS_STATE 7, 2)]).putForce (manKey 11 (4 * 7) 3) 1) : State), 7, rawOf (frameOf 0x20 1 64 []), live_of (by decide +kernel), good_frame 64 (by decide +kernel), by decide +kernel⟩,
   ⟨(running (base.sets [(HST_MGMT_CTL_EN, 1)]) : State), rfl, by decide +kernel⟩,
   ⟨running base, rfl, by decide +kernel⟩,
   ⟨[1], by decide +kernel⟩,
   ⟨(running ((base.sets [(ILK_SRC_EN 7 3, 1)]).setSrc 31 { src0 with waits := [(3, true, [7], 9)] }) : State), 31, (3, true, [7], 9), [], rfl, by decide +kernel⟩,
   ⟨(running ((base.sets [(ILK_SRC_EN 7 3, 1)]).setSrc 31 { src0 with atA := some 9 }) : State), 31, 9, rfl, by decide +kernel⟩,
   ⟨(running ((base.sets [(ILK_SRC_EN 7 3, 1)]).setSrc 31 { src0 with atB := some 9 }) : State), 31, 9, rfl, by decide +kernel⟩,
   ⟨running base, 31, rfl, by decide +kernel⟩,
   ⟨(running (base.setFwd 15 { fwd0 with waitA := some 9 }) : State), 15, 9, rfl, by decide +kernel⟩,
   ⟨(running (base.setFwd 15 { fwd0 with waitB := some 9 }) : State), 15, 9, rfl, by decide +kernel⟩,
   ⟨running base, 15, rfl, by decide +kernel⟩⟩

/-- Hypotheses of Obligations.ManifestLoads. -/
theorem witness_ManifestLoads :
    (∃ (s : State) (r : Requester), Reached s r 0x10000 ∧ s.dev.on MAN_STATUS_LOAD_BUSY = false ∧ s.dev.on MAN_STATUS_COMMIT_BUSY = false ∧ s.dev.on SEAL_STATUS_COMMITTING = false) ∧
    (∃ (s : State) (r : Requester), Reached s r 0x10000 ∧ (s.dev.on MAN_STATUS_LOAD_BUSY = true ∨ s.dev.on MAN_STATUS_COMMIT_BUSY = true ∨ s.dev.on SEAL_STATUS_COMMITTING = true)) ∧
    (∃ (s : State) (h : HostFile), s.live ∧ s.dev.on MAN_STATUS_LOAD_BUSY = true ∧ ((manFile h.readOk h.bytes).readOk = false ∨ s.dev.man.miss = true)) ∧
    (∃ (s : State) (h : HostFile) (e : Nat × Nat), s.live ∧ s.dev.on MAN_STATUS_LOAD_BUSY = true ∧ (let f := manFile h.readOk h.bytes; f.readOk = true ∧ s.dev.man.miss = false ∧ manHeader f s.dev.man.len (!s.dev.manLoaded) = some e)) ∧
    (∃ (s : State) (h : HostFile) (x : Nat × List Nat), s.live ∧ s.dev.on MAN_STATUS_LOAD_BUSY = true ∧ (let f := manFile h.readOk h.bytes; f.readOk = true ∧ s.dev.man.miss = false ∧ manHeader f s.dev.man.len (!s.dev.manLoaded) = none ∧ f.sections.find? (fun x => bodyBad x.1 0 x.2) = some x)) ∧
    (∃ (s : State) (h : HostFile), s.live ∧ s.dev.on MAN_STATUS_LOAD_BUSY = true ∧ (let f := manFile h.readOk h.bytes; f.readOk = true ∧ s.dev.man.miss = false ∧ manHeader f s.dev.man.len (!s.dev.manLoaded) = none ∧ ((∀ x ∈ f.sections, bodyBad x.1 0 x.2 = false)))) ∧
    (∃ (s : State), s.live ∧ s.dev.on MAN_STATUS_LOAD_BUSY = false) ∧
    (∃ (s : State) (c : Commit), s.live ∧ s.dev.man.commit = some c ∧ c.device = false ∧ s.dev.diag 0 = false) ∧
    (∃ (s : State), s.live ∧ s.dev.man.commit = none) :=
  ⟨⟨running base, .fn 0, reached_of (by decide +kernel), by decide +kernel⟩,
   ⟨(running (base.sets [(MAN_STATUS_LOAD_BUSY, 1)]) : State), .fn 0, reached_of (by decide +kernel), by decide +kernel⟩,
   ⟨(running (base.sets [(MAN_STATUS_LOAD_BUSY, 1)]) : State), { file0 with readOk := false }, rfl, by decide +kernel⟩,
   ⟨(running (base.sets [(MAN_STATUS_LOAD_BUSY, 1)]) : State), file0, (3, 0), rfl, by decide +kernel⟩,
   ⟨running manTaking, manImage manBad, (12, leWords 8 manBad), rfl, by decide +kernel, man_bad⟩,
   ⟨running manTaking, manImage manGood, rfl, by decide +kernel, man_good⟩,
   ⟨running base, rfl, by decide +kernel⟩,
   ⟨(running ((let d := base; { d with man := { d.man with commit := some ⟨Tab.empty, [(511, 5)], 1000, false⟩ } } : Dev)) : State), ⟨Tab.empty, [(511, 5)], 1000, false⟩, rfl, by decide +kernel⟩,
   ⟨running base, rfl, by decide +kernel⟩⟩

/-- Hypotheses of Obligations.DiscardRestoresShadow. -/
theorem witness_DiscardRestoresShadow :
    (∃ (s : State) (r : Requester), Reached s r 0x10000 ∧ s.dev.on MAN_STATUS_COMMIT_BUSY = false ∧ ((∀ o < 512, s.dev.get (CAP_PORT_CEIL o) < 65536))) ∧
    (∃ (s : State) (r : Requester), Reached s r 0x10000 ∧ s.dev.on MAN_STATUS_COMMIT_BUSY = true) :=
  ⟨⟨running base, .fn 0, reached_of (by decide +kernel), by decide +kernel⟩,
   ⟨(running (base.sets [(MAN_STATUS_COMMIT_BUSY, 1)]) : State), .fn 0, reached_of (by decide +kernel), by decide +kernel⟩⟩

/-- Hypotheses of Obligations.FieldsAndService. -/
theorem witness_FieldsAndService :
    (∃ (s : State) (r : Requester) (w : Nat) (v : Nat), Reached s r 0x10044 ∧ s.dev.get MAN_FLD_SEL_SECTION = 5 ∧ s.dev.get MAN_FLD_SEL_INDEX = w ∧ w < 256 ∧ (-1000 ≤ sgn 16 (bits v 0 16) ∧ sgn 16 (bits v 0 16) ≤ 2000) ∧ (-1000 ≤ sgn 16 (bits v 16 16) ∧ sgn 16 (bits v 16 16) ≤ 2000)) ∧
    (∃ (s : State) (r : Requester) (w : Nat) (v : Nat), Reached s r 0x10044 ∧ s.dev.get MAN_FLD_SEL_SECTION = 6 ∧ s.dev.get MAN_FLD_SEL_INDEX = w ∧ 32 ≤ w ∧ w < 2048 ∧ bits v 0 32 ≠ s.dev.man.shadow.get 0 (manKey 6 w 0) ∧ s.dev.on SEAL_STATUS_CLOSED = true) ∧
    (∃ (s : State) (r : Requester) (w : Nat) (v : Nat), Reached s r 0x10044 ∧ s.dev.get MAN_FLD_SEL_SECTION = 6 ∧ s.dev.get MAN_FLD_SEL_INDEX = w ∧ 32 ≤ w ∧ w < 2048 ∧ bits v 0 32 ≠ s.dev.man.shadow.get 0 (manKey 6 w 0) ∧ s.dev.on SEAL_STATUS_CLOSED = false) ∧
    (∃ (s : State) (r : Requester) (v : Nat), Reached s r 0x10044 ∧ s.dev.get MAN_FLD_SEL_SECTION = 12 ∧ s.dev.get MAN_FLD_SEL_INDEX = 0 ∧ bits v 0 2 ≤ 2 ∧ bits v 0 2 ≠ s.dev.manA 12 0 0 ∧ s.dev.on TIM_CTL_SERVO_EN = true) ∧
    (∃ (s : State) (r : Requester) (v : Nat), Reached s r 0x10044 ∧ s.dev.get MAN_FLD_SEL_SECTION = 12 ∧ s.dev.get MAN_FLD_SEL_INDEX = 0 ∧ bits v 0 2 ≤ 2 ∧ bits v 0 2 ≠ s.dev.manA 12 0 0 ∧ s.dev.on TIM_CTL_SERVO_EN = false) ∧
    (∃ (s : State) (r : Requester) (v : Nat), Reached s r 0x10044 ∧ s.dev.get MAN_FLD_SEL_SECTION = 12 ∧ s.dev.get MAN_FLD_SEL_INDEX = 0 ∧ bits v 0 2 = 3 ∧ s.dev.manA 12 0 0 ≠ 3) ∧
    (∃ (s : State) (r : Requester) (b : Fin 96), Reached s r (0x10100 + b.val * 4) ∧ s.dev.inService b = false) ∧
    (∃ (s : State) (r : Requester) (b : Fin 96), Reached s r (0x10100 + b.val * 4) ∧ s.dev.inService b = true ∧ isMiddle b = false ∧ ((s.dev.blkTkts b).isEmpty = false ∨ s.dev.listsBlk b = true)) ∧
    (∃ (s : State) (r : Requester) (b : Fin 96), Reached s r (0x10100 + b.val * 4) ∧ s.dev.inService b = true ∧ (isMiddle b = true ∨ (s.dev.blkTkts b).isEmpty = true ∧ s.dev.listsBlk b = false)) ∧
    (∃ (s : State) (b : Fin 96), s.live ∧ isMiddle b = true ∧ (s.dev.blk b).outPend = true ∧ s.dev.passing b = false ∧ s.dev.running = false) ∧
    (∃ (s : State) (b : Fin 96), s.live ∧ (isMiddle b = false ∨ (s.dev.blk b).outPend = false ∨ s.dev.passing b = true ∨ s.dev.running = true)) ∧
    (∃ (s : State) (r : Requester) (b : Fin 96), Reached s r (0x10100 + b.val * 4) ∧ s.dev.inService b = false) ∧
    (∃ (s : State) (b : Fin 96), s.live ∧ s.dev.on (MAN_BLK_CTL_RETURN_HELD b) = true ∧ s.dev.inService b = false ∧ s.dev.mayEnter b = true) ∧
    (∃ (s : State) (b : Fin 96), s.live ∧ (s.dev.on (MAN_BLK_CTL_RETURN_HELD b) = false ∨ s.dev.inService b = true ∨ s.dev.mayEnter b = false)) :=
  ⟨⟨(running (base.sets [(MAN_FLD_SEL_SECTION, 5), (MAN_FLD_SEL_INDEX, 255)]) : State), .fn 0, 255, 2000 * 65536 + 64536, reached_of (by decide +kernel), by decide +kernel⟩,
   ⟨(running (base.sets [(MAN_FLD_SEL_SECTION, 6), (MAN_FLD_SEL_INDEX, 2047), (SEAL_STATUS_CLOSED, 1)]) : State), .fn 0, 2047, 1, reached_of (by decide +kernel), by decide +kernel⟩,
   ⟨(running (base.sets [(MAN_FLD_SEL_SECTION, 6), (MAN_FLD_SEL_INDEX, 32)]) : State), .fn 0, 32, 1, reached_of (by decide +kernel), by decide +kernel⟩,
   ⟨(running (base.sets [(MAN_FLD_SEL_SECTION, 12), (MAN_FLD_SEL_INDEX, 0), (TIM_CTL_SERVO_EN, 1)]) : State), .fn 0, 2, reached_of (by decide +kernel), by decide +kernel⟩,
   ⟨(running (base.sets [(MAN_FLD_SEL_SECTION, 12), (MAN_FLD_SEL_INDEX, 0)]) : State), .fn 0, 1, reached_of (by decide +kernel), by decide +kernel⟩,
   ⟨(running (base.sets [(MAN_FLD_SEL_SECTION, 12), (MAN_FLD_SEL_INDEX, 0)]) : State), .fn 0, 3, reached_of (by decide +kernel), by decide +kernel⟩,
   ⟨running base, .fn 0, 95, reached_of (by decide +kernel), by decide +kernel⟩,
   ⟨(running ((base.sets [(FAB_BLK_STATUS_IN_SERVICE 0, 1)]).putTkt 0 { tkt0 with state := 3, src := 0, dst := 0 }) : State), .fn 0, 0, reached_of (by decide +kernel), by decide +kernel⟩,
   ⟨(running (base.sets [(FAB_BLK_STATUS_IN_SERVICE 63, 1)]) : State), .fn 0, 63, reached_of (by decide +kernel), by decide +kernel⟩,
   ⟨(running (base.setBlk 63 { blk0 with outPend := true }) : State), 63, rfl, by decide +kernel⟩,
   ⟨running base, 95, rfl, by decide +kernel⟩,
   ⟨running base, .fn 0, 95, reached_of (by decide +kernel), by decide +kernel⟩,
   ⟨(running (base.sets [(MAN_BLK_CTL_RETURN_HELD 95, 1), (MAN_STATUS_LOADED, 1), (CAL_STATUS_TABLES_VALID, 1), (CAL_STATUS_ADC_DONE, 1), (THM_ROUNDS, 1), (THM_TEMP_REPORTED 95, 2500)]) : State), 95, rfl, by decide +kernel⟩,
   ⟨running base, 95, rfl, by decide +kernel⟩⟩

/-- Hypotheses of Obligations.SealProtocol. -/
theorem witness_SealProtocol :
    (∃ (s : State) (r : Requester), Reached s r 0x18000 ∧ s.dev.closeFails = none) ∧
    (∃ (s : State) (r : Requester) (n : Nat), Reached s r 0x18000 ∧ s.dev.closeFails = some n) ∧
    (∃ (s : State) (r : Requester), Reached s r 0x18000 ∧ byPf0 r = true ∧ s.dev.on SEAL_STATUS_CLOSED = false) ∧
    (∃ (s : State) (r : Requester), Reached s r 0x18000 ∧ byPf0 r = true ∧ s.dev.on SEAL_STATUS_CLOSED = true ∧ (s.dev.on SEAL_STATUS_STAGED = true ∨ s.dev.on MAN_STATUS_LOAD_BUSY = true ∨ s.dev.tps.reading ≠ none)) ∧
    (∃ (s : State) (r : Requester), Reached s r 0x18000 ∧ byPf0 r = true ∧ s.dev.on SEAL_STATUS_CLOSED = true ∧ s.dev.on SEAL_STATUS_STAGED = false ∧ s.dev.on MAN_STATUS_LOAD_BUSY = false ∧ s.dev.tps.reading = none) ∧
    (∃ (s : State) (r : Requester), Reached s r 0x18000 ∧ byPf0 r = false) ∧
    (∃ (s : State) (h : HostFile) (n : Nat) (ok : Bool), s.live ∧ s.dev.tps.reading = some (n, ok) ∧ (let f := propFile h; (ok = false ∨ f.readOk = false))) ∧
    (∃ (s : State) (n : Nat) (ok : Bool), s.live ∧ s.dev.tps.reading = some (n, ok) ∧ ok = true) ∧
    (∃ (s : State), s.live ∧ s.dev.tps.reading = none) ∧
    (∃ (s : State) (r : Requester), Reached s r 0x18000 ∧ byPf0 r = true ∧ s.dev.on SEAL_STATUS_STAGED = true ∧ s.dev.on SEAL_STATUS_COMMITTING = false) ∧
    (∃ (s : State) (r : Requester), Reached s r 0x18000 ∧ byPf0 r = true ∧ (s.dev.on SEAL_STATUS_STAGED = false ∨ s.dev.on SEAL_STATUS_COMMITTING = true)) ∧
    (∃ (d : Dev) (q : Nat), ((∀ p, d.tps.prop = some p → q ≠ p.seq))) ∧
    (∃ (d : Dev) (p : Proposal), d.tps.prop = some p ∧ d.on SEAL_STATUS_COMMITTING = false ∧ p.expiry ≤ d.tick) ∧
    (∃ (d : Dev) (b : Bool) (p : Proposal) (mac : Nat), mac ≠ d.macOf b p ∧ d.tps.prop = some p ∧ d.on SEAL_STATUS_COMMITTING = false ∧ d.tick < p.expiry ∧ d.get SEAL_STATUS_BAD_MACS = 2) ∧
    (∃ (d : Dev) (b : Bool) (p : Proposal) (mac : Nat), mac ≠ d.macOf b p ∧ d.tps.prop = some p ∧ d.on SEAL_STATUS_COMMITTING = false ∧ d.tick < p.expiry ∧ d.get SEAL_STATUS_BAD_MACS < 2) ∧
    (∃ (d : Dev) (p : Proposal), d.tps.prop = some p ∧ d.on SEAL_STATUS_COMMITTING = false ∧ d.tick < p.expiry ∧ d.on SEAL_STATUS_HAVE_A = false ∧ d.on SEAL_STATUS_HAVE_B = false) ∧
    (∃ (d : Dev) (p : Proposal), d.tps.prop = some p ∧ d.on SEAL_STATUS_COMMITTING = false ∧ d.tick < p.expiry ∧ d.on SEAL_STATUS_HAVE_A = true ∧ d.on SEAL_STATUS_HAVE_B = false ∧ p.kind = 1) ∧
    (∃ (s : State) (p : Proposal), s.live ∧ s.dev.tps.prop = some p ∧ s.dev.on SEAL_STATUS_COMMITTING = false) ∧
    (∃ (s : State), s.live ∧ s.dev.tps.prop = none) ∧
    (∃ (s : State) (p : Proposal), s.live ∧ s.dev.tps.prop = some p ∧ s.dev.on SEAL_STATUS_COMMITTING = true ∧ s.dev.on MAN_STATUS_LOAD_BUSY = false ∧ s.dev.on MAN_STATUS_COMMIT_BUSY = false) ∧
    (∃ (s : State) (p : Proposal), s.live ∧ s.dev.tps.prop = some p ∧ (s.dev.on SEAL_STATUS_COMMITTING = false ∨ s.dev.on MAN_STATUS_LOAD_BUSY = true ∨ s.dev.on MAN_STATUS_COMMIT_BUSY = true)) ∧
    (∃ (d : Dev) (p : Proposal) (key : Nat), d.tps.prop = some p ∧ d.tps.newKey = some key ∧ p.kind = 2) ∧
    (∃ (s : State) (mac : Nat) (w : RawFrame), s.live ∧ (let f := readFrame w; s.dev.mgmtOn = true ∧ s.dev.on HST_MGMT_SEAL_EN = true ∧ mac = s.dev.get HST_MGMT_SEAL_MAC ∧ f.crcOk = true ∧ f.typ = 0x50 ∧ f.length = 128 ∧ f.hops = 0 ∧ f.lseq = 0 ∧ f.dst = s.dev.moduleId ∧ s.dev.sealFerry = false ∧ (let m := fun q => f.words.getD (4 + q) 0; bits (f.words.getD 0 0) 0 3 = 4 ∧ m 0 = 0x53415031 ∧ m 1 = 0))) ∧
    (∃ (s : State) (mac : Nat) (w : RawFrame), s.live ∧ (let f := readFrame w; s.dev.mgmtOn = true ∧ s.dev.on HST_MGMT_SEAL_EN = true ∧ mac = s.dev.get HST_MGMT_SEAL_MAC ∧ f.crcOk = true ∧ f.typ = 0x50 ∧ f.length = 128 ∧ f.hops = 0 ∧ f.lseq = 0 ∧ f.dst = s.dev.moduleId ∧ s.dev.sealFerry = false ∧ bits (f.words.getD 0 0) 0 3 = 1 ∧ s.dev.on SEAL_STATUS_CLOSED = false ∧ s.dev.tps.wroteB < 256)) ∧
    (∃ (s : State) (mac : Nat) (w : RawFrame), s.live ∧ (let f := readFrame w; s.dev.mgmtOn = true ∧ s.dev.on HST_MGMT_SEAL_EN = true ∧ mac = s.dev.get HST_MGMT_SEAL_MAC ∧ f.crcOk = true ∧ f.typ = 0x50 ∧ f.length = 128 ∧ f.hops = 0 ∧ f.lseq = 0 ∧ f.dst = s.dev.moduleId ∧ s.dev.sealFerry = false ∧ bits (f.words.getD 0 0) 0 3 = 1 ∧ s.dev.on SEAL_STATUS_CLOSED = true)) ∧
    (∃ (s : State) (mac : Nat) (w : RawFrame), s.live ∧ (let f := readFrame w; s.dev.mgmtOn = true ∧ s.dev.on HST_MGMT_SEAL_EN = true ∧ mac = s.dev.get HST_MGMT_SEAL_MAC ∧ f.crcOk = true ∧ f.typ = 0x50 ∧ f.length = 128 ∧ f.hops = 0 ∧ f.lseq = 0 ∧ f.dst = s.dev.moduleId ∧ s.dev.sealFerry = false ∧ bits (f.words.getD 0 0) 0 3 = 2)) ∧
    (∃ (s : State) (k : Fin 8) (w : RawFrame), s.live ∧ GoodFrame s.dev k (readFrame w) 3 true ∧ (let f := readFrame w; f.typ = 0x50 ∧ s.dev.on FRY_SEAL_SRC_EN = true ∧ f.src = s.dev.get FRY_SEAL_SRC_MODULE ∧ s.dev.sealFerry = true ∧ bits (f.words.getD 0 0) 0 3 = 2)) ∧
    (∃ (s : State) (k : Fin 8) (w : RawFrame), s.live ∧ GoodFrame s.dev k (readFrame w) 3 true ∧ (let f := readFrame w; f.typ = 0x50 ∧ s.dev.on FRY_SEAL_SRC_EN = false ∧ bits (f.words.getD 0 0) 0 3 = 4)) ∧
    (∃ (s : State) (k : Fin 8) (w : RawFrame), s.live ∧ GoodFrame s.dev k (readFrame w) 3 true ∧ (let f := readFrame w; f.typ = 0x50 ∧ s.dev.on FRY_SEAL_SRC_EN = false ∧ bits (f.words.getD 0 0) 0 3 = 1)) ∧
    (∃ (s : State), s.live ∧ s.dev.mgmtOn = false) :=
  ⟨⟨(running (base.sets [(SEAL_STATUS_KEY_A, 1), (SEAL_STATUS_KEY_B, 1), (MAN_STATUS_LOADED, 1), (SEAL_KEY_A 0, 1), (SEAL_KEY_B 0, 2)]) : State), .fn 0, reached_of (by decide +kernel), by decide +kernel⟩,
   ⟨(running (base.sets [(SEAL_STATUS_CLOSED, 1)]) : State), .fn 0, 2, reached_of (by decide +kernel), by decide +kernel⟩,
   ⟨running base, .fn 0, reached_of (by decide +kernel), by decide +kernel⟩,
   ⟨(running (base.sets [(SEAL_STATUS_CLOSED, 1), (SEAL_STATUS_STAGED, 1)]) : State), .fn 0, reached_of (by decide +kernel), by decide +kernel⟩,
   ⟨(running (base.sets [(SEAL_STATUS_CLOSED, 1)]) : State), .fn 0, reached_of (by decide +kernel), by decide +kernel⟩,
   ⟨running base, .master 9, reached_of (by decide +kernel), by decide +kernel⟩,
   ⟨(running ((let d := base; { d with tps := { d.tps with reading := some (64, false) } } : Dev)) : State), file0, 64, false, rfl, by decide +kernel⟩,
   ⟨(running ((let d := base; { d with tps := { d.tps with reading := some (64, true) } } : Dev)) : State), 64, true, rfl, by decide +kernel⟩,
   ⟨running base, rfl, by decide +kernel⟩,
   ⟨(running (base.sets [(SEAL_STATUS_STAGED, 1)]) : State), .fn 0, reached_of (by decide +kernel), by decide +kernel⟩,
   ⟨running base, .fn 0, reached_of (by decide +kernel), by decide +kernel⟩,
   ⟨base, 1, no_proposal⟩,
   ⟨((let d := base; { d with tps := { d.tps with prop := some prop0 } } : Dev)).ticks 1000, prop0, by decide +kernel⟩,
   ⟨(let d := base.sets [(SEAL_STATUS_BAD_MACS, 2)]; { d with tps := { d.tps with prop := some prop0 } } : Dev), false, prop0, ((let d := base.sets [(SEAL_STATUS_BAD_MACS, 2)]; { d with tps := { d.tps with prop := some prop0 } } : Dev)).macOf false prop0 + 1, mac_differs _ _ _, by decide +kernel⟩,
   ⟨(let d := base.sets [(SEAL_STATUS_BAD_MACS, 1)]; { d with tps := { d.tps with prop := some prop0 } } : Dev), false, prop0, ((let d := base.sets [(SEAL_STATUS_BAD_MACS, 1)]; { d with tps := { d.tps with prop := some prop0 } } : Dev)).macOf false prop0 + 1, mac_differs _ _ _, by decide +kernel⟩,
   ⟨(let d := base; { d with tps := { d.tps with prop := some prop0 } } : Dev), prop0, by decide +kernel⟩,
   ⟨(let d := base.sets [(SEAL_STATUS_HAVE_A, 1)]; { d with tps := { d.tps with prop := some prop0 } } : Dev), prop0, by decide +kernel⟩,
   ⟨(running ((let d := base; { d with tps := { d.tps with prop := some prop0 } } : Dev)) : State), prop0, rfl, by decide +kernel⟩,
   ⟨running base, rfl, by decide +kernel⟩,
   ⟨(running ((let d := base.sets [(SEAL_STATUS_COMMITTING, 1)]; { d with tps := { d.tps with prop := some prop0 } } : Dev)) : State), prop0, rfl, by decide +kernel⟩,
   ⟨(running ((let d := base; { d with tps := { d.tps with prop := some prop0 } } : Dev)) : State), prop0, rfl, by decide +kernel⟩,
   ⟨(let d := base; { d with tps := { d.tps with prop := some { prop0 with kind := 2 }, newKey := some 9 } } : Dev), { prop0 with kind := 2 }, 9, by decide +kernel⟩,
   ⟨(running (base.sets [(HST_MGMT_CTL_EN, 1), (HST_MGMT_SEAL_EN, 1), (HST_MGMT_SEAL_MAC, 5)]) : State), 5, rawOf (frameOf 0x50 3 128 [4, 0, 0, 0, 0x53415031, 0]), rfl, by decide +kernel⟩,
   ⟨(running (base.sets [(HST_MGMT_CTL_EN, 1), (HST_MGMT_SEAL_EN, 1), (HST_MGMT_SEAL_MAC, 5)]) : State), 5, rawOf (frameOf 0x50 3 128 [1, 0, 0, 0]), rfl, by decide +kernel⟩,
   ⟨(running (base.sets [(HST_MGMT_CTL_EN, 1), (HST_MGMT_SEAL_EN, 1), (HST_MGMT_SEAL_MAC, 5), (SEAL_STATUS_CLOSED, 1)]) : State), 5, rawOf (frameOf 0x50 3 128 [1, 0, 0, 0]), rfl, by decide +kernel⟩,
   ⟨(running (base.sets [(HST_MGMT_CTL_EN, 1), (HST_MGMT_SEAL_EN, 1), (HST_MGMT_SEAL_MAC, 5)]) : State), 5, rawOf (frameOf 0x50 3 128 [2, 0, 0, 0]), rfl, by decide +kernel⟩,
   ⟨(running ((base.sets [(FRY_PORT_STATUS_STATE 7, 2), (FRY_SEAL_SRC_EN, 1)]).putForce (manKey 1 0 15) 1) : State), 7, rawOf (frameOf 0x50 3 128 [2, 0, 0, 0]), live_of (by decide +kernel), good_frame 128 (by decide +kernel), by decide +kernel⟩,
   ⟨(running (base.sets [(FRY_PORT_STATUS_STATE 7, 2)]) : State), 7, rawOf (frameOf 0x50 3 128 [4, 0, 0, 0]), rfl, good_frame 128 (by decide +kernel), by decide +kernel⟩,
   ⟨(running (base.sets [(FRY_PORT_STATUS_STATE 7, 2)]) : State), 7, rawOf (frameOf 0x50 3 128 [1, 0, 0, 0]), rfl, good_frame 128 (by decide +kernel), by decide +kernel⟩,
   ⟨running base, rfl, by decide +kernel⟩⟩

/-- Hypotheses of Obligations.CommitPoints. -/
theorem witness_CommitPoints :
    (∃ (s : State), s.live ∧ s.dev.acting = true ∧ s.dev.inletRoom = true) ∧
    (∃ (s : State), s.live ∧ s.dev.acting = true ∧ s.dev.whl.point = none ∧ s.dev.inStep = true) ∧
    (∃ (s : State), s.live ∧ s.dev.acting = true ∧ s.dev.whl.point = none ∧ s.dev.inStep = false) ∧
    (∃ (s : State), s.live ∧ (s.dev.acting = false ∨ s.dev.whl.point ≠ none)) ∧
    (∃ (s : State) (p : CommitPoint), s.live ∧ s.dev.whl.point = some p ∧ p.tested = false ∧ s.dev.acting = true) ∧
    (∃ (s : State), s.live ∧ s.dev.whl.point = none) ∧
    (∃ (s : State) (p : CommitPoint), s.live ∧ s.dev.whl.point = some p ∧ p.tested = true) ∧
    (∃ (s : State) (k : Fin 99) (claim : Nat) (n : Nat), s.live ∧ (s.dev.stage k).revoked = false ∧ (s.dev.stage k).claim = claim ∧ (s.dev.stage k).cpn < n) ∧
    (∃ (s : State) (k : Fin 99) (claim : Nat) (n : Nat), s.live ∧ (s.dev.stage k).revoked = false ∧ (s.dev.stage k).claim = claim ∧ n ≤ (s.dev.stage k).cpn) ∧
    (∃ (s : State) (k : Fin 99) (claim : Nat), s.live ∧ (s.dev.stage k).revoked = false ∧ (s.dev.stage k).claim ≠ claim ∧ (s.dev.stage k).logged = false) ∧
    (∃ (s : State) (k : Fin 99), s.live ∧ (s.dev.stage k).revoked = true) ∧
    (∃ (s : State) (w : Fin 2), s.live ∧ s.dev.get WHL_STATUS_TOKEN = w.val + 1 ∧ s.dev.whState w = 4 ∧ s.dev.get WHL_CLAIM < 0xFFFFFFFF) ∧
    (∃ (s : State) (w : Fin 2), s.live ∧ s.dev.get WHL_STATUS_TOKEN ≠ w.val + 1) ∧
    (∃ (s : State) (w : Fin 2), s.live ∧ s.dev.watchMode = true ∧ s.dev.whState w = 3 ∧ s.dev.healthy w = true) ∧
    (∃ (s : State) (w : Fin 2), s.live ∧ s.dev.watchMode = true ∧ s.dev.whState w = 3 ∧ s.dev.healthy w = false) ∧
    (∃ (s : State), s.live ∧ s.dev.watchMode = false) ∧
    (∃ (s : State) (t : Nat) (w : Fin 2), s.live ∧ s.dev.whl.leaseAt = some t ∧ s.dev.watchMode = false ∧ s.dev.get WHL_STATUS_TOKEN = w.val + 1 ∧ s.dev.whState w = 4 ∧ s.dev.tick ≤ t + 2000000) ∧
    (∃ (s : State) (t : Nat) (w : Fin 2), s.live ∧ s.dev.whl.leaseAt = some t ∧ s.dev.watchMode = false ∧ s.dev.get WHL_STATUS_TOKEN = w.val + 1) ∧
    (∃ (s : State), s.live ∧ s.dev.whl.leaseAt = none) :=
  ⟨⟨running act, rfl, by decide +kernel⟩,
   ⟨(running (act.sets [(WHL_STATUS_MODE, 1), (WHL_STATUS_STATE_B, 3)]) : State), rfl, by decide +kernel⟩,
   ⟨running act, rfl, by decide +kernel⟩,
   ⟨running base, rfl, by decide +kernel⟩,
   ⟨(running ((let d := act; { d with whl := { d.whl with point := some ⟨1, [], 0, false⟩ } } : Dev)) : State), ⟨1, [], 0, false⟩, rfl, by decide +kernel⟩,
   ⟨running base, rfl, by decide +kernel⟩,
   ⟨(running ((let d := act; { d with whl := { d.whl with point := some ⟨1, [], 0, true⟩ } } : Dev)) : State), ⟨1, [], 0, true⟩, rfl, by decide +kernel⟩,
   ⟨(running (base.setStage 98 { outStage0 with revoked := false, claim := 1, cpn := 5 }) : State), 98, 1, 6, rfl, by decide +kernel⟩,
   ⟨(running (base.setStage 98 { outStage0 with revoked := false, claim := 1, cpn := 5 }) : State), 98, 1, 5, rfl, by decide +kernel⟩,
   ⟨(running (base.setStage 98 { outStage0 with revoked := false, claim := 1, cpn := 5 }) : State), 98, 2, rfl, by decide +kernel⟩,
   ⟨running base, 0, rfl, by decide +kernel⟩,
   ⟨(running (base.sets [(WHL_STATUS_TOKEN, 2), (WHL_STATUS_STATE_B, 4), (WHL_CLAIM, 0xFFFFFFFE)]) : State), 1, rfl, by decide +kernel⟩,
   ⟨running base, 1, rfl, by decide +kernel⟩,
   ⟨(running (base.sets [(WHL_STATUS_MODE, 1), (WHL_STATUS_STATE_B, 3)]) : State), 1, rfl, by decide +kernel⟩,
   ⟨(running ((base.sets [(WHL_STATUS_MODE, 1), (WHL_STATUS_STATE_B, 3)]).putForce (manKey 1 0 16) 2) : State), 1, live_of (by decide +kernel), by decide +kernel⟩,
   ⟨(running (base.sets [(WHL_STATUS_MODE, 0)]) : State), rfl, by decide +kernel⟩,
   ⟨(running ((let d := (base.sets [(WHL_STATUS_MODE, 0), (WHL_STATUS_TOKEN, 2), (WHL_STATUS_STATE_B, 4)]).ticks 2000000; { d with whl := { d.whl with leaseAt := some 0 } } : Dev)) : State), 0, 1, rfl, by decide +kernel⟩,
   ⟨(running ((let d := (base.sets [(WHL_STATUS_MODE, 0), (WHL_STATUS_TOKEN, 2), (WHL_STATUS_STATE_B, 4)]).ticks 2000000; { d with whl := { d.whl with leaseAt := some 0 } } : Dev)) : State), 0, 1, rfl, by decide +kernel⟩,
   ⟨running base, rfl, by decide +kernel⟩⟩

/-- Hypotheses of Obligations.WatchAndReturn. -/
theorem witness_WatchAndReturn :
    (∃ (s : State) (w : Fin 2), s.live ∧ (s.dev.whState w = 3 ∨ s.dev.whState w = 4 ∨ s.dev.whState w = 5) ∧ s.dev.acting = true ∧ (s.dev.wh w).claim ≤ (s.dev.wh (other w)).claim) ∧
    (∃ (s : State) (w : Fin 2), s.live ∧ (s.dev.whState w < 3 ∨ 5 < s.dev.whState w)) ∧
    (∃ (s : State) (w : Fin 2) (t : Nat) (u : Nat), s.live ∧ (s.dev.wh w).bbAt = some t ∧ (s.dev.wh w).wireAt = some u ∧ s.dev.whState w = 4 ∧ s.dev.whState (other w) = 3) ∧
    (∃ (s : State) (w : Fin 2) (t : Nat) (u : Nat), s.live ∧ (s.dev.wh w).bbAt = some t ∧ (s.dev.wh w).wireAt = some u ∧ s.dev.whState w = 3 ∧ s.dev.whState (other w) = 4) ∧
    (∃ (s : State) (w : Fin 2) (t : Nat) (u : Nat), s.live ∧ (s.dev.wh w).bbAt = some t ∧ (s.dev.wh w).wireAt = some u ∧ s.dev.whState w ≠ 3 ∧ s.dev.whState w ≠ 4) ∧
    (∃ (s : State) (w : Fin 2) (t : Nat), s.live ∧ (s.dev.wh w).bbAt = some t ∧ s.dev.whState w = 4 ∧ s.dev.whState (other w) = 3) ∧
    (∃ (s : State) (w : Fin 2), s.live ∧ (let e := (s.dev.setWhState w 6).emit (.link (28 + w) 2 0); s.dev.whState w = 4 ∧ e.isActive w = true ∧ e.whState (other w) = 3)) ∧
    (∃ (s : State) (w : Fin 2), s.live ∧ (let e := (s.dev.setWhState w 6).emit (.link (28 + w) 2 0); s.dev.whState w = 4 ∧ e.isActive w = true ∧ e.whState (other w) ≠ 3)) ∧
    (∃ (s : State) (w : Fin 2), s.live ∧ (let e := (s.dev.setWhState w 6).emit (.link (28 + w) 2 0); s.dev.whState w = 3 ∧ e.isActive w = false ∧ e.isActive (other w) = true)) ∧
    (∃ (s : State) (w : Fin 2), s.live ∧ (s.dev.whState w = 0 ∨ s.dev.whState w = 6)) ∧
    (∃ (s : State) (r : Requester), Reached s r 0x20004 ∧ s.dev.acting = true ∧ s.dev.watchMode = true ∧ s.dev.whState (other s.dev.activeWh) = 3 ∧ s.dev.healthy (other s.dev.activeWh) = true ∧ s.dev.whl.swap = false ∧ s.dev.whl.point = none) ∧
    (∃ (s : State) (r : Requester), Reached s r 0x20004 ∧ s.dev.acting = true ∧ s.dev.watchMode = true ∧ s.dev.whState (other s.dev.activeWh) = 3 ∧ s.dev.healthy (other s.dev.activeWh) = true ∧ s.dev.whl.swap = false ∧ s.dev.whl.point ≠ none) ∧
    (∃ (s : State) (r : Requester), Reached s r 0x20004 ∧ (s.dev.acting = false ∨ s.dev.watchMode = false ∨ s.dev.whState (other s.dev.activeWh) ≠ 3 ∨ s.dev.healthy (other s.dev.activeWh) = false)) ∧
    (∃ (s : State) (r : Requester) (w : Fin 2), Reached s r 0x20004 ∧ s.dev.watchMode = true ∧ s.dev.whState (other w) = 3 ∧ (let e := ((s.dev.unlatch r).setWhState w 6).emit (.link (28 + w) 2 0); s.dev.whState w = 4 ∧ e.isActive w = true ∧ e.whState (other w) = 3)) ∧
    (∃ (s : State) (r : Requester) (w : Fin 2), Reached s r 0x20004 ∧ (s.dev.watchMode = false ∨ s.dev.whState (other w) ≠ 3)) ∧
    (∃ (s : State) (r : Requester) (w : Fin 2), Reached s r 0x20004 ∧ (s.dev.whState w = 5 ∨ s.dev.whState w = 6) ∧ s.dev.whState (other w) = 4 ∧ s.dev.isActive (other w) = true) ∧
    (∃ (s : State) (r : Requester) (w : Fin 2), Reached s r 0x20004 ∧ (s.dev.whState w < 5 ∨ s.dev.whState (other w) ≠ 4)) ∧
    (∃ (d : Dev) (w : Fin 2) (v : Nat), d.whState w ≠ v ∧ v < 8 ∧ (v = 2 ∨ v = 3 ∨ v = 4)) ∧
    (∃ (d : Dev) (w : Fin 2) (v : Nat), d.whState w ≠ v ∧ v < 8 ∧ (v = 0 ∨ v = 1 ∨ v = 5 ∨ v = 6)) ∧
    (∃ (s : State) (w : Fin 2), s.live ∧ s.dev.whState w = 1 ∧ (s.dev.wh w).booted = false ∧ s.dev.whl.want = true) ∧
    (∃ (s : State) (w : Fin 2), s.live ∧ s.dev.whState w = 1 ∧ (s.dev.wh w).booted = false ∧ s.dev.whl.want = false ∧ s.dev.on RST_STATUS_LEASE_DONE = true ∧ s.dev.isActive (other w) = true) ∧
    (∃ (s : State) (w : Fin 2), s.live ∧ s.dev.whState w = 1 ∧ (s.dev.wh w).booted = false ∧ s.dev.whl.want = false ∧ s.dev.on RST_STATUS_LEASE_DONE = true ∧ s.dev.isActive (other w) = false) ∧
    (∃ (s : State) (w : Fin 2), s.live ∧ s.dev.whState w = 1 ∧ (s.dev.wh w).booted = false ∧ (let e := s.dev.setWhState w 6; e.whState (other w) ≠ 6)) ∧
    (∃ (s : State) (w : Fin 2), s.live ∧ s.dev.whState w = 1 ∧ (s.dev.wh w).booted = false ∧ (let e := s.dev.setWhState w 6; e.whState (other w) = 6)) ∧
    (∃ (s : State) (w : Fin 2), s.live ∧ s.dev.whState w ≠ 1) ∧
    (∃ (s : State) (w : Fin 2) (t : Nat), s.live ∧ s.dev.whl.stepAt = some t ∧ s.dev.whState w = 1 ∧ (s.dev.wh w).booted = false ∧ (s.dev.wh w).back = false ∧ (let e := (s.dev.atTick (t + 50000000)).setWhState w 6; e.whState (other w) ≠ 6)) ∧
    (∃ (s : State) (w : Fin 2) (t : Nat), s.live ∧ s.dev.whl.stepAt = some t ∧ s.dev.whState w = 1 ∧ (s.dev.wh w).booted = false ∧ (s.dev.wh w).back = false ∧ (let e := (s.dev.atTick (t + 50000000)).setWhState w 6; e.whState (other w) = 6)) ∧
    (∃ (s : State) (w : Fin 2) (t : Nat), s.live ∧ s.dev.whl.stepAt = some t ∧ s.dev.whState w ≠ 1) ∧
    (∃ (s : State) (w : Fin 2), s.live ∧ s.dev.whState w = 2 ∧ s.dev.isActive (other w) = true ∧ s.dev.diag 1 = true) ∧
    (∃ (s : State) (w : Fin 2), s.live ∧ s.dev.whState w = 2 ∧ s.dev.isActive (other w) = false) ∧
    (∃ (s : State) (w : Fin 2) (t : Nat), s.live ∧ s.dev.diag 1 = true ∧ s.dev.whState w = 3 ∧ (s.dev.wh w).healthAt = some t ∧ s.dev.tick ≤ t + 10000000) ∧
    (∃ (s : State) (w : Fin 2), s.live ∧ (s.dev.diag 1 = false ∨ s.dev.whState w ≠ 3)) :=
  ⟨⟨(running (base.sets [(WHL_STATUS_STATE_A, 4), (WHL_STATUS_STATE_B, 3), (WHL_STATUS_ACTIVE, 1)]) : State), 1, rfl, by decide +kernel⟩,
   ⟨(running (base.sets [(WHL_STATUS_STATE_A, 4), (WHL_STATUS_STATE_B, 2)]) : State), 1, rfl, by decide +kernel⟩,
   ⟨(running ((base.sets [(WHL_STATUS_STATE_A, 3), (WHL_STATUS_STATE_B, 4)]).setWh 1 { whl0 with bbAt := some 0, wireAt := some 9 }) : State), 1, 0, 9, rfl, by decide +kernel⟩,
   ⟨(running ((base.sets [(WHL_STATUS_STATE_A, 4), (WHL_STATUS_STATE_B, 3)]).setWh 1 { whl0 with bbAt := some 0, wireAt := some 9 }) : State), 1, 0, 9, rfl, by decide +kernel⟩,
   ⟨(running ((base.sets [(WHL_STATUS_STATE_A, 4), (WHL_STATUS_STATE_B, 5)]).setWh 1 { whl0 with bbAt := some 0, wireAt := some 9 }) : State), 1, 0, 9, rfl, by decide +kernel⟩,
   ⟨(running ((base.sets [(WHL_STATUS_STATE_A, 3), (WHL_STATUS_STATE_B, 4)]).setWh 1 { whl0 with bbAt := some 0, wireAt := some 9 }) : State), 1, 0, rfl, by decide +kernel⟩,
   ⟨(running (base.sets [(WHL_STATUS_STATE_A, 3), (WHL_STATUS_STATE_B, 4), (WHL_STATUS_ACTIVE, 2)]) : State), 1, rfl, by decide +kernel⟩,
   ⟨(running (base.sets [(WHL_STATUS_STATE_A, 6), (WHL_STATUS_STATE_B, 4), (WHL_STATUS_ACTIVE, 2)]) : State), 1, rfl, by decide +kernel⟩,
   ⟨(running (base.sets [(WHL_STATUS_STATE_A, 4), (WHL_STATUS_STATE_B, 3), (WHL_STATUS_ACTIVE, 1)]) : State), 1, rfl, by decide +kernel⟩,
   ⟨(running (base.sets [(WHL_STATUS_STATE_A, 4), (WHL_STATUS_STATE_B, 6)]) : State), 1, rfl, by decide +kernel⟩,
   ⟨(running (base.sets [(WHL_STATUS_STATE_A, 4), (WHL_STATUS_STATE_B, 3), (WHL_STATUS_ACTIVE, 1), (WHL_STATUS_MODE, 1)]) : State), .fn 0, reached_of (by decide +kernel), by decide +kernel⟩,
   ⟨(running ((let d := base.sets [(WHL_STATUS_STATE_A, 4), (WHL_STATUS_STATE_B, 3), (WHL_STATUS_ACTIVE, 1), (WHL_STATUS_MODE, 1)]; { d with whl := { d.whl with point := some ⟨1, [], 0, false⟩ } } : Dev)) : State), .fn 0, reached_of (by decide +kernel), by decide +kernel⟩,
   ⟨running base, .fn 0, reached_of (by decide +kernel), by decide +kernel⟩,
   ⟨(running (base.sets [(WHL_STATUS_STATE_A, 3), (WHL_STATUS_STATE_B, 4), (WHL_STATUS_ACTIVE, 2), (WHL_STATUS_MODE, 1)]) : State), .fn 0, 1, reached_of (by decide +kernel), by decide +kernel⟩,
   ⟨(running (base.sets [(WHL_STATUS_MODE, 0)]) : State), .fn 0, 1, reached_of (by decide +kernel), by decide +kernel⟩,
   ⟨(running (base.sets [(WHL_STATUS_STATE_A, 4), (WHL_STATUS_STATE_B, 5), (WHL_STATUS_ACTIVE, 1)]) : State), .fn 0, 1, reached_of (by decide +kernel), by decide +kernel⟩,
   ⟨(running (base.sets [(WHL_STATUS_STATE_A, 4), (WHL_STATUS_STATE_B, 4)]) : State), .fn 0, 1, reached_of (by decide +kernel), by decide +kernel⟩,
   ⟨base, 1, 2, by decide +kernel⟩,
   ⟨base, 1, 6, by decide +kernel⟩,
   ⟨(running ((let d := base.sets [(WHL_STATUS_STATE_A, 0), (WHL_STATUS_STATE_B, 1)]; { d with whl := { d.whl with want := true } } : Dev)) : State), 1, rfl, by decide +kernel⟩,
   ⟨(running (base.sets [(WHL_STATUS_STATE_A, 4), (WHL_STATUS_STATE_B, 1), (RST_STATUS_LEASE_DONE, 1), (WHL_STATUS_ACTIVE, 1)]) : State), 1, rfl, by decide +kernel⟩,
   ⟨(running (base.sets [(WHL_STATUS_STATE_A, 0), (WHL_STATUS_STATE_B, 1), (RST_STATUS_LEASE_DONE, 1)]) : State), 1, rfl, by decide +kernel⟩,
   ⟨(running (base.sets [(WHL_STATUS_STATE_A, 4), (WHL_STATUS_STATE_B, 1)]) : State), 1, rfl, by decide +kernel⟩,
   ⟨(running (base.sets [(WHL_STATUS_STATE_A, 6), (WHL_STATUS_STATE_B, 1)]) : State), 1, rfl, by decide +kernel⟩,
   ⟨(running (base.sets [(WHL_STATUS_STATE_A, 0), (WHL_STATUS_STATE_B, 0)]) : State), 1, rfl, by decide +kernel⟩,
   ⟨(running ((let d := base.sets [(WHL_STATUS_STATE_A, 4), (WHL_STATUS_STATE_B, 1)]; { d with whl := { d.whl with stepAt := some 9 } } : Dev)) : State), 1, 9, rfl, by decide +kernel⟩,
   ⟨(running ((let d := base.sets [(WHL_STATUS_STATE_A, 6), (WHL_STATUS_STATE_B, 1)]; { d with whl := { d.whl with stepAt := some 9 } } : Dev)) : State), 1, 9, rfl, by decide +kernel⟩,
   ⟨(running ((let d := base.sets [(WHL_STATUS_STATE_A, 4), (WHL_STATUS_STATE_B, 2)]; { d with whl := { d.whl with stepAt := some 9 } } : Dev)) : State), 1, 9, rfl, by decide +kernel⟩,
   ⟨(running ((base.sets [(WHL_STATUS_STATE_A, 4), (WHL_STATUS_STATE_B, 2), (WHL_STATUS_ACTIVE, 1)]).putForce (manKey 1 0 16) 2) : State), 1, live_of (by decide +kernel), by decide +kernel⟩,
   ⟨(running (base.sets [(WHL_STATUS_STATE_A, 4), (WHL_STATUS_STATE_B, 2)]) : State), 1, rfl, by decide +kernel⟩,
   ⟨(running (((base.sets [(WHL_STATUS_STATE_A, 4), (WHL_STATUS_STATE_B, 3)]).putForce (manKey 1 0 16) 2).setWh 1 { whl0 with healthAt := some 0 }) : State), 1, 0, live_of (by decide +kernel), by decide +kernel⟩,
   ⟨running base, 1, rfl, by decide +kernel⟩⟩

/-- Hypotheses of Obligations.HostInterface. -/
theorem witness_HostInterface :
    (∃ (s : State) (f : Fin 64), s.live ∧ s.dev.confOk f = true ∧ f.val ≠ 0) ∧
    (∃ (s : State) (f : Fin 64), s.live ∧ s.dev.confOk f = true ∧ f.val = 0) ∧
    (∃ (s : State) (f : Fin 64), s.live ∧ s.dev.confOk f = true ∧ s.dev.hst.d3.contains f.val = true) ∧
    (∃ (s : State) (f : Fin 64), s.live ∧ s.dev.confOk f = true ∧ s.dev.hst.d3.contains f.val = false) ∧
    (∃ (s : State) (f : Fin 64), s.live ∧ s.dev.confOk f = false) ∧
    (∃ (s : State), s.live ∧ s.dev.linkUp = true ∧ s.dev.on RST_STATUS_BOOT_DONE = false) ∧
    (∃ (s : State) (f : Fin 64), s.live ∧ s.dev.linkUp = true ∧ s.dev.on RST_STATUS_BOOT_DONE = true ∧ s.dev.hasFn f = false) ∧
    (∃ (s : State) (f : Fin 64) (c : ConfReq), s.live ∧ ((c = .other ∨ (∃ n, c = .numVfs n) ∨ (∃ b, c = .vfEnable b) ∨ (∃ b, c = .cacheEnable b))) ∧ s.dev.linkUp = true ∧ s.dev.on RST_STATUS_BOOT_DONE = true ∧ s.dev.hasFn f = true ∧ f.val ≠ 0) ∧
    (∃ (s : State) (f : Fin 64), s.live ∧ s.dev.linkUp = true ∧ s.dev.on RST_STATUS_BOOT_DONE = true ∧ s.dev.hasFn f = true) ∧
    (∃ (s : State) (n : Nat), s.live ∧ s.dev.linkUp = true ∧ s.dev.on RST_STATUS_BOOT_DONE = true ∧ s.dev.hst.vfEn = false ∧ 1 ≤ n ∧ n ≤ 63) ∧
    (∃ (s : State) (n : Nat), s.live ∧ s.dev.linkUp = true ∧ s.dev.on RST_STATUS_BOOT_DONE = true ∧ (s.dev.hst.vfEn = true ∨ n = 0 ∨ 63 < n)) ∧
    (∃ (s : State), s.live ∧ s.dev.linkUp = true ∧ s.dev.on RST_STATUS_BOOT_DONE = true) ∧
    (∃ (s : State), s.live ∧ s.dev.linkUp = true ∧ s.dev.on RST_STATUS_BOOT_DONE = true ∧ s.dev.on HST_STATUS_PCIE_ONLY = true) ∧
    (∃ (s : State), s.live ∧ s.dev.linkUp = true ∧ s.dev.on RST_STATUS_BOOT_DONE = true ∧ s.dev.on HST_STATUS_PCIE_ONLY = false) ∧
    (∃ (s : State) (w : Nat), s.live ∧ s.dev.rst.perst = false ∧ s.dev.linkUp = false ∧ s.dev.srdsOut = false ∧ (w = 4 ∨ w = 8 ∨ w = 16)) ∧
    (∃ (s : State), s.live ∧ (s.dev.rst.perst = true ∨ s.dev.linkUp = true)) ∧
    (∃ (s : State), s.live ∧ s.dev.linkUp = true ∧ s.dev.on HST_STATUS_CACHE_EN = true) ∧
    (∃ (s : State), s.live ∧ s.dev.linkUp = false) ∧
    (∃ (s : State), s.live ∧ s.dev.linkUp = true ∧ s.dev.mtx.waits = [] ∧ s.dev.mtx.hung = []) ∧
    (∃ (s : State) (f : Fin 64) (q : MtxReq), s.live ∧ s.dev.linkUp = true ∧ s.dev.mtx.waits = [q] ∧ s.dev.mtx.hung = [] ∧ masterOf q.req = 6 ∧ reqKey q.req = f.val ∧ q.wr = none ∧ q.told = false) ∧
    (∃ (s : State), s.live ∧ s.dev.linkUp = false) ∧
    (∃ (d : Dev), d.on HST_ERR_INFO_VALID = false) ∧
    (∃ (s : State), s.live ∧ s.dev.on MAN_STATUS_LOAD_BUSY = true ∧ s.dev.man.miss = false) ∧
    (∃ (s : State), s.live ∧ s.dev.on MAN_STATUS_LOAD_BUSY = false) ∧
    (∃ (s : State) (g : Fin 65), s.live ∧ s.dev.fetches g = true ∧ s.dev.get (SQ_HEAD g) ≠ s.dev.get (SQ_TAIL g)) ∧
    (∃ (s : State) (ip : Nat), s.live ∧ s.dev.mgmtOn = true ∧ s.dev.get HST_MGMT_IPV4 ≠ 0 ∧ ip = s.dev.get HST_MGMT_IPV4) ∧
    (∃ (s : State) (ip : Nat), s.live ∧ s.dev.mgmtOn = true ∧ (s.dev.get HST_MGMT_IPV4 = 0 ∨ ip ≠ s.dev.get HST_MGMT_IPV4)) ∧
    (∃ (s : State), s.live ∧ s.dev.mgmtOn = false) ∧
    (∃ (s : State) (off : Nat), s.live ∧ s.dev.hst.ptr % 4 = 0 ∧ s.dev.hst.ptr < 65532 ∧ i2cReg s.dev.hst.ptr = some off) ∧
    (∃ (s : State), s.live ∧ s.dev.hst.ptr < 65535 ∧ i2cReg (s.dev.hst.ptr / 4 * 4) = none) :=
  ⟨⟨(running ((let d := base.sets [(HST_STATUS_LINK_UP, 1)]; { d with hst := { d.hst with vfEn := true, numVfs := 63 } } : Dev)) : State), 63, rfl, by decide +kernel⟩,
   ⟨(running (base.sets [(HST_STATUS_LINK_UP, 1)]) : State), 0, rfl, by decide +kernel⟩,
   ⟨(running ((let d := base.sets [(HST_STATUS_LINK_UP, 1)]; { d with hst := { d.hst with vfEn := true, numVfs := 63, d3 := [63] } } : Dev)) : State), 63, rfl, by decide +kernel⟩,
   ⟨(running ((let d := base.sets [(HST_STATUS_LINK_UP, 1)]; { d with hst := { d.hst with vfEn := true, numVfs := 63 } } : Dev)) : State), 63, rfl, by decide +kernel⟩,
   ⟨running base, 63, rfl, by decide +kernel⟩,
   ⟨(running (base.sets [(HST_STATUS_LINK_UP, 1), (RST_STATUS_BOOT_DONE, 0)]) : State), rfl, by decide +kernel⟩,
   ⟨(running (base.sets [(HST_STATUS_LINK_UP, 1)]) : State), 63, rfl, by decide +kernel⟩,
   ⟨(running ((let d := base.sets [(HST_STATUS_LINK_UP, 1)]; { d with hst := { d.hst with vfEn := true, numVfs := 63 } } : Dev)) : State), 63, .other, rfl, .inl rfl, by decide +kernel⟩,
   ⟨(running ((let d := base.sets [(HST_STATUS_LINK_UP, 1)]; { d with hst := { d.hst with vfEn := true, numVfs := 63 } } : Dev)) : State), 63, rfl, by decide +kernel⟩,
   ⟨(running (base.sets [(HST_STATUS_LINK_UP, 1)]) : State), 63, rfl, by decide +kernel⟩,
   ⟨(running (base.sets [(HST_STATUS_LINK_UP, 1)]) : State), 64, rfl, by decide +kernel⟩,
   ⟨(running (base.sets [(HST_STATUS_LINK_UP, 1)]) : State), rfl, by decide +kernel⟩,
   ⟨(running (base.sets [(HST_STATUS_LINK_UP, 1), (HST_STATUS_PCIE_ONLY, 1)]) : State), rfl, by decide +kernel⟩,
   ⟨(running (base.sets [(HST_STATUS_LINK_UP, 1)]) : State), rfl, by decide +kernel⟩,
   ⟨running base, 16, rfl, by decide +kernel⟩,
   ⟨(running (base.sets [(HST_STATUS_LINK_UP, 1)]) : State), rfl, by decide +kernel⟩,
   ⟨(running (base.sets [(HST_STATUS_LINK_UP, 1), (HST_STATUS_CACHE_EN, 1)]) : State), rfl, by decide +kernel⟩,
   ⟨running base, rfl, by decide +kernel⟩,
   ⟨(running (base.sets [(HST_STATUS_LINK_UP, 1)]) : State), rfl, by decide +kernel⟩,
   ⟨(running ((let d := base.sets [(HST_STATUS_LINK_UP, 1)]; { d with mtx := { d.mtx with waits := [{ mtxReq0 with req := .fn 63 }] } } : Dev)) : State), 63, { mtxReq0 with req := .fn 63 }, rfl, by decide +kernel⟩,
   ⟨running base, rfl, by decide +kernel⟩,
   ⟨base, by decide +kernel⟩,
   ⟨(running (base.sets [(MAN_STATUS_LOAD_BUSY, 1)]) : State), rfl, by decide +kernel⟩,
   ⟨running base, rfl, by decide +kernel⟩,
   ⟨(running (base.sets [(RING_CFG_SQ_EN 0, 1), (RING_CFG_CQ_EN 0, 1), (HST_STATUS_LINK_UP, 1), (CMD_FN_QUOTA 0, 4), (SQ_TAIL 0, 1)]) : State), 0, rfl, by decide +kernel⟩,
   ⟨(running (base.sets [(HST_MGMT_CTL_EN, 1), (HST_MGMT_IPV4, 5)]) : State), 5, rfl, by decide +kernel⟩,
   ⟨(running (base.sets [(HST_MGMT_CTL_EN, 1), (HST_MGMT_IPV4, 5)]) : State), 6, rfl, by decide +kernel⟩,
   ⟨running base, rfl, by decide +kernel⟩,
   ⟨(running ((let d := base; { d with hst := { d.hst with ptr := 0x320 } } : Dev)) : State), (THM_SUPPLY_MV 0).off + 0x20, rfl, by decide +kernel⟩,
   ⟨(running ((let d := base; { d with hst := { d.hst with ptr := 65534 } } : Dev)) : State), rfl, by decide +kernel⟩⟩

/-- Hypotheses of Obligations.ModuleResets. -/
theorem witness_ModuleResets :
    (∃ (s : State), s.dev.rst.cold = true) ∧
    (∃ (a : Nat), a < dev0.get HLD_HOST_BASE) ∧
    (∃ (s : State), s.live ∧ s.dev.rst.phase = 0 ∧ s.dev.get HLD_STATUS_STATE ≠ 1) ∧
    (∃ (s : State), s.live ∧ (s.dev.rst.phase ≠ 0 ∨ s.dev.get HLD_STATUS_STATE = 1)) ∧
    (∃ (s : State), s.dev.rst.cold = false ∧ s.dev.rst.rstn = false ∧ s.dev.flt.bell = false) ∧
    (∃ (s : State), s.dev.rst.cold = false ∧ s.dev.rst.rstn = false ∧ s.dev.flt.bell = true) ∧
    (∃ (s : State), (s.dev.rst.cold = true ∨ s.dev.rst.rstn = true)) ∧
    (∃ (d : Dev), d.rst.phase ≠ 0) ∧
    (∃ (s : State), s.live ∧ s.dev.rst.phase = 1) ∧
    (∃ (s : State), s.live ∧ s.dev.rst.phase ≠ 1) ∧
    (∃ (s : State), s.live ∧ s.dev.rst.phase = 2) ∧
    (∃ (s : State), s.live ∧ s.dev.rst.phase ≠ 2) ∧
    (∃ (s : State), s.dev.rst.phase = 3 ∧ s.dev.rst.cold = false) ∧
    (∃ (s : State), s.dev.rst.phase ≠ 3) ∧
    (∃ (s : State) (r : Requester) (v : Nat), Reached s r 0xE0010 ∧ mayReset r = true ∧ v % 2 ^ 32 ≠ 0x4D525354) ∧
    (∃ (s : State) (r : Requester) (v : Nat), Reached s r 0xE0010 ∧ mayReset r = true ∧ v % 2 ^ 32 = 0x4D525354 ∧ s.dev.rst.armM = none) ∧
    (∃ (s : State) (r : Requester) (v : Nat) (t : Nat), Reached s r 0xE0010 ∧ mayReset r = true ∧ v % 2 ^ 32 = 0x4D525354 ∧ s.dev.rst.armM = some t ∧ s.dev.tick ≤ t + 1000000) ∧
    (∃ (s : State) (r : Requester) (v : Nat) (t : Nat), Reached s r 0xE0010 ∧ mayReset r = true ∧ v % 2 ^ 32 = 0x4D525354 ∧ s.dev.rst.armM = some t ∧ t + 1000000 < s.dev.tick) ∧
    (∃ (s : State) (r : Requester), Reached s r 0xE0010 ∧ mayReset r = false) ∧
    (∃ (s : State) (t : Nat), s.live ∧ s.dev.flt.l4At = some t ∧ s.dev.rst.phase = 0) ∧
    (∃ (s : State), s.live ∧ (s.dev.flt.l4At = none ∨ s.dev.rst.phase ≠ 0)) ∧
    (∃ (s : State) (k : Fin 9), s.live ∧ s.dev.rst.rails.contains k.val = true) ∧
    (∃ (s : State) (k : Fin 9), s.live ∧ s.dev.rst.rails.contains k.val = false ∧ (k.val = 0 ∨ k.val = 3 ∨ k.val = 4)) ∧
    (∃ (s : State) (k : Fin 9), s.live ∧ s.dev.rst.rails.contains k.val = false ∧ (k.val = 5 ∨ k.val = 6)) ∧
    (∃ (s : State) (k : Fin 9), s.live ∧ s.dev.rst.rails.contains k.val = false ∧ (k.val = 1 ∨ k.val = 2)) ∧
    (∃ (s : State) (k : Fin 9), s.live ∧ s.dev.rst.rails.contains k.val = false ∧ (k.val = 7 ∨ k.val = 8)) ∧
    (∃ (s : State) (k : Fin 9), s.live ∧ s.dev.rst.rails.contains k.val = false) ∧
    (∃ (s : State) (k : Fin 9), s.live ∧ s.dev.rst.rails = [k.val] ∧ (k.val = 5 ∨ k.val = 6)) ∧
    (∃ (s : State) (k : Fin 9), s.live ∧ s.dev.rst.rails = [k.val] ∧ k.val ≠ 5 ∧ k.val ≠ 6) :=
  ⟨⟨State.reset, by decide +kernel⟩,
   ⟨0, by decide +kernel⟩,
   ⟨running base, rfl, by decide +kernel⟩,
   ⟨(running (base.sets [(HLD_STATUS_STATE, 1)]) : State), rfl, by decide +kernel⟩,
   ⟨running base, by decide +kernel⟩,
   ⟨(running ((let d := base; { d with flt := { d.flt with bell := true } } : Dev)) : State), by decide +kernel⟩,
   ⟨(running ((let d := base; { d with rst := { d.rst with rstn := true } } : Dev)) : State), by decide +kernel⟩,
   ⟨(let d := base; { d with rst := { d.rst with phase := 1 } } : Dev), by decide +kernel⟩,
   ⟨(running ((let d := base; { d with rst := { d.rst with phase := 1, moorAt := 0, moorMs := 10 } } : Dev)) : State), rfl, by decide +kernel⟩,
   ⟨running base, rfl, by decide +kernel⟩,
   ⟨(running ((let d := base; { d with rst := { d.rst with phase := 2, parkAt := 5 } } : Dev)) : State), rfl, by decide +kernel⟩,
   ⟨running base, rfl, by decide +kernel⟩,
   ⟨(running ((let d := base; { d with rst := { d.rst with phase := 3 } } : Dev)) : State), by decide +kernel⟩,
   ⟨running base, by decide +kernel⟩,
   ⟨running base, .master 8, 0, reached_of (by decide +kernel), by decide +kernel⟩,
   ⟨running base, .master 8, 0x4D525354, reached_of (by decide +kernel), by decide +kernel⟩,
   ⟨(running ((let d := base.ticks 1000000; { d with rst := { d.rst with armM := some 0 } })) : State), .master 8, 0x4D525354, 0, reached_of (by decide +kernel), by decide +kernel⟩,
   ⟨(running ((let d := base.ticks 1000001; { d with rst := { d.rst with armM := some 0 } })) : State), .master 8, 0x4D525354, 0, reached_of (by decide +kernel), by decide +kernel⟩,
   ⟨running base, .master 9, reached_of (by decide +kernel), by decide +kernel⟩,
   ⟨(running ((let d := base; { d with flt := { d.flt with l4At := some 9 } } : Dev)) : State), 9, rfl, by decide +kernel⟩,
   ⟨running base, rfl, by decide +kernel⟩,
   ⟨(running ((let d := base; { d with rst := { d.rst with rails := [8] } } : Dev)) : State), 8, rfl, by decide +kernel⟩,
   ⟨running base, 4, rfl, by decide +kernel⟩,
   ⟨running base, 6, rfl, by decide +kernel⟩,
   ⟨running base, 2, rfl, by decide +kernel⟩,
   ⟨running base, 8, rfl, by decide +kernel⟩,
   ⟨running base, 8, rfl, by decide +kernel⟩,
   ⟨(running ((let d := base; { d with rst := { d.rst with rails := [6] } } : Dev)) : State), 6, rfl, by decide +kernel⟩,
   ⟨(running ((let d := base; { d with rst := { d.rst with rails := [8] } } : Dev)) : State), 8, rfl, by decide +kernel⟩⟩

/-- Hypotheses of Obligations.HelmResets. -/
theorem witness_HelmResets :
    (∃ (s : State) (r : Requester) (v : Nat), Reached s r 0xE0014 ∧ mayReset r = true ∧ v % 2 ^ 32 ≠ 0x48525354) ∧
    (∃ (s : State) (r : Requester) (v : Nat), Reached s r 0xE0014 ∧ mayReset r = true ∧ v % 2 ^ 32 = 0x48525354 ∧ s.dev.rst.armH = none) ∧
    (∃ (s : State) (r : Requester) (v : Nat) (t : Nat), Reached s r 0xE0014 ∧ mayReset r = true ∧ v % 2 ^ 32 = 0x48525354 ∧ s.dev.rst.armH = some t ∧ s.dev.tick ≤ t + 1000000) ∧
    (∃ (s : State) (r : Requester) (v : Nat) (t : Nat), Reached s r 0xE0014 ∧ mayReset r = true ∧ v % 2 ^ 32 = 0x48525354 ∧ s.dev.rst.armH = some t ∧ t + 1000000 < s.dev.tick) ∧
    (∃ (s : State) (r : Requester), Reached s r 0xE0014 ∧ mayReset r = false) ∧
    (∃ (d : Dev), (d.rst.phase ≠ 0 ∨ d.on RST_STATUS_HELM_BUSY = true)) ∧
    (∃ (d : Dev), d.rst.phase = 0 ∧ d.on RST_STATUS_HELM_BUSY = false ∧ d.on SEAL_STATUS_STAGED = false ∧ d.cmd.ops.cells = [] ∧ d.cmd.xings.cells = [] ∧ d.tide.tables.cells = [] ∧ d.tide.runs.cells = [] ∧ d.tide.sys.cells = [] ∧ d.tk.gather = [] ∧ d.levelOf 65 ≤ 1 ∧ (d.occ 65).level ≤ 1) ∧
    (∃ (s : State), s.live ∧ s.dev.linkUp = true) ∧
    (∃ (s : State), s.live ∧ s.dev.linkUp = false) ∧
    (∃ (s : State), s.dev.rst.perst = false ∧ s.held = false) ∧
    (∃ (s : State), s.dev.rst.perst = false ∧ s.held = true) ∧
    (∃ (s : State), s.dev.rst.perst = true) ∧
    (∃ (s : State) (r : Requester), Reached s r 0xE0008 ∧ s.dev.manLoaded = true ∧ s.dev.get WHL_STATUS_ACTIVE = 0 ∧ s.dev.on RST_STATUS_LEASE_DONE = false ∧ s.dev.whState 0 = 1 ∧ (s.dev.wh 0).booted = true) ∧
    (∃ (s : State) (r : Requester), Reached s r 0xE0008 ∧ s.dev.manLoaded = true ∧ s.dev.get WHL_STATUS_ACTIVE = 0 ∧ s.dev.on RST_STATUS_LEASE_DONE = false ∧ ((s.dev.whState 0 ≠ 1 ∨ (s.dev.wh 0).booted = false)) ∧ s.dev.whState 1 = 1 ∧ (s.dev.wh 1).booted = true) ∧
    (∃ (s : State) (r : Requester), Reached s r 0xE0008 ∧ s.dev.manLoaded = true ∧ s.dev.get WHL_STATUS_ACTIVE = 0 ∧ s.dev.on RST_STATUS_LEASE_DONE = false ∧ ((s.dev.whState 0 ≠ 1 ∨ (s.dev.wh 0).booted = false)) ∧ ((s.dev.whState 1 ≠ 1 ∨ (s.dev.wh 1).booted = false))) ∧
    (∃ (s : State) (r : Requester), Reached s r 0xE0008 ∧ (s.dev.manLoaded = false ∨ s.dev.get WHL_STATUS_ACTIVE ≠ 0 ∨ s.dev.on RST_STATUS_LEASE_DONE = true)) ∧
    (∃ (s : State), s.live ∧ s.dev.on RST_STATUS_HELM_BUSY = true ∧ s.dev.get WHL_STATUS_ACTIVE ≠ 0) ∧
    (∃ (s : State), s.live ∧ (s.dev.on RST_STATUS_HELM_BUSY = false ∨ s.dev.get WHL_STATUS_ACTIVE = 0)) ∧
    (∃ (k : Ticket), (k.tableOwned = true ∨ k.state = 3 ∨ k.state = 4 ∨ k.state = 5)) ∧
    (∃ (k : Ticket), k.tableOwned = false ∧ k.state = 1) ∧
    (∃ (d : Dev) (t : Nat) (k : Ticket), k.tableOwned = false ∧ k.state = 2 ∧ k.committed = false ∧ (k.restoring = false ∨ d.rst.lost.contains t = true)) ∧
    (∃ (d : Dev) (t : Nat) (k : Ticket), k.state = 2 ∧ k.restoring = true ∧ d.rst.lost.contains t = false) ∧
    (∃ (k : Ticket), k.state = 2 ∧ k.committed = true) ∧
    (∃ (d : Dev) (k : Ticket), k.tableOwned = false ∧ k.state = 6 ∧ k.committed = false ∧ d.cmd.xings.cells = []) :=
  ⟨⟨running base, .master 8, 0, reached_of (by decide +kernel), by decide +kernel⟩,
   ⟨running base, .master 8, 0x48525354, reached_of (by decide +kernel), by decide +kernel⟩,
   ⟨(running ((let d := base.ticks 1000000; { d with rst := { d.rst with armH := some 0 } })) : State), .master 8, 0x48525354, 0, reached_of (by decide +kernel), by decide +kernel⟩,
   ⟨(running ((let d := base.ticks 1000001; { d with rst := { d.rst with armH := some 0 } })) : State), .master 8, 0x48525354, 0, reached_of (by decide +kernel), by decide +kernel⟩,
   ⟨running base, .master 9, reached_of (by decide +kernel), by decide +kernel⟩,
   ⟨(let d := base; { d with rst := { d.rst with phase := 1 } } : Dev), by decide +kernel⟩,
   ⟨base, by decide +kernel⟩,
   ⟨(running (base.sets [(HST_STATUS_LINK_UP, 1)]) : State), rfl, by decide +kernel⟩,
   ⟨running base, rfl, by decide +kernel⟩,
   ⟨running base, by decide +kernel⟩,
   ⟨(running ((let d := base; { d with rst := { d.rst with cold := true } } : Dev)) : State), by decide +kernel⟩,
   ⟨(running ((let d := base; { d with rst := { d.rst with perst := true } } : Dev)) : State), by decide +kernel⟩,
   ⟨(running ((base.sets [(MAN_STATUS_LOADED, 1), (WHL_STATUS_STATE_A, 1)]).setWh 0 { whl0 with booted := true }) : State), .fn 0, reached_of (by decide +kernel), by decide +kernel⟩,
   ⟨(running ((base.sets [(MAN_STATUS_LOADED, 1), (WHL_STATUS_STATE_B, 1)]).setWh 1 { whl0 with booted := true }) : State), .fn 0, reached_of (by decide +kernel), by decide +kernel⟩,
   ⟨(running (base.sets [(MAN_STATUS_LOADED, 1)]) : State), .fn 0, reached_of (by decide +kernel), by decide +kernel⟩,
   ⟨running base, .fn 0, reached_of (by decide +kernel), by decide +kernel⟩,
   ⟨(running (base.sets [(RST_STATUS_HELM_BUSY, 1), (WHL_STATUS_ACTIVE, 1)]) : State), rfl, by decide +kernel⟩,
   ⟨running base, rfl, by decide +kernel⟩,
   ⟨{ tkt0 with state := 3 }, by decide +kernel⟩,
   ⟨{ tkt0 with state := 1 }, by decide +kernel⟩,
   ⟨base, 0, { tkt0 with state := 2 }, by decide +kernel⟩,
   ⟨base, 0, { tkt0 with state := 2, restoring := true }, by decide +kernel⟩,
   ⟨{ tkt0 with state := 2, committed := true }, by decide +kernel⟩,
   ⟨base, { tkt0 with state := 6 }, by decide +kernel⟩⟩

/-! ## Rows on small states, expected values from the spec -/

/-- R44's ports: IN203 enters ingress block 12, OUT077 leaves egress block 68 (R42's example). -/
theorem test_ports : ({ tkt0 with src := 203, dst := 77 } : Ticket).ends = { b := 12, p := 11, k := 4, z := 13 } := by decide
/-- Worked addresses: block 41's sensor (R214), port FP2 (R353), route entry 0x2A1 (R355). -/
theorem test_offsets :
    (THM_TEMP_REPORTED 41).off = 0xC01A4 ∧ (FRY_PORT_CTL_ENABLE 2).off = 0x70180 ∧ (FRY_ROUTE_PORT 0x2A1).off = 0x74A84 := by decide
/-- CRC-32C of 32 bytes of zeros (the RFC 3720 vector). -/
theorem test_crc32c : crc32c (List.replicate 8 0) = 0x8A9136AA := by decide +kernel

/-- The device a command leaves behind, and what it has put out. -/
def devOf : Ans → Dev
  | .next s => s.dev
  | _ => dev0

/-- R140: module time starts at 0 and advances by 1 ns a tick. -/
theorem test_idle_tick : (devOf (step (running base))).mt = 4294967296 ∧ (devOf (step (running base))).now = 1 := by decide +kernel
/-- A cold reset's release lets commands have their effect (R456). -/
theorem test_release : (devOf (exec .coldResetRelease State.reset)).rst.cold = false := by decide +kernel
/-- R32, R33: a word with a wrong parity bit is answered by NAK; a sound one is accepted. -/
theorem test_backbone_nak : (devOf (exec (.backboneWord 3 7 1) (running base))).out.head? = some (.link 3 1 7) := by decide +kernel
theorem test_backbone_word : ((devOf (exec (.backboneWord 3 7 0) (running base))).link 3).accepted = 1 := by decide +kernel
/-- R59: a closed gate that reads above -45 dBm raises FAB_LAMP_LEAK (class 11, R293); at -45.00 it does not. -/
theorem test_lamp_leak : ((devOf (exec (.lampLeak 31 (-4499)) (running base))).occ 11).level = 2 := by decide +kernel
theorem test_lamp_tight : ((devOf (exec (.lampLeak 31 (-4500)) (running base))).occ 11).level = 0 := by decide +kernel
/-- R452: the key written once arms, within 1 ms again resets. -/
theorem test_rst_module_arms : (devOf (exec (.rstModule (.fn 0) 0x4D525354) (running base))).rst.phase = 0 := by decide +kernel
theorem test_rst_module_acts :
    (devOf (exec (.rstModule (.fn 0) 0x4D525354) (running (devOf (exec (.rstModule (.fn 0) 0x4D525354) (running base)))))).rst.phase = 1 := by
  decide +kernel
/-- FIPS 180-4's vector: the SHA-256 of "abc". -/
theorem test_sha256 : sha256 [0x61, 0x62, 0x63] = [0xba, 0x78, 0x16, 0xbf, 0x8f, 0x01, 0xcf, 0xea, 0x41, 0x41, 0x40, 0xde, 0x5d, 0xae, 0x22, 0x23,
    0xb0, 0x03, 0x61, 0xa3, 0x96, 0x17, 0x7a, 0x9c, 0xb4, 0x10, 0xff, 0x61, 0xf2, 0x00, 0x15, 0xad] := by decide +kernel
/-- RFC 4231, case 2: the HMAC-SHA-256 of "what do ya want for nothing?" under "Jefe", its first four bytes. -/
theorem test_hmac256 : (hmac256 [0x4a, 0x65, 0x66, 0x65] [0x77, 0x68, 0x61, 0x74, 0x20, 0x64, 0x6f, 0x20, 0x79, 0x61, 0x20, 0x77, 0x61, 0x6e, 0x74,
    0x20, 0x66, 0x6f, 0x72, 0x20, 0x6e, 0x6f, 0x74, 0x68, 0x69, 0x6e, 0x67, 0x3f]).take 4 = [0x5b, 0xdc, 0xc1, 0x46] := by decide +kernel
/-- The check value of CRC-64 (ECMA-182) over "123456789". -/
theorem test_crc64 : crc64 [0x31, 0x32, 0x33, 0x34, 0x35, 0x36, 0x37, 0x38, 0x39] = 0x6C40DF5F0B497347 := by decide +kernel
/-- R217: a doorbell beyond the ring sets SQ_ERR. -/
theorem test_doorbell_beyond : (devOf (exec (.doorbell (.fn 0) 0 64) (running base))).on (RING_STATUS_SQ_ERR 0) = true := by decide +kernel

/-! ## Commands whose operands nothing can bring are refused by the check -/

/-- A frame of a word beyond 32 bits, and one of more words than LENGTH can say. -/
def badFrames : List RawFrame := [⟨[2 ^ 32], true⟩, ⟨List.replicate 512 0, true⟩]
theorem smoke_frames : (badFrames.all fun f => !([Instr.proposal 0 f, .vote 0 f, .decision 0 f, .decisionReport 0 f, .safety none f,
    .safetyAck none f, .frameForward 0 f, .hello 0 f, .nak 0 f, .sync 0 f, .delayReq 0 f, .delayResp 0 f, .telemetry 0 f,
    .trigger 0 f, .approval none 0 f, .keyLoad none 0 f, .statusReq none 0 f].any Instr.wellFormed)) = true := by decide +kernel
/-- An entry of a list word beyond 32 bits, and one of more words than its items can fill. -/
def badEntries : List RawEntry := [⟨0, [2 ^ 32], true⟩, ⟨0, List.replicate 2048 0, true⟩]
theorem smoke_entries : (badEntries.all fun e => !([Instr.cancel 0 e, .entryFetch 0 (some e)].any Instr.wellFormed)) = true := by decide +kernel
/-- A file longer than its length can say. -/
theorem smoke_files (b : Bool) : ([Instr.tidLoad 0 ⟨b, List.replicate (2 ^ 32) 0⟩, .calLoadComplete ⟨b, List.replicate (2 ^ 32) 0⟩,
    .manLoadComplete ⟨b, List.replicate (2 ^ 32) 0⟩, .proposalStage ⟨b, List.replicate (2 ^ 32) 0⟩].any Instr.wellFormed) = false := by
  have h : HostFile.ok ⟨b, List.replicate (2 ^ 32) 0⟩ = false := by
    unfold HostFile.ok
    rw [List.length_replicate]
    decide
  simp only [List.any_cons, List.any_nil, Instr.wellFormed, h, Bool.and_false, Bool.or_false]
theorem smoke_access : ([Instr.registerWrite (.fn 0) 2 false 0, .registerWrite (.fn 0) 4 true 0, .registerWrite (.fn 1) 0x10000 false 0,
    .registerWrite (.fn 0) 0 false (2 ^ 32), .registerWrite (.fn 0) 0 true (2 ^ 64), .read64Low (.fn 0) 2, .write64High (.fn 0) 2 0,
    .write64High (.fn 0) 0 (2 ^ 32), .readClear (.fn 0) 0x4010000 false, .accessBadWidth (.fn 0) 0x4010000 1 [] false,
    .accessBadWidth (.fn 0) 0 4097 [] false, .accessBadWidth (.fn 0) 0 1 [0, 0, 0, 0, 0] false, .accessBadWidth (.fn 0) 0 1 [2 ^ 32] false,
    .matrixAccess (.master 0) 0x810000000000 none false false, .matrixAccess (.master 0) 0 (some (2 ^ 32)) false false].any
    Instr.wellFormed) = false := by decide +kernel
theorem smoke_tags : ([Instr.crossing (2 ^ 32), .tktPrio (2 ^ 32), .tidLoad (2 ^ 32) file0, .tidStart (2 ^ 32), .tidStop (2 ^ 32),
    .tidUnload (2 ^ 32), .sysPart (2 ^ 32), .sysPropose (2 ^ 32), .nop (2 ^ 32), .voteDeadline (2 ^ 64), .decisionCheck (2 ^ 64)].any
    Instr.wellFormed) = false := by decide +kernel
theorem smoke_units : ([Instr.backboneWord 0 (2 ^ 64) 0, .backboneWord 0 0 16, .lampLeak 0 32768, .prtVoaRb 0 65536, .wearRestore (.fn 0) 0 (2 ^ 48),
    .ticketTelemetry [(512, 0)] [] [] [], .ticketTelemetry [] [(0, 32768)] [] [], .ticketTelemetry [] [] [(512, 0)] [],
    .ticketTelemetry [] [] [] [(32, 0)], .replicaCheck [(32, 0)], .replicaCheck [(0, 2 ^ 63)], .ptpSync false 256 0 0, .ptpSync false 0 65536 0,
    .ptpSync false 0 0 (2 ^ 63), .ptpAnnounce false 256 0 0, .ptpAnnounce false 0 (2 ^ 64) 0, .ptpAnnounce false 0 0 65536, .cellLoopUpdate 0 32768 0,
    .cellLoopUpdate 0 0 32768, .portGroupUpdate 0 32768, .adcSelfComplete [(32768, 0)], .adcSelfComplete [(0, 65536)], .calReachReq (.fn 0) (2 ^ 32),
    .calAccWrite (.fn 0) (2 ^ 64), .reachRunEnd 0 [⟨13824, false, [], []⟩], .reachRunEnd 0 [⟨0, false, List.replicate 17 (0, 0), []⟩],
    .reachRunEnd 0 [⟨0, false, [], [(0, 32768)]⟩], .housekeepingRound [(0, [65536])]].any Instr.wellFormed) = false := by decide +kernel
theorem smoke_values : ([Instr.housekeepingReport [some (2 ^ 31)] [] 0, .housekeepingReport [] [2 ^ 31] 0, .housekeepingReport [] [] (2 ^ 31),
    .doorbell (.fn 0) 0 (2 ^ 32), .cqHeadWrite (.fn 0) 0 (2 ^ 32), .eqHeadWrite (.fn 0) 0 (2 ^ 32), .tollChange (.fn 0) 0 .rate (2 ^ 32),
    .fieldWrite (.fn 0) (2 ^ 32), .approval none (2 ^ 48) ⟨[], true⟩, .keyLoad none (2 ^ 48) ⟨[], true⟩, .statusReq none (2 ^ 48) ⟨[], true⟩,
    .commitPointClose [(0, 2 ^ 64)], .outputStageWord 0 0 (2 ^ 32) 0 false, .outputStageWord 0 0 0 (2 ^ 48) false, .discClear (.fn 0) (2 ^ 32),
    .slotRestart (.fn 0) (2 ^ 32), .testDarkening [(true, 512)], .portUp 0 (2 ^ 32) 0, .portUp 0 0 (2 ^ 32), .sailingWindow 0 (2 ^ 32),
    .arpRequest (2 ^ 32) 0 0, .arpRequest 0 (2 ^ 32) 0, .arpRequest 0 0 (2 ^ 48), .hangRelease (.fn 0) (2 ^ 32), .svyReq (.fn 0) 0 (2 ^ 32),
    .conversionDone 0 [65536], .openWireStep 0 65536 0, .openWireStep 0 0 65536, .recMark (.fn 0) 0 (2 ^ 32),
    .rstModule (.fn 0) (2 ^ 32), .rstHelm (.fn 0) (2 ^ 32), .flInject (.fn 0) 0 (2 ^ 32), .bbInject (.fn 0) 0 (2 ^ 32), .holdTestMode (.fn 0) (2 ^ 32),
    .codeword 0 (2 ^ 20) false false false, .cxlTrainingEnd 256 0 false, .cxlTrainingEnd 0 256 false, .prbsCheckerLock 0 [] (2 ^ 64),
    .i2cRead 0].any Instr.wellFormed) = false := by decide +kernel
theorem smoke_host : ([Instr.hostRequestTimeout 0 [2 ^ 32] false, .poisonWrite 0 [2 ^ 32] false, .readFail 4 [] false .manifest, .readFail 5 [2 ^ 32] false .manifest,
    .readFail 5 [] false (.list (2 ^ 32)), .readFail 5 [] false (.table (2 ^ 32)), .readFail 5 [] false (.dma 0 (2 ^ 32) 0 []),
    .readFail 5 [] false (.dma 0 0 (2 ^ 64) []), .unexpectedCpl 0 [2 ^ 32] false, .urOther 0 [2 ^ 32] false, .malformedTlp false 0 [2 ^ 32] false,
    .configurationRequest 0 (.numVfs 65536), .holdUp (.type3 65536 1 8), .holdUp (.type3 64 3 8), .holdUp (.type3 64 1 17), .holdLoss [(2 ^ 64, 0)],
    .holdPoison (.dma 0 (2 ^ 32) 0), .holdPoison (.dma 0 0 (2 ^ 64)), .railLoss 0 [(0, 2 ^ 64)], .dmaDisable (.fn 0) 0 true [(2 ^ 64, 0)],
    .dmaComplete 0 256 0 0 [], .dmaComplete 0 0 (2 ^ 32) 0 [], .dmaComplete 0 0 0 (2 ^ 64) [],
    .fault [⟨128, 0, 0, 0, []⟩], .fault [⟨0, 16, 0, 0, []⟩], .fault [⟨0, 0, 2 ^ 28, 0, []⟩], .fault [⟨0, 0, 0, 256, []⟩],
    .fault [⟨0, 0, 0, 0, [2 ^ 32]⟩]].any Instr.wellFormed) = false := by decide +kernel
/-- Sound ones pass. -/
theorem smoke_sound : ([Instr.registerWrite (.fn 1) 0xFFFC false 0xFFFFFFFF, .crossing 16383, .tidLoad 0 srcFile, .manLoadComplete file0,
    .proposalStage file0, .calLoadComplete file0, .fault [⟨127, 15, 2 ^ 28 - 1, 255, []⟩], .hello 7 (rawOf (frameOf 0x70 3 64 [])),
    .entryFetch 64 (some (rawEntry 1 1 0 0)), .voteDeadline (2 ^ 64 - 1), .holdUp (.type3 1024 2 8), .i2cRead 1,
    .reachRunEnd 11 [⟨13823, true, List.replicate 16 (-32768, 32767), []⟩]].all Instr.wellFormed) = true := by
  decide +kernel

end Sys2Proof.Tests.Slice0
end

section
/-! SUPPORT. A hop of the backbone (R32-R35): what its sender sends next, what its receiver makes of a word, what a NAK brings about. -/

namespace Sys2Proof.Machine

/-! ## The sender's next word (R33) -/

/-- A word that is not the next one of a replay does not leave the sender. -/
theorem Link.next_of_replay_ne {k : Link} {w v : Nat} {q : List Nat} (ha : k.again = v :: q) (hv : v ≠ w) : k.next w = none := by
  simp [Link.next, ha, hv]

theorem Link.next_of_replay {k : Link} {w : Nat} {q : List Nat} (ha : k.again = w :: q) : k.next w = some w := by
  simp [Link.next, ha]

/-- Eight unacknowledged words stall the sender. -/
theorem Link.next_of_full {k : Link} (w : Nat) (ha : k.again = []) (hr : 8 ≤ k.retry.length) : k.next w = none := by
  simp [Link.next, ha, hr]

theorem Link.next_of_room {k : Link} (w : Nat) (ha : k.again = []) (hr : k.retry.length < 8) : k.next w = some w := by
  simp [Link.next, ha, hr]

/-- A word of a replay is in the retry buffer already. -/
theorem Link.sent_of_replay {k : Link} {v : Nat} {q : List Nat} (w : Nat) (ha : k.again = v :: q) : k.sent w = { k with again := q } := by
  simp [Link.sent, ha]

theorem Link.sent_of_new {k : Link} (w : Nat) (ha : k.again = []) : k.sent w = { k with retry := k.retry ++ [w] } := by
  simp [Link.sent, ha]

/-! ## A word arrives (R32) -/

section Word

variable {d : Dev} {l w bad : Nat}

/-- Nothing leaves the sender, so nothing arrives. -/
theorem Dev.rowBackboneWord_of_none (hn : (d.link l).next w = none) : d.rowBackboneWord l w bad = d := by
  simp [Dev.rowBackboneWord, hn]

/-- A receiver that waits for a replay discards the word: its sender alone notes it. -/
theorem Dev.rowBackboneWord_of_discard (hf : (d.link l).failed = false) (hd : (d.link l).discard = true)
    (hn : (d.link l).next w = some w) : d.rowBackboneWord l w bad = d.setLink l ((d.link l).sent w) := by
  simp [Dev.rowBackboneWord, hf, hd, hn]

/-- Four parities that agree: the word is accepted and so acknowledged. -/
theorem Dev.rowBackboneWord_of_accept (hf : (d.link l).failed = false) (hd : (d.link l).discard = false)
    (hn : (d.link l).next w = some w) (hb : bad % 16 = 0) (hc : (d.link l).corrupt = 0) :
    d.rowBackboneWord l w bad = d.setLink l { (d.link l).sent w with
      retry := ((d.link l).sent w).retry.drop 1, replays := 0, accepted := (d.link l).accepted + 1 } := by
  simp [Dev.rowBackboneWord, hf, hd, hn, hb, hc]

/-- A parity error: a NAK, BKB_PARITY, and the receiver waits for the replay. -/
theorem Dev.rowBackboneWord_of_parity (hf : (d.link l).failed = false) (hd : (d.link l).discard = false)
    (hn : (d.link l).next w = some w) (hb : bad % 16 ≠ 0) :
    d.rowBackboneWord l w bad = ((d.setLink l { (d.link l).sent w with
      discard := true, corrupt := (d.link l).corrupt - 1 }).emit (.link l 1 w)).raise 66 (hopUnit l).1 (hopUnit l).2 0
      (linkDetail (bad % 16) (d.link l).replays w) := by
  simp [Dev.rowBackboneWord, hf, hd, hn, hb]

end Word

theorem does_backboneWord {s : State} {d : Dev} {l : Fin 66} {w bad : Nat} (h : s.live) (hd : s.dev.rowBackboneWord l w bad = d) :
    Does (.backboneWord l w bad) s d := hd ▸ s.upd_live _ h

/-! ## A NAK arrives (R33) -/

/-- A replay puts out its words in order and changes nothing else. -/
theorem Dev.replayAll_eq (d : Dev) (l : Nat) (ws : List Nat) : d.replayAll l ws = { d with out := d.out ++ ws.map (.link l 0 ·) } := by
  induction ws generalizing d with
  | nil => simp [Dev.replayAll]
  | cons w ws ih => simp [Dev.replayAll, ih, Dev.emit]

section Nak

variable {d : Dev} {l : Nat}

/-- A receiver that discards nothing has sent no NAK. -/
theorem Dev.rowBackboneNak_of_no_discard (hd : (d.link l).discard = false) : d.rowBackboneNak l = d := by
  simp [Dev.rowBackboneNak, hd]

theorem Dev.rowBackboneNak_of_replay (hf : (d.link l).failed = false) (hd : (d.link l).discard = true) (hr : (d.link l).replays < 4) :
    d.rowBackboneNak l = { d.setLink l { d.link l with
        again := (d.link l).retry, discard := false, replays := (d.link l).replays + 1 } with
      out := d.out ++ (d.link l).retry.map (.link l 0 ·) } := by
  simp [Dev.rowBackboneNak, hf, hd, hr, Dev.replayAll_eq]

theorem Dev.rowBackboneNak_of_fail (hf : (d.link l).failed = false) (hd : (d.link l).discard = true) (hr : 4 ≤ (d.link l).replays) :
    d.rowBackboneNak l = d.failLink l := by
  simp [Dev.rowBackboneNak, hf, hd, hr]

end Nak

/-- Links 0-23 are the reaches', two of each (R31). -/
theorem linkReach_of_lt {l : Nat} (hl : l < 24) : linkReach l = some (l / 2) := by
  have : l / 2 < 12 := by omega
  simp [linkReach, this]

theorem linkReach_of_le {l : Nat} (hl : 24 ≤ l) : linkReach l = none := by
  have : ¬ l / 2 < 12 := by omega
  simp [linkReach, this]

/-- A failed reach link isolates its reach (R35). -/
theorem Dev.failLink_of_reach (d : Dev) {l : Nat} (hl : l < 24) :
    let e := (((((d.setLink l { d.link l with failed := true }).setRch (l / 2) { d.rch (l / 2) with isolated := true }).abortRun
      (l / 2)).linkOut (3 + l / 2)).refuseIsolated)
    d.failLink l = ((e.svyAbort (2 * (l / 2))).svyAbort (2 * (l / 2) + 1)).refresh.raise 33 4 (l / 2) 0
      (linkDetail 0 (d.link l).replays ((d.link l).retry.headD 0)) := by
  unfold Dev.failLink
  rw [linkReach_of_lt hl]
  rfl

/-- Any other link but the hold's isolates no reach and answers no access (R31, R411). -/
theorem Dev.failLink_of_other (d : Dev) {l : Nat} (hl : 24 ≤ l) (hp : l / 2 ≠ 16) :
    d.failLink l = (d.setLink l { d.link l with failed := true }).raise 67 (hopUnit l).1 (hopUnit l).2 0
      (linkDetail 0 (d.link l).replays ((d.link l).retry.headD 0)) := by
  unfold Dev.failLink
  rw [linkReach_of_le hl]
  simp only [hp, if_false]

theorem does_backboneNak {s : State} {d : Dev} {l : Fin 66} (h : s.live) (hd : s.dev.rowBackboneNak l = d) :
    Does (.backboneNak l) s d := hd ▸ s.upd_live _ h

/-- A device that differs in one link and its outputs alone is given by what they read as. -/
theorem Dev.reads_of_setLink_out {d e : Dev} {l : Nat} {x : Link} {o : List Out} (he : e = { d.setLink l x with out := o }) :
    e.link l = x ∧ e.out = o ∧ e = { d.setLink l (e.link l) with out := e.out } := by
  subst he
  have hl : ({ d.setLink l x with out := o } : Dev).link l = x := d.link_setLink_self l x
  exact ⟨hl, rfl, by rw [hl]⟩

/-- Settles O11: each clause is the case of the word's or the NAK's row that its premises name. -/
theorem backboneLinks : Obligations.BackboneLinks := by
  unfold Obligations.BackboneLinks
  refine ⟨?accept, ?acceptReplayed, ?outOfTurn, ?parity, ?discard, ?stall, ?replay, ?failReach, ?failOther, ?noNak⟩
  case accept =>
    intro s l w bad h hf hd ha hr hb hc
    have hn := Link.next_of_room w ha (by simp [hr])
    exact does_backboneWord h ((Dev.rowBackboneWord_of_accept hf hd hn hb hc).trans (by simp [Link.sent_of_new w ha, hr]))
  case acceptReplayed =>
    intro s l w bad q p h hf hd ha hr hb hc
    have hn := Link.next_of_replay ha
    exact does_backboneWord h ((Dev.rowBackboneWord_of_accept hf hd hn hb hc).trans (by simp [Link.sent_of_replay w ha, hr]))
  case outOfTurn =>
    intro s l w v bad q h ha hv
    exact does_backboneWord h (Dev.rowBackboneWord_of_none (Link.next_of_replay_ne ha hv))
  case parity =>
    intro s l w bad h hf hd ha hr hb
    have hn := Link.next_of_room w ha (by simp [hr])
    exact does_backboneWord h ((Dev.rowBackboneWord_of_parity hf hd hn hb).trans (by simp [Link.sent_of_new w ha, hr]))
  case discard =>
    intro s l w bad h hf hd ha hr
    have hn := Link.next_of_room w ha hr
    exact does_backboneWord h ((Dev.rowBackboneWord_of_discard hf hd hn).trans (by rw [Link.sent_of_new w ha]))
  case stall =>
    intro s l w bad h ha hr
    exact does_backboneWord h (Dev.rowBackboneWord_of_none (Link.next_of_full w ha hr))
  case replay =>
    intro s l h hf hd hr
    exact ⟨_, does_backboneNak h rfl, Dev.reads_of_setLink_out (Dev.rowBackboneNak_of_replay hf hd hr)⟩
  case failReach =>
    intro s l h hf hd hr hl
    exact does_backboneNak h ((Dev.rowBackboneNak_of_fail hf hd hr).trans (s.dev.failLink_of_reach hl))
  case failOther =>
    intro s l h hf hd hr hl hp
    exact does_backboneNak h ((Dev.rowBackboneNak_of_fail hf hd hr).trans (s.dev.failLink_of_other hl hp))
  case noNak =>
    intro s l h hd
    exact does_backboneNak h (Dev.rowBackboneNak_of_no_discard hd)

end Sys2Proof.Machine
end

section
/-! SUPPORT. The path of a block as the line it enters each stage on, and what the boundaries and the cells do to its bits (R46, R47). -/

namespace Sys2Proof.Machine

/-! ## Bits of a line -/

theorem bit_eq_testBit (v i : Nat) : bit v i = v.testBit i := by
  simp [bit, Nat.testBit_eq_decide_div_mod_eq]

/-- Numbers of n bits that agree in each are equal. -/
theorem eq_of_bits {n x y : Nat} (hx : x < 2 ^ n) (hy : y < 2 ^ n) (h : ∀ k < n, bit x k = bit y k) : x = y := by
  refine Nat.eq_of_testBit_eq fun k => ?_
  rcases Nat.lt_or_ge k n with hk | hk
  · simpa [bit_eq_testBit] using h k hk
  · have hp := Nat.pow_le_pow_right Nat.two_pos hk
    rw [Nat.testBit_lt_two_pow (hx.trans_le hp), Nat.testBit_lt_two_pow (hy.trans_le hp)]

/-- The bits above i, bit i and the bits below it, of a number with bit i set to b. -/
theorem putBit_eq (v i : Nat) (b : Bool) : putBit v i b = 2 ^ i * (2 * (v / 2 ^ i / 2) + b.toNat) + v % 2 ^ i := by
  have hv : v = 2 ^ i * (2 * (v / 2 ^ i / 2)) + v / 2 ^ i % 2 * 2 ^ i + v % 2 ^ i := by
    rw [Nat.mul_comm (v / 2 ^ i % 2), ← Nat.mul_add, Nat.div_add_mod, Nat.div_add_mod]
  have hb : (if b then 1 else 0) % 2 ^ 1 * 2 ^ i = 2 ^ i * b.toNat := by cases b <;> simp
  rw [putBit, putBits, bits, hb, pow_one, Nat.mul_add]
  omega

theorem bit_putBit (v i : Nat) (b : Bool) (k : Nat) : bit (putBit v i b) k = if k = i then b else bit v k := by
  rw [bit_eq_testBit, putBit_eq, Nat.testBit_two_pow_mul_add _ (Nat.mod_lt _ (Nat.two_pow_pos i))]
  rcases Nat.lt_trichotomy k i with hk | rfl | hk
  · simp [hk, hk.ne, bit_eq_testBit, Nat.testBit_mod_two_pow]
  · cases b <;> simp
  · obtain ⟨j, rfl⟩ := Nat.exists_eq_add_of_lt hk
    have hhalf : (2 * (v / 2 ^ i / 2) + b.toNat) / 2 = v / 2 ^ i / 2 := by cases b <;> simp; omega
    rw [if_neg (by omega), if_neg (by omega), Nat.add_assoc, Nat.add_sub_cancel_left, Nat.testBit_add_one, hhalf,
      ← Nat.testBit_add_one, Nat.testBit_div_two_pow, bit_eq_testBit, Nat.add_comm]

theorem putBit_lt {n v i : Nat} (hv : v < 2 ^ n) (hi : i < n) (b : Bool) : putBit v i b < 2 ^ n := by
  refine Nat.lt_pow_two_of_testBit _ fun k hk => ?_
  rw [← bit_eq_testBit, bit_putBit, if_neg (by omega), bit_eq_testBit]
  exact Nat.testBit_lt_two_pow (hv.trans_le (Nat.pow_le_pow_right Nat.two_pos hk))

/-- Bit k of a line after the exchange: bit q at 0, bit 0 at q, every other bit where it was. -/
theorem bit_swapBits (l q k : Nat) :
    bit (swapBits l q) k = if k = q then bit l 0 else if k = 0 then bit l q else bit l k := by
  simp only [swapBits, bit_putBit]

theorem swapBits_lt {n l q : Nat} (hl : l < 2 ^ n) (hq : q < n) : swapBits l q < 2 ^ n :=
  putBit_lt (putBit_lt hl (Nat.zero_lt_of_lt hq) _) hq _

/-! ## The line a path is on -/

/-- The line a path leaves stage s on, entered on line l. -/
def lineOut (z c s l : Nat) : Nat := putBit l 0 (xor (bit l 0) (needs s l z c))

/-- The line a path from line p enters stage s on; at 9 the line it leaves stage 8 on. -/
def lineAt (p z c : Nat) : Nat → Nat
  | 0 => p
  | s + 1 =>
    let out := lineOut z c s (lineAt p z c s)
    if s < 8 then swapBits out (boundary s) else out

/-- The cell met at stage s: its row, the state it must hold, the line in. -/
def met (p z c s : Nat) : Nat × Bool × Nat := (lineAt p z c s / 2, needs s (lineAt p z c s) z c, lineAt p z c s)

theorem lineAt_succ {s : Nat} (p z c : Nat) (hs : s < 8) :
    lineAt p z c (s + 1) = swapBits (lineOut z c s (lineAt p z c s)) (boundary s) := by
  simp [lineAt, hs]

theorem benesFrom_lineAt (p z c n s : Nat) :
    benesFrom z c n s (lineAt p z c s) = (List.range' s n).map (met p z c) := by
  induction n generalizing s with
  | zero => rfl
  | succ n ih => rw [List.range'_succ, List.map_cons, ← ih]; rfl

/-- A block's path is the cells met in stages 0 to 8. -/
theorem benes_eq (p z c : Nat) : benes p z c = (List.range' 0 9).map (met p z c) := benesFrom_lineAt p z c 9 0

theorem benes_length (p z c : Nat) : (benes p z c).length = 9 := by simp [benes_eq]

theorem benes_at {s : Nat} (p z c : Nat) (hs : s < 9) : (benes p z c)[s]? = some (met p z c s) := by
  simp [benes_eq, hs]

theorem benes_at_iff {p z c s : Nat} {h : Nat × Bool × Nat} : (benes p z c)[s]? = some h ↔ s < 9 ∧ met p z c s = h := by
  constructor
  · intro hs
    have h9 : s < 9 := benes_length p z c ▸ (List.getElem?_eq_some_iff.1 hs).1
    exact ⟨h9, Option.some.inj ((benes_at p z c h9).symm.trans hs)⟩
  · rintro ⟨h9, rfl⟩
    exact benes_at p z c h9

/-! ## Where the cells and the boundaries take it -/

theorem bit_lineOut_zero (z c s l : Nat) : bit (lineOut z c s l) 0 = xor (bit l 0) (needs s l z c) := by
  simp [lineOut, bit_putBit]

theorem bit_lineOut_of_ne {k : Nat} (z c s l : Nat) (hk : k ≠ 0) : bit (lineOut z c s l) k = bit l k := by
  simp [lineOut, bit_putBit, hk]

theorem needs_of_lt {s : Nat} (l z c : Nat) (hs : s < 4) : needs s l z c = bit c s := by
  simp [needs, hs]

/-- The bit of the output line that a cell of stages 4-8 sets (R47). -/
def targetBit (s : Nat) : Nat := if s = 8 then 0 else s - 3

theorem xor_needs_of_le {s : Nat} (l z c : Nat) (hs : 4 ≤ s) : xor (bit l 0) (needs s l z c) = bit z (targetBit s) := by
  simp [needs, targetBit, Nat.not_lt.2 hs]

theorem boundary_lt {s : Nat} (hs : s < 8) : 0 < boundary s ∧ boundary s < 5 := by
  interval_cases s <;> decide

/-- From stage 4 on the boundary takes the bit a cell sets to its place in the output line. -/
theorem boundary_eq_targetBit {s : Nat} (h4 : 4 ≤ s) (h8 : s < 8) : boundary s = targetBit s := by
  interval_cases s <;> rfl

theorem lineOut_lt {l : Nat} (z c s : Nat) (hl : l < 2 ^ 5) : lineOut z c s l < 2 ^ 5 := putBit_lt hl (by decide) _

theorem lineAt_lt {p : Nat} (z c s : Nat) (hp : p < 2 ^ 5) : lineAt p z c s < 2 ^ 5 := by
  induction s with
  | zero => exact hp
  | succ s ih =>
    simp only [lineAt]
    split
    · next hs => exact swapBits_lt (lineOut_lt z c s ih) (boundary_lt hs).2
    · exact lineOut_lt z c s ih

theorem met_row_lt {p : Nat} (z c s : Nat) (hp : p < 2 ^ 5) : (met p z c s).1 < 16 :=
  Nat.div_lt_of_lt_mul (lineAt_lt z c s hp)

/-- Between two stages bit 0 and the bit of the boundary change places; the others stay (R46). -/
theorem bits_across_boundary {s : Nat} (p z c : Nat) (hs : s < 8) :
    let out := lineOut z c s (lineAt p z c s)
    bit (lineAt p z c (s + 1)) 0 = bit out (boundary s) ∧ bit (lineAt p z c (s + 1)) (boundary s) = bit out 0
      ∧ ∀ k, k ≠ 0 → k ≠ boundary s → bit (lineAt p z c (s + 1)) k = bit out k := by
  rw [lineAt_succ p z c hs]
  refine ⟨?_, ?_, fun k h0 hq => ?_⟩
  · rw [bit_swapBits, if_neg (boundary_lt hs).1.ne, if_pos rfl]
  · rw [bit_swapBits, if_pos rfl]
  · rw [bit_swapBits, if_neg hq, if_neg h0]

/-- What stages 4 to s - 1 have set stays in place: bits 1 to s - 4 of the line into stage s are the output line's. -/
theorem bit_lineAt_of_set (p z c : Nat) {s k : Nat} (h4 : 4 ≤ s) (h8 : s ≤ 8) (hk : 1 ≤ k) (hks : k ≤ s - 4) :
    bit (lineAt p z c s) k = bit z k := by
  induction s, h4 using Nat.le_induction with
  | base => omega
  | succ s h4 ih =>
    have hb : boundary s = s - 3 := by
      rw [boundary_eq_targetBit h4 h8, targetBit, if_neg (by omega)]
    obtain ⟨-, hset, hkept⟩ := bits_across_boundary p z c h8
    by_cases hq : k = boundary s
    · rw [hq, hset, bit_lineOut_zero, xor_needs_of_le _ _ _ h4, boundary_eq_targetBit h4 h8]
    · rw [hkept k (by omega) hq, bit_lineOut_of_ne _ _ _ _ (by omega), ih (by omega) (by omega)]

/-- The path leaves stage 8 on the output line. -/
theorem lineOut_eight {p z : Nat} (c : Nat) (hp : p < 2 ^ 5) (hz : z < 2 ^ 5) : lineOut z c 8 (lineAt p z c 8) = z := by
  refine eq_of_bits (lineOut_lt z c 8 (lineAt_lt z c 8 hp)) hz fun k hk => ?_
  rcases Nat.eq_zero_or_pos k with rfl | h0
  · rw [bit_lineOut_zero, xor_needs_of_le _ _ _ (by decide), targetBit, if_pos rfl]
  · rw [bit_lineOut_of_ne _ _ _ _ h0.ne', bit_lineAt_of_set p z c (by decide) le_rfl h0 (by omega)]

/-! ## Different routes are different paths -/

/-- The states of the cells of stages 0-3 spell the choice. -/
theorem choice_eq_of_states {p p' z z' c c' : Nat} (hc : c < 2 ^ 4) (hc' : c' < 2 ^ 4)
    (h : ∀ s < 4, (met p z c s).2.1 = (met p' z' c' s).2.1) : c = c' :=
  eq_of_bits hc hc' fun s hs => by simpa [met, needs_of_lt _ _ _ hs] using h s hs

theorem benes_inj {p z c c' : Nat} (hc : c < 2 ^ 4) (hc' : c' < 2 ^ 4) (h : benes p z c = benes p z c') : c = c' := by
  refine choice_eq_of_states (p := p) (p' := p) (z := z) (z' := z) hc hc' fun s hs => ?_
  have hm := congrArg (·[s]?) h
  simp only [benes_at _ _ _ (show s < 9 by omega), Option.some.injEq] at hm
  rw [hm]

theorem cellBlk_cellIx {b s r : Nat} (hs : s < 9) (hr : r < 16) : cellBlk (cellIx b s r) = b := by
  simp only [cellBlk, cellIx]; omega

theorem blockHops_length (b p z c : Nat) : (blockHops b p z c).length = 9 := by simp [blockHops, benes_length]

theorem blockHops_at {s : Nat} (b p z c : Nat) (hs : s < 9) : (blockHops b p z c)[s]? =
    some { cell := cellIx b s (met p z c s).1, cross := (met p z c s).2.1, line := (met p z c s).2.2 } := by
  simp [blockHops, List.getElem?_zipIdx, benes_at p z c hs]

/-- Equal paths of two blocks are of one block and one choice: by the cells met, and by the states of the first four. -/
theorem blockHops_inj {b b' p p' z z' c c' : Nat} (hp : p < 2 ^ 5) (hp' : p' < 2 ^ 5) (hc : c < 2 ^ 4) (hc' : c' < 2 ^ 4)
    (h : blockHops b p z c = blockHops b' p' z' c') : b = b' ∧ c = c' := by
  have hmet : ∀ s < 9, cellIx b s (met p z c s).1 = cellIx b' s (met p' z' c' s).1
      ∧ (met p z c s).2.1 = (met p' z' c' s).2.1 := by
    intro s hs
    have hm := congrArg (·[s]?) h
    simp only [blockHops_at _ _ _ _ hs, Option.some.injEq, Hop.mk.injEq] at hm
    obtain ⟨hcell, hstate, -⟩ := hm
    exact ⟨hcell, hstate⟩
  constructor
  · have hb := congrArg cellBlk (hmet 0 (by decide)).1
    rwa [cellBlk_cellIx (by decide) (met_row_lt z c 0 hp), cellBlk_cellIx (by decide) (met_row_lt z' c' 0 hp')] at hb
  · exact choice_eq_of_states hc hc' fun s h4 => (hmet s (by omega)).2

/-- Two routes of a circuit with equal paths are one: block by block. -/
theorem hops_inj {e : Ends} {r r' : Route} (hp : e.p < 2 ^ 5) (hb : e.b < 2 ^ 5) (hm : r.mid < 2 ^ 5) (hm' : r'.mid < 2 ^ 5)
    (hi : r.ing < 2 ^ 4) (hi' : r'.ing < 2 ^ 4) (hc : r.midc < 2 ^ 4) (hc' : r'.midc < 2 ^ 4) (he : r.egr < 2 ^ 4) (he' : r'.egr < 2 ^ 4)
    (h : hops e r = hops e r') : r = r' := by
  obtain ⟨hfront, hegr⟩ := List.append_inj h (by simp [blockHops_length])
  obtain ⟨hing, hmid⟩ := List.append_inj hfront (by simp [blockHops_length])
  have ing := (blockHops_inj hp hp hi hi' hing).2
  obtain ⟨mid, midc⟩ := blockHops_inj hb hb hc hc' hmid
  have egr := (blockHops_inj hm hm' he he' hegr).2
  cases r; cases r'
  rw [Route.mk.injEq]
  exact ⟨Nat.add_left_cancel mid, ing, midc, egr⟩

/-- Settles O20: each clause is a fact about the line the path enters a stage on. -/
theorem benesConnects : Obligations.BenesConnects := by
  unfold Obligations.BenesConnects
  refine ⟨fun p z c hp hz _ => ⟨benes_length p z c, ?start, ?finish, ?cells, ?boundaries⟩,
    fun p z c c' _ _ hc hc' h => benes_inj hc hc' h,
    fun e r r' hb hp _ _ hm hi hc he hm' hi' hc' he' h => hops_inj hp hb hm hm' hi hi' hc hc' he he' h⟩
  case start => rw [benes_at p z c (by decide)]; rfl
  case finish =>
    rw [benes_at p z c (by decide)]
    exact congrArg some (lineOut_eight c hp hz)
  case cells =>
    intro s h hs
    obtain ⟨h9, rfl⟩ := benes_at_iff.1 hs
    refine ⟨rfl, lineAt_lt z c s hp, needs_of_lt _ z c, fun h4 => ?_⟩
    have ht : targetBit s = [1, 2, 3, 4, 0].getD (s - 4) 0 := by interval_cases s <;> rfl
    exact ht ▸ xor_needs_of_le _ z c h4
  case boundaries =>
    intro s h g hs hg
    obtain ⟨-, rfl⟩ := benes_at_iff.1 hs
    obtain ⟨h8, rfl⟩ := benes_at_iff.1 hg
    obtain ⟨hzero, hset, hkept⟩ := bits_across_boundary p z c (s := s) (by omega)
    exact ⟨hzero, hset, fun k _ => hkept k⟩

end Sys2Proof.Machine
end

section
/-! SUPPORT. MAN_CTL.DISCARD (R251): the shadow copy and the staged ceilings back at what is in force, and MAN_STATUS.PENDING after it. -/

namespace Sys2Proof.Machine

/-! ## The places of the ceilings (R182) -/

theorem portLimitCeil_key_ne {o p : Nat} (h : o ≠ p) : (CAP_PORT_LIMIT_CEIL o).key ≠ (CAP_PORT_LIMIT_CEIL p).key := by
  simp only [CAP_PORT_LIMIT_CEIL, Fld.key]; omega

theorem portCeil_key_ne_limitCeil (o p : Nat) : (CAP_PORT_CEIL o).key ≠ (CAP_PORT_LIMIT_CEIL p).key := by
  simp only [CAP_PORT_CEIL, CAP_PORT_LIMIT_CEIL, Fld.key]; omega

theorem portLimitCeil_key_ne_pending (o : Nat) : (CAP_PORT_LIMIT_CEIL o).key ≠ MAN_STATUS_PENDING.key := by
  simp only [CAP_PORT_LIMIT_CEIL, MAN_STATUS_PENDING, Fld.key]; omega

/-! ## The staged ceilings put back -/

/-- The staged ceilings of the listed ports at those in force. -/
def Dev.recallCeils (d : Dev) (l : List (Nat × Nat)) : Dev :=
  l.foldl (fun (d : Dev) (x : Nat × Nat) => d.set (CAP_PORT_LIMIT_CEIL x.1) (d.get (CAP_PORT_CEIL x.1))) d

theorem Dev.recallCeils_cons (d : Dev) (x : Nat × Nat) (l : List (Nat × Nat)) :
    d.recallCeils (x :: l) = (d.set (CAP_PORT_LIMIT_CEIL x.1) (d.get (CAP_PORT_CEIL x.1))).recallCeils l := rfl

theorem Dev.recallCeils_onlyFields (d : Dev) (l : List (Nat × Nat)) :
    OnlyFields d (d.recallCeils l) (l.map (fun x => CAP_PORT_LIMIT_CEIL x.1)) := by
  induction l generalizing d with
  | nil => exact OnlyFields.refl d _
  | cons x l ih => exact (d.set_onlyFields _ _).trans (ih _)

/-- The ceilings in force stay. -/
@[simp] theorem Dev.get_portCeil_recallCeils (d : Dev) (l : List (Nat × Nat)) (o : Nat) :
    (d.recallCeils l).get (CAP_PORT_CEIL o) = d.get (CAP_PORT_CEIL o) := by
  refine (d.recallCeils_onlyFields l).2 _ fun g hg => ?_
  obtain ⟨x, -, rfl⟩ := List.mem_map.1 hg
  exact portCeil_key_ne_limitCeil o x.1

/-- A port not listed keeps its staged ceiling. -/
theorem Dev.get_limitCeil_recallCeils_of_not_mem (d : Dev) {l : List (Nat × Nat)} {o : Nat} (ho : o ∉ l.map (·.1)) :
    (d.recallCeils l).get (CAP_PORT_LIMIT_CEIL o) = d.get (CAP_PORT_LIMIT_CEIL o) := by
  refine (d.recallCeils_onlyFields l).2 _ fun g hg => ?_
  obtain ⟨x, hx, rfl⟩ := List.mem_map.1 hg
  exact portLimitCeil_key_ne fun h => ho (h ▸ List.mem_map_of_mem hx)

/-- A listed port's staged ceiling becomes the one in force, within the field's width. -/
theorem Dev.get_limitCeil_recallCeils_of_mem (d : Dev) {l : List (Nat × Nat)} {o : Nat} (ho : o ∈ l.map (·.1)) :
    (d.recallCeils l).get (CAP_PORT_LIMIT_CEIL o) = d.get (CAP_PORT_CEIL o) % 65536 := by
  induction l generalizing d with
  | nil => cases ho
  | cons x l ih =>
    rw [Dev.recallCeils_cons]
    by_cases hl : o ∈ l.map (·.1)
    · rw [ih _ hl, Dev.get_set_of_ne _ _ _ _ (portCeil_key_ne_limitCeil o x.1)]
    · have hx : o = x.1 := (List.mem_cons.1 ho).resolve_right hl
      rw [Dev.get_limitCeil_recallCeils_of_not_mem _ hl, hx, Dev.get_set_self]
      rfl

theorem Dev.mem_stagedCeils_ports (d : Dev) (o : Nat) :
    o ∈ d.stagedCeils.map (·.1) ↔ o < 512 ∧ d.get (CAP_PORT_LIMIT_CEIL o) ≠ d.get (CAP_PORT_CEIL o) := by
  simp [Dev.stagedCeils]

/-- Recalling the staged ceilings leaves none staged. -/
theorem Dev.get_limitCeil_recallCeils (d : Dev) {o : Nat} (ho : o < 512) (hw : d.get (CAP_PORT_CEIL o) < 65536) :
    (d.recallCeils d.stagedCeils).get (CAP_PORT_LIMIT_CEIL o) = d.get (CAP_PORT_CEIL o) := by
  by_cases hs : o ∈ d.stagedCeils.map (·.1)
  · rw [d.get_limitCeil_recallCeils_of_mem hs, Nat.mod_eq_of_lt hw]
  · rw [d.get_limitCeil_recallCeils_of_not_mem hs]
    by_contra hne
    exact hs ((d.mem_stagedCeils_ports o).2 ⟨ho, hne⟩)

theorem Dev.stagedCeils_eq_nil {d : Dev} (h : ∀ o < 512, d.get (CAP_PORT_LIMIT_CEIL o) = d.get (CAP_PORT_CEIL o)) :
    d.stagedCeils = [] := by
  simpa [Dev.stagedCeils] using h

/-! ## MAN_STATUS.PENDING -/

/-- The shadow copy and the staged ceilings as in force: nothing is pending. -/
theorem Dev.syncPending_of_clean {d : Dev} (hs : d.man.shadow.cells = d.man.active.cells.filter (fun c => stagedKey c.1))
    (hc : d.stagedCeils = []) : d.syncPending = d.set MAN_STATUS_PENDING 0 := by
  simp [Dev.syncPending, hs, hc, b2n]

/-! ## The command -/

/-- Every STAGED value of the shadow copy as in force. -/
def Dev.recallShadow (d : Dev) : Dev :=
  { d with man := { d.man with shadow := ⟨d.man.active.cells.filter (fun c => stagedKey c.1)⟩ } }

theorem Dev.rowDiscard_of_busy {d : Dev} (h : d.on MAN_STATUS_COMMIT_BUSY = true) :
    d.rowDiscard = d.set MAN_STATUS_COMMIT_ERR 1 := by
  simp [Dev.rowDiscard, h]

/-- With no commit under way the shadow copy and the ceilings are recalled, and nothing is pending. -/
theorem Dev.rowDiscard_of_idle {d : Dev} (h : d.on MAN_STATUS_COMMIT_BUSY = false) (hw : ∀ o < 512, d.get (CAP_PORT_CEIL o) < 65536) :
    d.rowDiscard = (d.recallShadow.recallCeils d.stagedCeils).set MAN_STATUS_PENDING 0 := by
  have hrow : d.rowDiscard = (d.recallShadow.recallCeils d.stagedCeils).syncPending := if_neg (by simp [h])
  have hman : (d.recallShadow.recallCeils d.stagedCeils).man = d.recallShadow.man := by
    rw [(d.recallShadow.recallCeils_onlyFields d.stagedCeils).1]
  rw [hrow, Dev.syncPending_of_clean (by rw [hman]; rfl)]
  refine Dev.stagedCeils_eq_nil fun o ho => ?_
  rw [Dev.get_portCeil_recallCeils]
  exact d.recallShadow.get_limitCeil_recallCeils ho (hw o ho)

theorem does_discard {s : State} {r : Requester} (h : Reached s r 0x10000) : Does (.discard r) s (s.dev.unlatch r).rowDiscard :=
  s.own_reached _ r _ (by decide) h

/-- Settles O53: the two branches of the row, a commit under way or not. -/
theorem discardRestoresShadow : Obligations.DiscardRestoresShadow := by
  unfold Obligations.DiscardRestoresShadow
  refine ⟨?idle, ?busy⟩
  case idle =>
    intro s r h hb hw
    have honly := ((s.dev.unlatch r).recallShadow.recallCeils_onlyFields (s.dev.unlatch r).stagedCeils).trans
      (Dev.set_onlyFields _ MAN_STATUS_PENDING 0)
    refine ⟨_, Dev.rowDiscard_of_idle (d := s.dev.unlatch r) hb hw ▸ does_discard h, ?man, fun o ho => ?ceil, Dev.get_set_self _ _ _, ?frame⟩
    case man => rw [honly.1]; rfl
    case ceil =>
      rw [Dev.get_set_of_ne _ _ _ _ (portLimitCeil_key_ne_pending o)]
      exact (s.dev.unlatch r).recallShadow.get_limitCeil_recallCeils ho (hw o ho)
    case frame => rw [honly.1]; rfl
  case busy =>
    intro s r h hb
    exact ⟨_, Dev.rowDiscard_of_busy (d := s.dev.unlatch r) hb ▸ does_discard h, Dev.get_set_self _ _ _, Dev.set_onlyFields _ _ _⟩

end Sys2Proof.Machine
end
